-- ==== Sys2Proof/Word.lean ====
section
/-! DEFINITION. The word types of the TR4096 and their plainest arithmetic. -/

namespace Sys2Proof

/-- A 32-bit register or cell value (R8, R39). -/
abbrev Word := BitVec 32
/-- A byte. -/
abbrev Byte := BitVec 8
/-- A token VALUE or a 64-bit memory word (R123, R72). -/
abbrev DWord := BitVec 64

/-- Bit `i` of `b` as a number. -/
def Bool.bit (b : Bool) : Nat := if b then 1 else 0

end Sys2Proof
end

