-- ==== Sys2Proof/Machine/Crc.lean ====
section
/-! DEFINITION. Cyclic redundancy checks: CRC-32C of planes and images (R65), CRC-16 of ring frames. -/

namespace Sys2Proof.Machine

/-- One bit of a reflected CRC. -/
def crcBit {w : Nat} (poly r : BitVec w) : BitVec w := if r.getLsbD 0 then (r >>> 1) ^^^ poly else r >>> 1

/-- One byte of a reflected CRC. -/
def crcByte {w : Nat} (poly r : BitVec w) (b : Byte) : BitVec w :=
  let r := r ^^^ b.zeroExtend w
  crcBit poly (crcBit poly (crcBit poly (crcBit poly (crcBit poly (crcBit poly (crcBit poly (crcBit poly r)))))))

/-- CRC-32C: polynomial 0x1EDC_6F41, reflected, initial value and final XOR 0xFFFF_FFFF (R65). -/
def crc32c (bs : List Byte) : Word := (bs.foldl (crcByte 0x82F63B78#32) 0xFFFFFFFF#32) ^^^ 0xFFFFFFFF#32

/-- CRC-16 of ring frames: polynomial 0x1021, initial value 0xFFFF (R467), most significant bit first (log entry 20). -/
def crc16 (bs : List Byte) : BitVec 16 :=
  bs.foldl (fun r b =>
    (List.range 8).foldl (fun r _ => if r.getLsbD 15 then (r <<< 1) ^^^ 0x1021#16 else r <<< 1) (r ^^^ BitVec.ofNat 16 (b.toNat * 256))) 0xFFFF#16

end Sys2Proof.Machine
end

