-- ==== Sys2Proof/Machine/RegTable.lean ====
section
/-! DEFINITION. The register map: the device address of every register (R36 and the block tables), and for the plain
part of each its reset value, writable bits and write-1-to-clear bits (R10, R11, R17). -/

namespace Sys2Proof.Machine

/-- A register or an array of registers of a block: first offset, distance, count, reset value on a TR4096L and on a TR4096A, the
bits a write sets (RW), the bits a write of 1 clears (W1C). Every other bit reads as stored and ignores writes. -/
structure RegDesc where
  off : Nat
  stride : Nat
  count : Nat
  reset : Nat
  resetA : Nat
  rw : Nat
  w1c : Nat
deriving DecidableEq, Repr

/-- The offset belongs to the entry. -/
def RegDesc.has (d : RegDesc) (o : Nat) : Bool :=
  decide (d.off ≤ o) && decide ((o - d.off) % d.stride = 0) && decide ((o - d.off) / d.stride < d.count)


/-! Block 0, SYS -/

abbrev SYS_DEVID : Nat := 0x2000000000
abbrev SYS_GRADE : Nat := 0x2000000004
abbrev SYS_DIEREV : Nat := 0x2000000008
abbrev SYS_UID_LO : Nat := 0x2000000010
abbrev SYS_UID_HI : Nat := 0x2000000014
abbrev SYS_RSTCAUSE : Nat := 0x2000000400
abbrev SYS_CRST : Nat := 0x2000000404
abbrev SYS_FLTSTAT : Nat := 0x2000000200
abbrev SYS_GUAR : Nat := 0x2000000204
abbrev SYS_PUPSETS : Nat := 0x2000000208
abbrev SYS_CHKFIX : Nat := 0x200000020C
abbrev SYS_FENCED : Nat := 0x2000000210
abbrev SYS_CNTOVF : Nat := 0x2000000214
abbrev SYS_INJ : Nat := 0x2000000220
abbrev SYS_FENCE (i : Nat) : Nat := 0x2000000300 + 0x4 * i

def regsSYS : List RegDesc := [
  ⟨0x0, 4, 1, 0x40965C11, 0x40965C11, 0x0, 0x0⟩,
  ⟨0x4, 4, 1, 0x0, 0x0, 0x0, 0x0⟩,
  ⟨0x8, 4, 1, 0x0, 0x0, 0x0, 0x0⟩,
  ⟨0x10, 4, 1, 0x0, 0x0, 0x0, 0x0⟩,
  ⟨0x14, 4, 1, 0x0, 0x0, 0x0, 0x0⟩,
  ⟨0x400, 4, 1, 0x0, 0x0, 0x0, 0x200⟩,
  ⟨0x404, 4, 1, 0x0, 0x0, 0x3FF, 0x30000000⟩,
  ⟨0x200, 4, 1, 0x0, 0x0, 0x0, 0x3F⟩,
  ⟨0x204, 4, 1, 0x0, 0x0, 0x0, 0x1FF⟩,
  ⟨0x208, 4, 1, 0x0, 0x0, 0x0, 0x0⟩,
  ⟨0x20C, 4, 1, 0x0, 0x0, 0x0, 0x0⟩,
  ⟨0x210, 4, 1, 0x0, 0x0, 0x0, 0x0⟩,
  ⟨0x214, 4, 1, 0x0, 0x0, 0x0, 0x3⟩,
  ⟨0x220, 4, 1, 0x0, 0x0, 0x7FFFFFF0, 0x0⟩,
  ⟨0x300, 4, 32, 0x0, 0x0, 0x0, 0x0⟩]

/-! Block 1, CLK -/

abbrev CLK_STATUS : Nat := 0x2000100000
abbrev CLK_CTRL : Nat := 0x2000100004
abbrev CLK_CMD : Nat := 0x2000100008
abbrev CLK_OBS : Nat := 0x200010000C
abbrev CLK_FAIL_LO : Nat := 0x2000100010
abbrev CLK_FAIL_HI : Nat := 0x2000100014
abbrev CLK_SRC : Nat := 0x2000100018
abbrev CLK_DAWNCAL : Nat := 0x200010001C
abbrev CLK_CGTO : Nat := 0x2000100020
abbrev CLK_CNTOVF : Nat := 0x2000100024
abbrev CLK_CNT (i : Nat) : Nat := 0x2000100100 + 0x4 * i

def regsCLK : List RegDesc := [
  ⟨0x0, 4, 1, 0x0, 0x0, 0x0, 0x7⟩,
  ⟨0x4, 4, 1, 0x1, 0x1, 0x3, 0x0⟩,
  ⟨0x8, 4, 1, 0x0, 0x0, 0x0, 0x0⟩,
  ⟨0xC, 4, 1, 0x0, 0x0, 0xBF00FFFF, 0x0⟩,
  ⟨0x10, 4, 1, 0x0, 0x0, 0x0, 0xFFFFFFFF⟩,
  ⟨0x14, 4, 1, 0x0, 0x0, 0x0, 0xFFFFFFFF⟩,
  ⟨0x18, 4, 1, 0x0, 0x0, 0x0, 0x0⟩,
  ⟨0x1C, 4, 1, 0x0, 0x0, 0x0, 0x0⟩,
  ⟨0x20, 4, 1, 0x0, 0x0, 0x0, 0x0⟩,
  ⟨0x24, 4, 1, 0x0, 0x0, 0x0, 0x1⟩,
  ⟨0x100, 4, 64, 0x0, 0x0, 0x0, 0x0⟩]

/-! Block 2, PWR -/

abbrev PWR_STATUS : Nat := 0x2000200000
abbrev PWR_DSEL : Nat := 0x2000200004
abbrev PWR_DCTL : Nat := 0x2000200008
abbrev PWR_DRES : Nat := 0x200020000C
abbrev PWR_CPOL : Nat := 0x2000200010
abbrev PWR_WAKES : Nat := 0x2000200014
abbrev PWR_CNTOVF : Nat := 0x2000200018
abbrev PWR_RDEEP (i : Nat) : Nat := 0x2000200020 + 0x4 * i
abbrev PWR_OPP (i : Nat) : Nat := 0x2000200100 + 0x4 * i

def regsPWR : List RegDesc := [
  ⟨0x0, 4, 1, 0x0, 0x0, 0x0, 0x7⟩,
  ⟨0x4, 4, 1, 0x0, 0x0, 0x7FF, 0x0⟩,
  ⟨0x8, 4, 1, 0x0, 0x0, 0x0, 0x0⟩,
  ⟨0xC, 4, 1, 0x0, 0x0, 0x0, 0x0⟩,
  ⟨0x10, 4, 1, 0x140E0010, 0x140E0010, 0x1F1F00FF, 0x0⟩,
  ⟨0x14, 4, 1, 0x0, 0x0, 0x0, 0x0⟩,
  ⟨0x18, 4, 1, 0x0, 0x0, 0x0, 0x1⟩,
  ⟨0x20, 4, 4, 0xFFFFFFFF, 0xFFFFFFFF, 0xFFFFFFFF, 0x0⟩,
  ⟨0x100, 4, 64, 0x3033, 0x2022, 0x3, 0x0⟩]

/-! Block 3, TH -/

abbrev TH_STATUS : Nat := 0x2000300000
abbrev TH_CTRL : Nat := 0x2000300004
abbrev TH_THR : Nat := 0x2000300008
abbrev TH_MICAK : Nat := 0x200030000C
abbrev TH_PLOW : Nat := 0x2000300010
abbrev TH_BANDS : Nat := 0x2000300014
abbrev TH_MAXDEV : Nat := 0x2000300018
abbrev TH_MAXDIE (i : Nat) : Nat := 0x2000300020 + 0x4 * i
abbrev TH_BROKEN_LO : Nat := 0x2000300040
abbrev TH_BROKEN_HI : Nat := 0x2000300044
abbrev TH_BCAP1 : Nat := 0x2000300048
abbrev TH_BCAP2 : Nat := 0x200030004C
abbrev TH_BCAP3 : Nat := 0x2000300050
abbrev TH_HALTS : Nat := 0x2000300060
abbrev TH_CNTOVF : Nat := 0x2000300064
abbrev TH_SENS (i : Nat) : Nat := 0x2000300100 + 0x4 * i
abbrev TH_REG (i : Nat) : Nat := 0x2000300200 + 0x4 * i

def regsTH : List RegDesc := [
  ⟨0x0, 4, 1, 0x0, 0x0, 0x0, 0x19F⟩,
  ⟨0x4, 4, 1, 0x105, 0x105, 0x10F, 0x0⟩,
  ⟨0x8, 4, 1, 0x0, 0x0, 0x0, 0x0⟩,
  ⟨0xC, 4, 1, 0x10, 0x10, 0xFF, 0x0⟩,
  ⟨0x10, 4, 1, 0x0, 0x0, 0x0, 0x0⟩,
  ⟨0x14, 4, 1, 0x555, 0x555, 0x0, 0x0⟩,
  ⟨0x18, 4, 1, 0x0, 0x0, 0x0, 0x0⟩,
  ⟨0x20, 4, 5, 0x0, 0x0, 0x0, 0x0⟩,
  ⟨0x40, 4, 1, 0x0, 0x0, 0x0, 0x0⟩,
  ⟨0x44, 4, 1, 0x0, 0x0, 0x0, 0x0⟩,
  ⟨0x48, 4, 1, 0x1F40, 0x1450, 0x3FFFF, 0x0⟩,
  ⟨0x4C, 4, 1, 0x1388, 0xC80, 0x3FFFF, 0x0⟩,
  ⟨0x50, 4, 1, 0x9C4, 0x640, 0x3FFFF, 0x0⟩,
  ⟨0x60, 4, 1, 0x0, 0x0, 0x0, 0x0⟩,
  ⟨0x64, 4, 1, 0x0, 0x0, 0x0, 0x1⟩,
  ⟨0x100, 4, 52, 0x0, 0x0, 0x0, 0x0⟩,
  ⟨0x200, 4, 64, 0x30, 0x20, 0x0, 0x0⟩]

/-! Block 4, AGE -/

abbrev AGE_STATUS : Nat := 0x2000400000
abbrev AGE_CTRL : Nat := 0x2000400004
abbrev AGE_PTIME : Nat := 0x2000400008
abbrev AGE_MEAS : Nat := 0x200040000C
abbrev AGE_CNTOVF : Nat := 0x2000400010
abbrev AGE_QM (i : Nat) : Nat := 0x2000400100 + 0x4 * i
abbrev AGE_OFF (i : Nat) : Nat := 0x2000400200 + 0x4 * i
abbrev AGE_BASE (i : Nat) : Nat := 0x2000400300 + 0x4 * i

def regsAGE : List RegDesc := [
  ⟨0x0, 4, 1, 0x0, 0x0, 0x0, 0x7⟩,
  ⟨0x4, 4, 1, 0x0, 0x0, 0x0, 0x0⟩,
  ⟨0x8, 4, 1, 0x0, 0x0, 0x0, 0x0⟩,
  ⟨0xC, 4, 1, 0x0, 0x0, 0x0, 0x0⟩,
  ⟨0x10, 4, 1, 0x0, 0x0, 0x0, 0x1⟩,
  ⟨0x100, 4, 48, 0x0, 0x0, 0x0, 0x0⟩,
  ⟨0x200, 4, 64, 0x0, 0x0, 0x0, 0x0⟩,
  ⟨0x300, 4, 64, 0x0, 0x0, 0x0, 0x0⟩]

/-! Block 5, CFG -/

abbrev CFG_STATUS : Nat := 0x2000500000
abbrev CFG_START : Nat := 0x2000500004
abbrev CFG_ERR : Nat := 0x2000500008
abbrev CFG_ERRDET : Nat := 0x200050000C
abbrev CFG_CMD : Nat := 0x2000500010
abbrev CFG_CONFIRM : Nat := 0x2000500014
abbrev CFG_FAILCNT : Nat := 0x2000500018
abbrev CFG_LDPROG : Nat := 0x200050001C
abbrev CFG_SSTAT (i : Nat) : Nat := 0x2000500040 + 0x40 * i
abbrev CFG_SVER (i : Nat) : Nat := 0x2000500044 + 0x40 * i
abbrev CFG_SARB (i : Nat) : Nat := 0x2000500048 + 0x40 * i
abbrev CFG_SDIGA (i : Nat) : Nat := 0x2000500050 + 0x4 * i
abbrev CFG_SDIGB (i : Nat) : Nat := 0x2000500090 + 0x4 * i

def regsCFG : List RegDesc := [
  ⟨0x0, 4, 1, 0x0, 0x0, 0x0, 0x38⟩,
  ⟨0x4, 4, 1, 0x0, 0x0, 0x0, 0x0⟩,
  ⟨0x8, 4, 1, 0x0, 0x0, 0x0, 0x0⟩,
  ⟨0xC, 4, 1, 0x0, 0x0, 0x0, 0x0⟩,
  ⟨0x10, 4, 1, 0x0, 0x0, 0x0, 0x0⟩,
  ⟨0x14, 4, 1, 0x0, 0x0, 0x0, 0x0⟩,
  ⟨0x18, 4, 1, 0x0, 0x0, 0x0, 0x0⟩,
  ⟨0x1C, 4, 1, 0x0, 0x0, 0x0, 0x0⟩,
  ⟨0x40, 64, 2, 0x0, 0x0, 0x0, 0x0⟩,
  ⟨0x44, 64, 2, 0x0, 0x0, 0x0, 0x0⟩,
  ⟨0x48, 64, 2, 0x0, 0x0, 0x0, 0x0⟩,
  ⟨0x50, 4, 12, 0x0, 0x0, 0x0, 0x0⟩,
  ⟨0x90, 4, 12, 0x0, 0x0, 0x0, 0x0⟩]

/-! Block 6, SEC -/

abbrev SEC_STATUS : Nat := 0x2000600000
abbrev SEC_PROV : Nat := 0x2000600004
abbrev SEC_ARBMIN : Nat := 0x2000600008
abbrev SEC_KEYMAP : Nat := 0x200060000C
abbrev SEC_ACMD : Nat := 0x2000600010
abbrev SEC_SESS : Nat := 0x2000600014
abbrev SEC_TARGET_LO : Nat := 0x2000600018
abbrev SEC_TARGET_HI : Nat := 0x200060001C
abbrev SEC_DLEN : Nat := 0x2000600020
abbrev SEC_SIGSLOT : Nat := 0x2000600024
abbrev SEC_NONCE (i : Nat) : Nat := 0x2000600040 + 0x4 * i
abbrev SEC_ARGDIG (i : Nat) : Nat := 0x2000600060 + 0x4 * i
abbrev SEC_DATA (i : Nat) : Nat := 0x2000600100 + 0x4 * i
abbrev SEC_SIG (i : Nat) : Nat := 0x2000600200 + 0x4 * i
abbrev SEC_EPUB (i : Nat) : Nat := 0x2000600300 + 0x4 * i
abbrev SEC_KEYPROG : Nat := 0x2000600400
abbrev SEC_AUTH : Nat := 0x2000600404
abbrev SEC_FPOL : Nat := 0x2000600408
abbrev SEC_ARBSET : Nat := 0x200060040C
abbrev SEC_RPOL : Nat := 0x2000600410
abbrev SEC_DBG : Nat := 0x2000600414
abbrev SEC_SECSP (i : Nat) : Nat := 0x2000600420 + 0x4 * i
abbrev SEC_SECG (i : Nat) : Nat := 0x2000600430 + 0x4 * i
abbrev SEC_RPOLR (i : Nat) : Nat := 0x2000600500 + 0x4 * i

def regsSEC : List RegDesc := [
  ⟨0x0, 4, 1, 0x0, 0x0, 0x0, 0x3⟩,
  ⟨0x4, 4, 1, 0x0, 0x0, 0x0, 0x0⟩,
  ⟨0x8, 4, 1, 0x0, 0x0, 0x0, 0x0⟩,
  ⟨0xC, 4, 1, 0x0, 0x0, 0x0, 0x0⟩,
  ⟨0x10, 4, 1, 0x0, 0x0, 0x0, 0x0⟩,
  ⟨0x14, 4, 1, 0x0, 0x0, 0x0, 0x0⟩,
  ⟨0x18, 4, 1, 0x0, 0x0, 0xFFFFFFFC, 0x0⟩,
  ⟨0x1C, 4, 1, 0x0, 0x0, 0xFFFF, 0x0⟩,
  ⟨0x20, 4, 1, 0x0, 0x0, 0x1FF, 0x0⟩,
  ⟨0x24, 4, 1, 0x0, 0x0, 0x7, 0x0⟩,
  ⟨0x40, 4, 8, 0x0, 0x0, 0x0, 0x0⟩,
  ⟨0x60, 4, 12, 0x0, 0x0, 0xFFFFFFFF, 0x0⟩,
  ⟨0x100, 4, 64, 0x0, 0x0, 0xFFFFFFFF, 0x0⟩,
  ⟨0x200, 4, 48, 0x0, 0x0, 0xFFFFFFFF, 0x0⟩,
  ⟨0x300, 4, 24, 0x0, 0x0, 0x0, 0x0⟩,
  ⟨0x400, 4, 1, 0x0, 0x0, 0x0, 0x0⟩,
  ⟨0x404, 4, 1, 0x0, 0x0, 0x0, 0x0⟩,
  ⟨0x408, 4, 1, 0x0, 0x0, 0x0, 0x0⟩,
  ⟨0x40C, 4, 1, 0x0, 0x0, 0x0, 0x0⟩,
  ⟨0x410, 4, 1, 0x0, 0x0, 0x0, 0x0⟩,
  ⟨0x414, 4, 1, 0x0, 0x0, 0x0, 0x0⟩,
  ⟨0x420, 4, 4, 0x0, 0x0, 0x0, 0x0⟩,
  ⟨0x430, 4, 2, 0x0, 0x0, 0x0, 0x0⟩,
  ⟨0x500, 4, 32, 0x77777777, 0x77777777, 0x0, 0x0⟩]

/-! Block 7, STRATA -/

abbrev STRATA_STATUS : Nat := 0x2000700000
abbrev STRATA_CTRL : Nat := 0x2000700004
abbrev STRATA_CMD : Nat := 0x2000700008
abbrev STRATA_RTC_LO : Nat := 0x2000700010
abbrev STRATA_RTC_HI : Nat := 0x2000700014
abbrev STRATA_UPT_LO : Nat := 0x2000700018
abbrev STRATA_UPT_HI : Nat := 0x200070001C
abbrev STRATA_RSEL : Nat := 0x2000700020
abbrev STRATA_NEWEST : Nat := 0x2000700024
abbrev STRATA_DROPCRIT : Nat := 0x2000700028
abbrev STRATA_DROPLOW : Nat := 0x200070002C
abbrev STRATA_CNTOVF : Nat := 0x2000700030
abbrev STRATA_SSEL : Nat := 0x2000700034
abbrev STRATA_REC (i : Nat) : Nat := 0x2000700040 + 0x4 * i
abbrev STRATA_SBIN (i : Nat) : Nat := 0x2000700080 + 0x4 * i
abbrev STRATA_SMAX : Nat := 0x20007000C0
abbrev STRATA_SMIN : Nat := 0x20007000C4
abbrev STRATA_SMAXT_LO : Nat := 0x20007000C8
abbrev STRATA_SMAXT_HI : Nat := 0x20007000CC
abbrev STRATA_SMINT_LO : Nat := 0x20007000D0
abbrev STRATA_SMINT_HI : Nat := 0x20007000D4
abbrev STRATA_QMON (i : Nat) : Nat := 0x2000700100 + 0x4 * i

def regsSTRATA : List RegDesc := [
  ⟨0x0, 4, 1, 0x0, 0x0, 0x0, 0xF⟩,
  ⟨0x4, 4, 1, 0x32, 0x32, 0x133, 0x0⟩,
  ⟨0x8, 4, 1, 0x0, 0x0, 0x0, 0x0⟩,
  ⟨0x10, 4, 1, 0x0, 0x0, 0x0, 0x0⟩,
  ⟨0x14, 4, 1, 0x0, 0x0, 0x0, 0x0⟩,
  ⟨0x18, 4, 1, 0x0, 0x0, 0x0, 0x0⟩,
  ⟨0x1C, 4, 1, 0x0, 0x0, 0x0, 0x0⟩,
  ⟨0x20, 4, 1, 0x0, 0x0, 0x7FFF, 0x0⟩,
  ⟨0x24, 4, 1, 0x0, 0x0, 0x0, 0x0⟩,
  ⟨0x28, 4, 1, 0x0, 0x0, 0x0, 0x0⟩,
  ⟨0x2C, 4, 1, 0x0, 0x0, 0x0, 0x0⟩,
  ⟨0x30, 4, 1, 0x0, 0x0, 0x0, 0x3⟩,
  ⟨0x34, 4, 1, 0x0, 0x0, 0x3FF, 0x0⟩,
  ⟨0x40, 4, 8, 0x0, 0x0, 0x0, 0x0⟩,
  ⟨0x80, 4, 16, 0x0, 0x0, 0x0, 0x0⟩,
  ⟨0xC0, 4, 1, 0x0, 0x0, 0x0, 0x0⟩,
  ⟨0xC4, 4, 1, 0x0, 0x0, 0x0, 0x0⟩,
  ⟨0xC8, 4, 1, 0x0, 0x0, 0x0, 0x0⟩,
  ⟨0xCC, 4, 1, 0x0, 0x0, 0x0, 0x0⟩,
  ⟨0xD0, 4, 1, 0x0, 0x0, 0x0, 0x0⟩,
  ⟨0xD4, 4, 1, 0x0, 0x0, 0x0, 0x0⟩,
  ⟨0x100, 4, 16, 0x0, 0x0, 0x8003FFFF, 0x0⟩]

/-! Block 8, SNAP -/

abbrev SNAP_STATUS : Nat := 0x2000800000
abbrev SNAP_CTRL : Nat := 0x2000800004
abbrev SNAP_TICK_LO : Nat := 0x2000800008
abbrev SNAP_TICK_HI : Nat := 0x200080000C
abbrev SNAP_ADDR_LO : Nat := 0x2000800010
abbrev SNAP_ADDR_HI : Nat := 0x2000800014
abbrev SNAP_DATA : Nat := 0x2000800018
abbrev SNAP_MISSED : Nat := 0x200080001C
abbrev SNAP_CNTOVF : Nat := 0x2000800020

def regsSNAP : List RegDesc := [
  ⟨0x0, 4, 1, 0x0, 0x0, 0x0, 0xF⟩,
  ⟨0x4, 4, 1, 0x8, 0x8, 0x1FFFF, 0x0⟩,
  ⟨0x8, 4, 1, 0x0, 0x0, 0x0, 0x0⟩,
  ⟨0xC, 4, 1, 0x0, 0x0, 0x0, 0x0⟩,
  ⟨0x10, 4, 1, 0x0, 0x0, 0xFFFFFFFC, 0x0⟩,
  ⟨0x14, 4, 1, 0x0, 0x0, 0xFFFF, 0x0⟩,
  ⟨0x18, 4, 1, 0x0, 0x0, 0x0, 0x0⟩,
  ⟨0x1C, 4, 1, 0x0, 0x0, 0x0, 0x0⟩,
  ⟨0x20, 4, 1, 0x0, 0x0, 0x0, 0x1⟩]

/-! Block 9, DSP -/

abbrev DSP_STATUS : Nat := 0x2000900000
abbrev DSP_CTRL : Nat := 0x2000900004
abbrev DSP_RORES : Nat := 0x2000900008
abbrev DSP_RRPTR : Nat := 0x200090000C
abbrev DSP_READY : Nat := 0x2000900010
abbrev DSP_CLAIMS : Nat := 0x2000900014
abbrev DSP_CNTOVF : Nat := 0x2000900018
abbrev DSP_CSEL : Nat := 0x200090001C
abbrev DSP_CMIRROR (i : Nat) : Nat := 0x2000900020 + 0x4 * i
abbrev DSP_REF (i : Nat) : Nat := 0x2000900040 + 0x4 * i
abbrev DSP_PLACED_LO : Nat := 0x2000900060
abbrev DSP_PLACED_HI : Nat := 0x2000900064
abbrev DSP_CTLTOK : Nat := 0x2000900068
abbrev DSP_PCW0 : Nat := 0x2000900080
abbrev DSP_PCW1 : Nat := 0x2000900084
abbrev DSP_PCW2 : Nat := 0x2000900088
abbrev DSP_PCW3 : Nat := 0x200090008C
abbrev DSP_OPPF : Nat := 0x2000900090
abbrev DSP_BUD (i : Nat) : Nat := 0x2000900100 + 0x4 * i
abbrev DSP_BCAP (i : Nat) : Nat := 0x2000900180 + 0x4 * i
abbrev DSP_SH (i : Nat) : Nat := 0x2000900200 + 0x4 * i
abbrev DSP_LOAD (i : Nat) : Nat := 0x2000900280 + 0x4 * i
abbrev DSP_HIST (i : Nat) : Nat := 0x2000901000 + 0x4 * i

def regsDSP : List RegDesc := [
  ⟨0x0, 4, 1, 0x0, 0x0, 0x0, 0x1⟩,
  ⟨0x4, 4, 1, 0x10, 0x10, 0x1F, 0x0⟩,
  ⟨0x8, 4, 1, 0x10000, 0x10000, 0x1FFFFF, 0x0⟩,
  ⟨0xC, 4, 1, 0x0, 0x0, 0x0, 0x0⟩,
  ⟨0x10, 4, 1, 0x0, 0x0, 0x0, 0x0⟩,
  ⟨0x14, 4, 1, 0x0, 0x0, 0x0, 0x0⟩,
  ⟨0x18, 4, 1, 0x0, 0x0, 0x0, 0x3FF⟩,
  ⟨0x1C, 4, 1, 0x0, 0x0, 0x3FF, 0x0⟩,
  ⟨0x20, 4, 7, 0x0, 0x0, 0x0, 0x0⟩,
  ⟨0x40, 4, 7, 0x0, 0x0, 0x0, 0x0⟩,
  ⟨0x60, 4, 1, 0x0, 0x0, 0x0, 0x0⟩,
  ⟨0x64, 4, 1, 0x0, 0x0, 0x0, 0x0⟩,
  ⟨0x68, 4, 1, 0x0, 0x0, 0x0, 0x0⟩,
  ⟨0x80, 4, 1, 0xA080604, 0xA080604, 0xFFFFFFFF, 0x0⟩,
  ⟨0x84, 4, 1, 0x12100E0C, 0x12100E0C, 0xFFFFFFFF, 0x0⟩,
  ⟨0x88, 4, 1, 0x1A181614, 0x1A181614, 0xFFFFFFFF, 0x0⟩,
  ⟨0x8C, 4, 1, 0x22201E1C, 0x22201E1C, 0xFFFFFFFF, 0x0⟩,
  ⟨0x90, 4, 1, 0x100B0704, 0x100B0704, 0x1F1F1F1F, 0x0⟩,
  ⟨0x100, 4, 32, 0x2BC0, 0x1C20, 0x3FFFF, 0x0⟩,
  ⟨0x180, 4, 32, 0x3FFFF, 0x3FFFF, 0x0, 0x0⟩,
  ⟨0x200, 4, 32, 0x0, 0x0, 0x0, 0x0⟩,
  ⟨0x280, 4, 32, 0x0, 0x0, 0x0, 0x0⟩,
  ⟨0x1000, 4, 128, 0x0, 0x0, 0x0, 0x0⟩]

/-! Block 10, MST -/

abbrev MST_STATUS : Nat := 0x2000A00000
abbrev MST_CRES : Nat := 0x2000A00004
abbrev MST_TASKLIM : Nat := 0x2000A00008
abbrev MST_SLOTS : Nat := 0x2000A0000C
abbrev MST_SHFREE : Nat := 0x2000A00010
abbrev MST_CRUSED : Nat := 0x2000A00014
abbrev MST_PENDING : Nat := 0x2000A00018
abbrev MST_FIRED : Nat := 0x2000A0001C
abbrev MST_STICKY : Nat := 0x2000A00020
abbrev MST_ERRHOLD : Nat := 0x2000A00024
abbrev MST_CNTOVF : Nat := 0x2000A00028
abbrev MST_RES (i : Nat) : Nat := 0x2000A00040 + 0x4 * i
abbrev MST_USED (i : Nat) : Nat := 0x2000A00060 + 0x4 * i
abbrev MST_REF (i : Nat) : Nat := 0x2000A00080 + 0x4 * i
abbrev MST_ABORT (i : Nat) : Nat := 0x2000A00100 + 0x4 * i
abbrev MST_REPLAYS : Nat := 0x2000A00120
abbrev MST_ERRTOKS : Nat := 0x2000A00124
abbrev MST_COMMITS_LO : Nat := 0x2000A00128
abbrev MST_COMMITS_HI : Nat := 0x2000A0012C

def regsMST : List RegDesc := [
  ⟨0x0, 4, 1, 0x0, 0x0, 0x0, 0xF⟩,
  ⟨0x4, 4, 1, 0x10000, 0x10000, 0x1FFFFF, 0x0⟩,
  ⟨0x8, 4, 1, 0x18, 0x18, 0x1F, 0x0⟩,
  ⟨0xC, 4, 1, 0x180000, 0x180000, 0x0, 0x0⟩,
  ⟨0x10, 4, 1, 0x0, 0x0, 0x0, 0x0⟩,
  ⟨0x14, 4, 1, 0x0, 0x0, 0x0, 0x0⟩,
  ⟨0x18, 4, 1, 0x0, 0x0, 0x0, 0x0⟩,
  ⟨0x1C, 4, 1, 0x0, 0x0, 0x0, 0x0⟩,
  ⟨0x20, 4, 1, 0x0, 0x0, 0x0, 0x0⟩,
  ⟨0x24, 4, 1, 0x0, 0x0, 0x0, 0x0⟩,
  ⟨0x28, 4, 1, 0x0, 0x0, 0x0, 0x3FFFF⟩,
  ⟨0x40, 4, 8, 0x4000, 0x4000, 0x1FFFFF, 0x0⟩,
  ⟨0x60, 4, 8, 0x0, 0x0, 0x0, 0x0⟩,
  ⟨0x80, 4, 8, 0x0, 0x0, 0x0, 0x0⟩,
  ⟨0x100, 4, 8, 0x0, 0x0, 0x0, 0x0⟩,
  ⟨0x120, 4, 1, 0x0, 0x0, 0x0, 0x0⟩,
  ⟨0x124, 4, 1, 0x0, 0x0, 0x0, 0x0⟩,
  ⟨0x128, 4, 1, 0x0, 0x0, 0x0, 0x0⟩,
  ⟨0x12C, 4, 1, 0x0, 0x0, 0x0, 0x0⟩]

/-! Block 11, FLOW -/

abbrev FLOW_STATUS : Nat := 0x2000B00000
abbrev FLOW_QSEL : Nat := 0x2000B00004
abbrev FLOW_QREC (i : Nat) : Nat := 0x2000B00010 + 0x4 * i
abbrev FLOW_QDEPTH : Nat := 0x2000B00020
abbrev FLOW_ORD : Nat := 0x2000B00024
abbrev FLOW_RFREE : Nat := 0x2000B00028
abbrev FLOW_PARK_LO : Nat := 0x2000B0002C
abbrev FLOW_PARK_HI : Nat := 0x2000B00030
abbrev FLOW_WMQ : Nat := 0x2000B00034
abbrev FLOW_XST : Nat := 0x2000B00038
abbrev FLOW_ENQREF : Nat := 0x2000B0003C
abbrev FLOW_PUSH (i : Nat) : Nat := 0x2000B00040 + 0x4 * i
abbrev FLOW_POP (i : Nat) : Nat := 0x2000B00050 + 0x4 * i
abbrev FLOW_ERRQ : Nat := 0x2000B00060

def regsFLOW : List RegDesc := [
  ⟨0x0, 4, 1, 0x0, 0x0, 0x0, 0xF⟩,
  ⟨0x4, 4, 1, 0x0, 0x0, 0x3FFFF, 0x0⟩,
  ⟨0x10, 4, 4, 0x0, 0x0, 0xFFFFFFFF, 0x0⟩,
  ⟨0x20, 4, 1, 0x0, 0x0, 0x0, 0x0⟩,
  ⟨0x24, 4, 1, 0x0, 0x0, 0x0, 0x0⟩,
  ⟨0x28, 4, 1, 0x0, 0x0, 0x0, 0x0⟩,
  ⟨0x2C, 4, 1, 0x0, 0x0, 0xFF000000, 0x0⟩,
  ⟨0x30, 4, 1, 0x0, 0x0, 0xFFFF, 0x0⟩,
  ⟨0x34, 4, 1, 0x0, 0x0, 0x0, 0x0⟩,
  ⟨0x38, 4, 1, 0x0, 0x0, 0x0, 0x0⟩,
  ⟨0x3C, 4, 1, 0x0, 0x0, 0x0, 0x0⟩,
  ⟨0x40, 4, 4, 0x0, 0x0, 0x0, 0x0⟩,
  ⟨0x50, 4, 4, 0x0, 0x0, 0x0, 0x0⟩,
  ⟨0x60, 4, 1, 0x0, 0x0, 0x3FFFF, 0x0⟩]

/-! Block 12, NOC -/

abbrev NOC_STATUS : Nat := 0x2000C00000
abbrev NOC_RSEL : Nat := 0x2000C00004
abbrev NOC_RCTL : Nat := 0x2000C00008
abbrev NOC_RCFG : Nat := 0x2000C0000C
abbrev NOC_PSEL : Nat := 0x2000C00010
abbrev NOC_PCTL : Nat := 0x2000C00014
abbrev NOC_BNCDLY : Nat := 0x2000C00018
abbrev NOC_BOUNCES : Nat := 0x2000C0001C
abbrev NOC_CNTOVF : Nat := 0x2000C00020
abbrev NOC_PFLITS_LO : Nat := 0x2000C00028
abbrev NOC_PFLITS_HI : Nat := 0x2000C0002C
abbrev NOC_PWAIT_LO : Nat := 0x2000C00030
abbrev NOC_PWAIT_HI : Nat := 0x2000C00034

def regsNOC : List RegDesc := [
  ⟨0x0, 4, 1, 0x0, 0x0, 0x0, 0xF⟩,
  ⟨0x4, 4, 1, 0x0, 0x0, 0x37F, 0x0⟩,
  ⟨0x8, 4, 1, 0x0, 0x0, 0x0, 0x0⟩,
  ⟨0xC, 4, 1, 0x108, 0x108, 0x0, 0x0⟩,
  ⟨0x10, 4, 1, 0x0, 0x0, 0x7, 0x0⟩,
  ⟨0x14, 4, 1, 0x0, 0x0, 0x0, 0x0⟩,
  ⟨0x18, 4, 1, 0x40, 0x40, 0xFFFF, 0x0⟩,
  ⟨0x1C, 4, 1, 0x0, 0x0, 0x0, 0x0⟩,
  ⟨0x20, 4, 1, 0x0, 0x0, 0x0, 0x7⟩,
  ⟨0x28, 4, 1, 0x0, 0x0, 0x0, 0x0⟩,
  ⟨0x2C, 4, 1, 0x0, 0x0, 0x0, 0x0⟩,
  ⟨0x30, 4, 1, 0x0, 0x0, 0x0, 0x0⟩,
  ⟨0x34, 4, 1, 0x0, 0x0, 0x0, 0x0⟩]

/-! Block 13, CACHE -/

abbrev CACHE_STATUS : Nat := 0x2000D00000
abbrev CACHE_SSEL : Nat := 0x2000D00004
abbrev CACHE_LOCK : Nat := 0x2000D00008
abbrev CACHE_MOP : Nat := 0x2000D0000C
abbrev CACHE_MBASE_LO : Nat := 0x2000D00010
abbrev CACHE_MBASE_HI : Nat := 0x2000D00014
abbrev CACHE_MLEN_LO : Nat := 0x2000D00018
abbrev CACHE_MLEN_HI : Nat := 0x2000D0001C
abbrev CACHE_HITS : Nat := 0x2000D00020
abbrev CACHE_MISSES : Nat := 0x2000D00024
abbrev CACHE_WBACKS : Nat := 0x2000D00028
abbrev CACHE_CNTOVF : Nat := 0x2000D0002C

def regsCACHE : List RegDesc := [
  ⟨0x0, 4, 1, 0x0, 0x0, 0x0, 0x3⟩,
  ⟨0x4, 4, 1, 0x0, 0x0, 0xFF, 0x0⟩,
  ⟨0x8, 4, 1, 0x0, 0x0, 0x0, 0x0⟩,
  ⟨0xC, 4, 1, 0x0, 0x0, 0x3F37, 0x0⟩,
  ⟨0x10, 4, 1, 0x0, 0x0, 0xFFFFFF00, 0x0⟩,
  ⟨0x14, 4, 1, 0x0, 0x0, 0xFFFF, 0x0⟩,
  ⟨0x18, 4, 1, 0x0, 0x0, 0xFFFFFF00, 0x0⟩,
  ⟨0x1C, 4, 1, 0x0, 0x0, 0xFFFF, 0x0⟩,
  ⟨0x20, 4, 1, 0x0, 0x0, 0x0, 0x0⟩,
  ⟨0x24, 4, 1, 0x0, 0x0, 0x0, 0x0⟩,
  ⟨0x28, 4, 1, 0x0, 0x0, 0x0, 0x0⟩,
  ⟨0x2C, 4, 1, 0x0, 0x0, 0x0, 0x0⟩]

/-! Block 14, SPAD -/

abbrev SPAD_STATUS : Nat := 0x2000E00000
abbrev SPAD_VCOUNT : Nat := 0x2000E00004
abbrev SPAD_VADDR_LO : Nat := 0x2000E00008
abbrev SPAD_VADDR_HI : Nat := 0x2000E0000C
abbrev SPAD_VINFO : Nat := 0x2000E00010
abbrev SPAD_CNTOVF : Nat := 0x2000E00014
abbrev SPAD_BANK (i : Nat) : Nat := 0x2000E00100 + 0x4 * i

def regsSPAD : List RegDesc := [
  ⟨0x0, 4, 1, 0x0, 0x0, 0x0, 0x3⟩,
  ⟨0x4, 4, 1, 0x0, 0x0, 0x0, 0x0⟩,
  ⟨0x8, 4, 1, 0x0, 0x0, 0x0, 0x0⟩,
  ⟨0xC, 4, 1, 0x0, 0x0, 0x0, 0x0⟩,
  ⟨0x10, 4, 1, 0x0, 0x0, 0x0, 0x0⟩,
  ⟨0x14, 4, 1, 0x0, 0x0, 0x0, 0x1⟩,
  ⟨0x100, 4, 128, 0xFF, 0xFF, 0x1FF, 0x0⟩]

/-! Block 15, GARNET -/

abbrev GARNET_STATUS : Nat := 0x2000F00000
abbrev GARNET_FENCE : Nat := 0x2000F00004
abbrev GARNET_FSEQ : Nat := 0x2000F00008
abbrev GARNET_WBUF : Nat := 0x2000F0000C
abbrev GARNET_WLCFG : Nat := 0x2000F00010
abbrev GARNET_WEARMAX : Nat := 0x2000F00014
abbrev GARNET_WRITES_LO : Nat := 0x2000F00018
abbrev GARNET_WRITES_HI : Nat := 0x2000F0001C
abbrev GARNET_CNTOVF : Nat := 0x2000F00020

def regsGARNET : List RegDesc := [
  ⟨0x0, 4, 1, 0x0, 0x0, 0x0, 0x38⟩,
  ⟨0x4, 4, 1, 0x0, 0x0, 0x0, 0x0⟩,
  ⟨0x8, 4, 1, 0x0, 0x0, 0x0, 0x0⟩,
  ⟨0xC, 4, 1, 0x0, 0x0, 0x0, 0x0⟩,
  ⟨0x10, 4, 1, 0x6, 0x6, 0xF, 0x0⟩,
  ⟨0x14, 4, 1, 0x0, 0x0, 0x0, 0x0⟩,
  ⟨0x18, 4, 1, 0x0, 0x0, 0x0, 0x0⟩,
  ⟨0x1C, 4, 1, 0x0, 0x0, 0x0, 0x0⟩,
  ⟨0x20, 4, 1, 0x0, 0x0, 0x0, 0x1⟩]

/-! Block 16, ECC -/

abbrev ECC_STATUS : Nat := 0x2001000000
abbrev ECC_SCTRL : Nat := 0x2001000004
abbrev ECC_SBASE_LO : Nat := 0x2001000008
abbrev ECC_SBASE_HI : Nat := 0x200100000C
abbrev ECC_SLEN_LO : Nat := 0x2001000010
abbrev ECC_SLEN_HI : Nat := 0x2001000014
abbrev ECC_SWORDS_LO : Nat := 0x2001000018
abbrev ECC_SWORDS_HI : Nat := 0x200100001C
abbrev ECC_SCORR : Nat := 0x2001000020
abbrev ECC_SUNC : Nat := 0x2001000024
abbrev ECC_SFIRST_LO : Nat := 0x2001000028
abbrev ECC_SFIRST_HI : Nat := 0x200100002C
abbrev ECC_SLAST_LO : Nat := 0x2001000030
abbrev ECC_SLAST_HI : Nat := 0x2001000034
abbrev ECC_SWORST_LO : Nat := 0x2001000038
abbrev ECC_SWORST_HI : Nat := 0x200100003C
abbrev ECC_SWCNT : Nat := 0x2001000040
abbrev ECC_CECNT : Nat := 0x2001000044
abbrev ECC_UECNT : Nat := 0x2001000048
abbrev ECC_CNTOVF : Nat := 0x200100004C
abbrev ECC_EADDR_LO : Nat := 0x2001000050
abbrev ECC_EADDR_HI : Nat := 0x2001000054
abbrev ECC_EINFO : Nat := 0x2001000058
abbrev ECC_MBFLUSH : Nat := 0x2001000060
abbrev ECC_RTSEL : Nat := 0x2001000064
abbrev ECC_RTENT : Nat := 0x2001000068
abbrev ECC_RTCOUNT : Nat := 0x200100006C

def regsECC : List RegDesc := [
  ⟨0x0, 4, 1, 0x0, 0x0, 0x0, 0x77⟩,
  ⟨0x4, 4, 1, 0x4, 0x4, 0x10F, 0x0⟩,
  ⟨0x8, 4, 1, 0x0, 0x0, 0xFFFFFFC0, 0x0⟩,
  ⟨0xC, 4, 1, 0x0, 0x0, 0xFFFF, 0x0⟩,
  ⟨0x10, 4, 1, 0x0, 0x0, 0xFFFFFFC0, 0x0⟩,
  ⟨0x14, 4, 1, 0x0, 0x0, 0xFFFF, 0x0⟩,
  ⟨0x18, 4, 1, 0x0, 0x0, 0x0, 0x0⟩,
  ⟨0x1C, 4, 1, 0x0, 0x0, 0x0, 0x0⟩,
  ⟨0x20, 4, 1, 0x0, 0x0, 0x0, 0x0⟩,
  ⟨0x24, 4, 1, 0x0, 0x0, 0x0, 0x0⟩,
  ⟨0x28, 4, 1, 0x0, 0x0, 0x0, 0x0⟩,
  ⟨0x2C, 4, 1, 0x0, 0x0, 0x0, 0x0⟩,
  ⟨0x30, 4, 1, 0x0, 0x0, 0x0, 0x0⟩,
  ⟨0x34, 4, 1, 0x0, 0x0, 0x0, 0x0⟩,
  ⟨0x38, 4, 1, 0x0, 0x0, 0x0, 0x0⟩,
  ⟨0x3C, 4, 1, 0x0, 0x0, 0x0, 0x0⟩,
  ⟨0x40, 4, 1, 0x0, 0x0, 0x0, 0x0⟩,
  ⟨0x44, 4, 1, 0x0, 0x0, 0x0, 0x0⟩,
  ⟨0x48, 4, 1, 0x0, 0x0, 0x0, 0x0⟩,
  ⟨0x4C, 4, 1, 0x0, 0x0, 0x0, 0x1F⟩,
  ⟨0x50, 4, 1, 0x0, 0x0, 0x0, 0x0⟩,
  ⟨0x54, 4, 1, 0x0, 0x0, 0x0, 0x0⟩,
  ⟨0x58, 4, 1, 0x0, 0x0, 0x0, 0x0⟩,
  ⟨0x60, 4, 1, 0x0, 0x0, 0x0, 0x0⟩,
  ⟨0x64, 4, 1, 0x0, 0x0, 0xFF, 0x0⟩,
  ⟨0x68, 4, 1, 0x0, 0x0, 0x0, 0x0⟩,
  ⟨0x6C, 4, 1, 0x0, 0x0, 0x0, 0x0⟩]

/-! Block 17, MARCH -/

abbrev MARCH_STATUS : Nat := 0x2001100000
abbrev MARCH_CTRL : Nat := 0x2001100004
abbrev MARCH_FAILS : Nat := 0x2001100008
abbrev MARCH_RSEL : Nat := 0x200110000C
abbrev MARCH_RMAP : Nat := 0x2001100010

def regsMARCH : List RegDesc := [
  ⟨0x0, 4, 1, 0x0, 0x0, 0x0, 0x1E⟩,
  ⟨0x4, 4, 1, 0x40000, 0x40000, 0xCFFFF, 0x0⟩,
  ⟨0x8, 4, 1, 0x0, 0x0, 0x0, 0x0⟩,
  ⟨0xC, 4, 1, 0x0, 0x0, 0xFFFF, 0x0⟩,
  ⟨0x10, 4, 1, 0x0, 0x0, 0x0, 0x0⟩]

/-! Block 18, DDR -/

abbrev DDR_STATUS : Nat := 0x2001200000
abbrev DDR_CFG : Nat := 0x2001200004
abbrev DDR_CTRL : Nat := 0x2001200008
abbrev DDR_LPCFG : Nat := 0x200120000C
abbrev DDR_RSEL : Nat := 0x2001200010
abbrev DDR_RENT (i : Nat) : Nat := 0x2001200014 + 0x4 * i
abbrev DDR_CHSEL : Nat := 0x2001200024
abbrev DDR_CHSTAT : Nat := 0x2001200028

def regsDDR : List RegDesc := [
  ⟨0x0, 4, 1, 0x0, 0x0, 0x0, 0x1C⟩,
  ⟨0x4, 4, 1, 0x0, 0x0, 0xF3, 0x0⟩,
  ⟨0x8, 4, 1, 0x0, 0x0, 0x0, 0x0⟩,
  ⟨0xC, 4, 1, 0x40000040, 0x40000040, 0xFFFFFFFF, 0x0⟩,
  ⟨0x10, 4, 1, 0x0, 0x0, 0xFF, 0x0⟩,
  ⟨0x14, 4, 4, 0x0, 0x0, 0x0, 0x0⟩,
  ⟨0x24, 4, 1, 0x0, 0x0, 0xF, 0x0⟩,
  ⟨0x28, 4, 1, 0x0, 0x0, 0x0, 0x0⟩]

/-! Block 19, MCE -/

abbrev MCE_STATUS : Nat := 0x2001300000
abbrev MCE_KIDALLOC : Nat := 0x2001300004
abbrev MCE_KIDCMD : Nat := 0x2001300008
abbrev MCE_KIDST (i : Nat) : Nat := 0x2001300010 + 0x4 * i
abbrev MCE_RKCMD : Nat := 0x2001300020
abbrev MCE_RKSTAT : Nat := 0x2001300024
abbrev MCE_FADDR_LO : Nat := 0x2001300028
abbrev MCE_FADDR_HI : Nat := 0x200130002C
abbrev MCE_TAGFAIL : Nat := 0x2001300030
abbrev MCE_PGREENC : Nat := 0x2001300034
abbrev MCE_TREEFIX : Nat := 0x2001300038
abbrev MCE_MDHITS : Nat := 0x200130003C
abbrev MCE_MDMISSES : Nat := 0x2001300040
abbrev MCE_CNTOVF : Nat := 0x2001300044

def regsMCE : List RegDesc := [
  ⟨0x0, 4, 1, 0x0, 0x0, 0x0, 0x1F⟩,
  ⟨0x4, 4, 1, 0x0, 0x0, 0x0, 0x0⟩,
  ⟨0x8, 4, 1, 0x0, 0x0, 0x0, 0x0⟩,
  ⟨0x10, 4, 4, 0x0, 0x0, 0x0, 0x0⟩,
  ⟨0x20, 4, 1, 0x0, 0x0, 0x0, 0x0⟩,
  ⟨0x24, 4, 1, 0x0, 0x0, 0x0, 0x0⟩,
  ⟨0x28, 4, 1, 0x0, 0x0, 0x0, 0x0⟩,
  ⟨0x2C, 4, 1, 0x0, 0x0, 0x0, 0x0⟩,
  ⟨0x30, 4, 1, 0x0, 0x0, 0x0, 0x0⟩,
  ⟨0x34, 4, 1, 0x0, 0x0, 0x0, 0x0⟩,
  ⟨0x38, 4, 1, 0x0, 0x0, 0x0, 0x0⟩,
  ⟨0x3C, 4, 1, 0x0, 0x0, 0x0, 0x0⟩,
  ⟨0x40, 4, 1, 0x0, 0x0, 0x0, 0x0⟩,
  ⟨0x44, 4, 1, 0x0, 0x0, 0x0, 0x1F⟩]

/-! Block 20, LANE -/

abbrev LANE_STATUS : Nat := 0x2001400000
abbrev LANE_SEL : Nat := 0x2001400004
abbrev LANE_LCFG : Nat := 0x2001400008
abbrev LANE_LQ : Nat := 0x200140000C
abbrev LANE_LST : Nat := 0x2001400010
abbrev LANE_PRBS : Nat := 0x2001400014
abbrev LANE_PRBSERR : Nat := 0x2001400018
abbrev LANE_BIPERR : Nat := 0x200140001C
abbrev LANE_RXDROP : Nat := 0x2001400020
abbrev LANE_FRMERR : Nat := 0x2001400024
abbrev LANE_CNTOVF : Nat := 0x2001400028
abbrev LANE_LPCFG : Nat := 0x200140002C
abbrev LANE_EQ (i : Nat) : Nat := 0x2001400040 + 0x4 * i
abbrev LANE_IDESC_A (i : Nat) : Nat := 0x2001400080 + 0x8 * i
abbrev LANE_IDESC_B (i : Nat) : Nat := 0x2001400084 + 0x8 * i
abbrev LANE_GRATE (i : Nat) : Nat := 0x2001400100 + 0x4 * i

def regsLANE : List RegDesc := [
  ⟨0x0, 4, 1, 0x0, 0x0, 0x0, 0x3F⟩,
  ⟨0x4, 4, 1, 0x0, 0x0, 0x3F, 0x0⟩,
  ⟨0x8, 4, 1, 0x1000, 0x1000, 0xFFF8FFFF, 0x0⟩,
  ⟨0xC, 4, 1, 0x0, 0x0, 0x3FFFF, 0x0⟩,
  ⟨0x10, 4, 1, 0x0, 0x0, 0x0, 0x0⟩,
  ⟨0x14, 4, 1, 0x0, 0x0, 0xF000001F, 0x0⟩,
  ⟨0x18, 4, 1, 0x0, 0x0, 0x0, 0x0⟩,
  ⟨0x1C, 4, 1, 0x0, 0x0, 0x0, 0x0⟩,
  ⟨0x20, 4, 1, 0x0, 0x0, 0x0, 0x0⟩,
  ⟨0x24, 4, 1, 0x0, 0x0, 0x0, 0x0⟩,
  ⟨0x28, 4, 1, 0x0, 0x0, 0x0, 0xF⟩,
  ⟨0x2C, 4, 1, 0xF01000, 0xF01000, 0xFFFFFFFF, 0x0⟩,
  ⟨0x40, 4, 4, 0x0, 0x0, 0x3FFFF, 0x0⟩,
  ⟨0x80, 8, 16, 0x0, 0x0, 0xFEFFF000, 0x0⟩,
  ⟨0x84, 8, 16, 0x0, 0x0, 0x3FFFF, 0x0⟩,
  ⟨0x100, 4, 12, 0x0, 0x0, 0x7FFF, 0x0⟩]

/-! Block 21, HALO -/

abbrev HALO_STATUS : Nat := 0x2001500000
abbrev HALO_CTRL : Nat := 0x2001500004
abbrev HALO_POS : Nat := 0x2001500008
abbrev HALO_LOOP : Nat := 0x200150000C
abbrev HALO_TXCTL : Nat := 0x2001500010
abbrev HALO_TXST : Nat := 0x2001500014
abbrev HALO_RXST : Nat := 0x2001500018
abbrev HALO_BOLT : Nat := 0x200150001C
abbrev HALO_CRCERR : Nat := 0x2001500020
abbrev HALO_CNTOVF : Nat := 0x2001500024
abbrev HALO_TXBUF (i : Nat) : Nat := 0x2001500040 + 0x4 * i
abbrev HALO_RXBUF (i : Nat) : Nat := 0x2001500080 + 0x4 * i

def regsHALO : List RegDesc := [
  ⟨0x0, 4, 1, 0x0, 0x0, 0x0, 0xCF⟩,
  ⟨0x4, 4, 1, 0x20000400, 0x20000400, 0xF000FFFF, 0x0⟩,
  ⟨0x8, 4, 1, 0x0, 0x0, 0x0, 0x0⟩,
  ⟨0xC, 4, 1, 0x0, 0x0, 0x0, 0x0⟩,
  ⟨0x10, 4, 1, 0x0, 0x0, 0x7FFF, 0x0⟩,
  ⟨0x14, 4, 1, 0x0, 0x0, 0x0, 0x0⟩,
  ⟨0x18, 4, 1, 0x0, 0x0, 0x0, 0x0⟩,
  ⟨0x1C, 4, 1, 0x0, 0x0, 0x0, 0x0⟩,
  ⟨0x20, 4, 1, 0x0, 0x0, 0x0, 0x0⟩,
  ⟨0x24, 4, 1, 0x0, 0x0, 0x0, 0x1⟩,
  ⟨0x40, 4, 16, 0x0, 0x0, 0xFFFFFFFF, 0x0⟩,
  ⟨0x80, 4, 16, 0x0, 0x0, 0x0, 0x0⟩]

/-! Block 22, PCIE -/

abbrev PCIE_STATUS : Nat := 0x2001600000
abbrev PCIE_ID : Nat := 0x2001600004
abbrev PCIE_LINK : Nat := 0x2001600008
abbrev PCIE_EINFO : Nat := 0x200160000C
abbrev PCIE_EADDR_LO : Nat := 0x2001600010
abbrev PCIE_EADDR_HI : Nat := 0x2001600014
abbrev PCIE_ERRCNT : Nat := 0x2001600018
abbrev PCIE_CNTOVF : Nat := 0x200160001C
abbrev PCIE_IRQMAP (i : Nat) : Nat := 0x2001600100 + 0x4 * i
abbrev PCIE_DMA_CTRL (i : Nat) : Nat := 0x2001601000 + 0x40 * i
abbrev PCIE_DMA_RING_LO (i : Nat) : Nat := 0x2001601004 + 0x40 * i
abbrev PCIE_DMA_RING_HI (i : Nat) : Nat := 0x2001601008 + 0x40 * i
abbrev PCIE_DMA_TAIL (i : Nat) : Nat := 0x200160100C + 0x40 * i
abbrev PCIE_DMA_HEAD (i : Nat) : Nat := 0x2001601010 + 0x40 * i
abbrev PCIE_DMA_STAT (i : Nat) : Nat := 0x2001601014 + 0x40 * i
abbrev PCIE_DMA_FADDR_LO (i : Nat) : Nat := 0x2001601018 + 0x40 * i
abbrev PCIE_DMA_FADDR_HI (i : Nat) : Nat := 0x200160101C + 0x40 * i
abbrev PCIE_DMA_QUEUE (i : Nat) : Nat := 0x2001601020 + 0x40 * i

def regsPCIE : List RegDesc := [
  ⟨0x0, 4, 1, 0x0, 0x0, 0x0, 0xF⟩,
  ⟨0x4, 4, 1, 0x40960000, 0x40960000, 0x0, 0x0⟩,
  ⟨0x8, 4, 1, 0x0, 0x0, 0x0, 0x0⟩,
  ⟨0xC, 4, 1, 0x0, 0x0, 0x0, 0x0⟩,
  ⟨0x10, 4, 1, 0x0, 0x0, 0x0, 0x0⟩,
  ⟨0x14, 4, 1, 0x0, 0x0, 0x0, 0x0⟩,
  ⟨0x18, 4, 1, 0x0, 0x0, 0x0, 0x0⟩,
  ⟨0x1C, 4, 1, 0x0, 0x0, 0x0, 0x1⟩,
  ⟨0x100, 4, 128, 0x0, 0x0, 0xC00007FF, 0x0⟩,
  ⟨0x1000, 64, 64, 0x4, 0x4, 0x0, 0x0⟩,
  ⟨0x1004, 64, 64, 0x0, 0x0, 0xFFFFFFE0, 0x0⟩,
  ⟨0x1008, 64, 64, 0x0, 0x0, 0xFFFFFFFF, 0x0⟩,
  ⟨0x100C, 64, 64, 0x0, 0x0, 0xFFFF, 0x0⟩,
  ⟨0x1010, 64, 64, 0x0, 0x0, 0x0, 0x0⟩,
  ⟨0x1014, 64, 64, 0x0, 0x0, 0x0, 0x300⟩,
  ⟨0x1018, 64, 64, 0x0, 0x0, 0x0, 0x0⟩,
  ⟨0x101C, 64, 64, 0x0, 0x0, 0x0, 0x0⟩,
  ⟨0x1020, 64, 64, 0x0, 0x0, 0x3FFFF, 0x0⟩]

/-! Block 23, HP -/

abbrev HP_STATUS : Nat := 0x2001700000
abbrev HP_EINFO : Nat := 0x2001700004
abbrev HP_WBASE_LO : Nat := 0x2001700008
abbrev HP_WBASE_HI : Nat := 0x200170000C
abbrev HP_PUSH (i : Nat) : Nat := 0x2001700010 + 0x4 * i
abbrev HP_PUSHCTL : Nat := 0x2001700020
abbrev HP_MDISC : Nat := 0x2001700024
abbrev HP_CNTOVF : Nat := 0x2001700028
abbrev HP_MIR (i : Nat) : Nat := 0x2001701000 + 0x4 * i

def regsHP : List RegDesc := [
  ⟨0x0, 4, 1, 0x0, 0x0, 0x0, 0xE⟩,
  ⟨0x4, 4, 1, 0x0, 0x0, 0x0, 0x0⟩,
  ⟨0x8, 4, 1, 0x0, 0x0, 0xFFFFF000, 0x0⟩,
  ⟨0xC, 4, 1, 0x0, 0x0, 0xFFFF, 0x0⟩,
  ⟨0x10, 4, 4, 0x0, 0x0, 0x0, 0x0⟩,
  ⟨0x20, 4, 1, 0x0, 0x0, 0x1, 0x0⟩,
  ⟨0x24, 4, 1, 0x0, 0x0, 0x0, 0x0⟩,
  ⟨0x28, 4, 1, 0x0, 0x0, 0x0, 0x1⟩,
  ⟨0x1000, 4, 4096, 0x0, 0x0, 0x0, 0x0⟩]

/-! Block 24, GPIO -/

abbrev GPIO_STATUS : Nat := 0x2001800000
abbrev GPIO_HOLD : Nat := 0x2001800004
abbrev GPIO_EVDROP : Nat := 0x2001800008
abbrev GPIO_CNTOVF : Nat := 0x200180000C
abbrev GPIO_DATA (i : Nat) : Nat := 0x2001800100 + 0x40 * i
abbrev GPIO_SET (i : Nat) : Nat := 0x2001800104 + 0x40 * i
abbrev GPIO_CLR (i : Nat) : Nat := 0x2001800108 + 0x40 * i
abbrev GPIO_FOUT (i : Nat) : Nat := 0x200180010C + 0x40 * i
abbrev GPIO_FSET (i : Nat) : Nat := 0x2001800110 + 0x40 * i
abbrev GPIO_FCLR (i : Nat) : Nat := 0x2001800114 + 0x40 * i
abbrev GPIO_OE (i : Nat) : Nat := 0x2001800118 + 0x40 * i
abbrev GPIO_IN (i : Nat) : Nat := 0x200180011C + 0x40 * i
abbrev GPIO_FSEL (i : Nat) : Nat := 0x2001800120 + 0x40 * i
abbrev GPIO_EDGE (i : Nat) : Nat := 0x2001800124 + 0x40 * i
abbrev GPIO_EVTA (i : Nat) : Nat := 0x2001800128 + 0x40 * i
abbrev GPIO_EVTB (i : Nat) : Nat := 0x200180012C + 0x40 * i
abbrev GPIO_EVINST (i : Nat) : Nat := 0x2001800130 + 0x40 * i
abbrev GPIO_PULL (i : Nat) : Nat := 0x2001800134 + 0x40 * i

def regsGPIO : List RegDesc := [
  ⟨0x0, 4, 1, 0x0, 0x0, 0x0, 0x3⟩,
  ⟨0x4, 4, 1, 0x0, 0x0, 0xFFFFF, 0x0⟩,
  ⟨0x8, 4, 1, 0x0, 0x0, 0x0, 0x0⟩,
  ⟨0xC, 4, 1, 0x0, 0x0, 0x0, 0x1⟩,
  ⟨0x100, 64, 20, 0x0, 0x0, 0xFFFF, 0x0⟩,
  ⟨0x104, 64, 20, 0x0, 0x0, 0x0, 0x0⟩,
  ⟨0x108, 64, 20, 0x0, 0x0, 0x0, 0x0⟩,
  ⟨0x10C, 64, 20, 0x0, 0x0, 0xFFFF, 0x0⟩,
  ⟨0x110, 64, 20, 0x0, 0x0, 0x0, 0x0⟩,
  ⟨0x114, 64, 20, 0x0, 0x0, 0x0, 0x0⟩,
  ⟨0x118, 64, 20, 0x0, 0x0, 0xFFFF, 0x0⟩,
  ⟨0x11C, 64, 20, 0x0, 0x0, 0x0, 0x0⟩,
  ⟨0x120, 64, 20, 0xFFFFFFFF, 0xFFFFFFFF, 0xFFFFFFFF, 0x0⟩,
  ⟨0x124, 64, 20, 0x0, 0x0, 0xFFFFFFFF, 0x0⟩,
  ⟨0x128, 64, 20, 0x0, 0x0, 0xFEFFF000, 0x0⟩,
  ⟨0x12C, 64, 20, 0x0, 0x0, 0x3FFFF, 0x0⟩,
  ⟨0x130, 64, 20, 0x0, 0x0, 0xFFFFFF, 0x0⟩,
  ⟨0x134, 64, 20, 0x0, 0x0, 0xFFFFFFFF, 0x0⟩]

/-! Block 25, FLINT0 -/

abbrev FLINT0_STATUS : Nat := 0x2001900000
abbrev FLINT0_CLK : Nat := 0x2001900004
abbrev FLINT0_FIXES : Nat := 0x2001900008
abbrev FLINT0_CONTCNT : Nat := 0x200190000C
abbrev FLINT0_RAMCE : Nat := 0x2001900010
abbrev FLINT0_CNTOVF : Nat := 0x2001900014
abbrev FLINT0_MBA (i : Nat) : Nat := 0x2001900040 + 0x8 * i
abbrev FLINT0_MBB (i : Nat) : Nat := 0x2001900044 + 0x8 * i
abbrev FLINT0_MBST (i : Nat) : Nat := 0x20019000C0 + 0x4 * i

def regsFLINT0 : List RegDesc := [
  ⟨0x0, 4, 1, 0x0, 0x0, 0x0, 0xBC0⟩,
  ⟨0x4, 4, 1, 0x0, 0x0, 0x0, 0x0⟩,
  ⟨0x8, 4, 1, 0x0, 0x0, 0x0, 0x0⟩,
  ⟨0xC, 4, 1, 0x0, 0x0, 0x0, 0x0⟩,
  ⟨0x10, 4, 1, 0x0, 0x0, 0x0, 0x0⟩,
  ⟨0x14, 4, 1, 0x0, 0x0, 0x0, 0x7⟩,
  ⟨0x40, 8, 16, 0x0, 0x0, 0x0, 0x0⟩,
  ⟨0x44, 8, 16, 0x0, 0x0, 0x0, 0x0⟩,
  ⟨0xC0, 4, 16, 0x0, 0x0, 0x0, 0x0⟩]

/-! Block 26, FLINT1 -/

abbrev FLINT1_STATUS : Nat := 0x2001A00000
abbrev FLINT1_CLK : Nat := 0x2001A00004
abbrev FLINT1_FIXES : Nat := 0x2001A00008
abbrev FLINT1_CONTCNT : Nat := 0x2001A0000C
abbrev FLINT1_RAMCE : Nat := 0x2001A00010
abbrev FLINT1_CNTOVF : Nat := 0x2001A00014
abbrev FLINT1_MBA (i : Nat) : Nat := 0x2001A00040 + 0x8 * i
abbrev FLINT1_MBB (i : Nat) : Nat := 0x2001A00044 + 0x8 * i
abbrev FLINT1_MBST (i : Nat) : Nat := 0x2001A000C0 + 0x4 * i

def regsFLINT1 : List RegDesc := [
  ⟨0x0, 4, 1, 0x0, 0x0, 0x0, 0xBC0⟩,
  ⟨0x4, 4, 1, 0x0, 0x0, 0x0, 0x0⟩,
  ⟨0x8, 4, 1, 0x0, 0x0, 0x0, 0x0⟩,
  ⟨0xC, 4, 1, 0x0, 0x0, 0x0, 0x0⟩,
  ⟨0x10, 4, 1, 0x0, 0x0, 0x0, 0x0⟩,
  ⟨0x14, 4, 1, 0x0, 0x0, 0x0, 0x7⟩,
  ⟨0x40, 8, 16, 0x0, 0x0, 0x0, 0x0⟩,
  ⟨0x44, 8, 16, 0x0, 0x0, 0x0, 0x0⟩,
  ⟨0xC0, 4, 16, 0x0, 0x0, 0x0, 0x0⟩]

/-! Block 27, BIST -/

abbrev BIST_STATUS : Nat := 0x2001B00000
abbrev BIST_CTRL : Nat := 0x2001B00004
abbrev BIST_CMD : Nat := 0x2001B00008
abbrev BIST_CUR : Nat := 0x2001B0000C
abbrev BIST_PASSES : Nat := 0x2001B00010
abbrev BIST_FAILS : Nat := 0x2001B00014
abbrev BIST_DEFERS : Nat := 0x2001B00018
abbrev BIST_CNTOVF : Nat := 0x2001B0001C
abbrev BIST_LAST : Nat := 0x2001B00020

def regsBIST : List RegDesc := [
  ⟨0x0, 4, 1, 0x0, 0x0, 0x0, 0xF⟩,
  ⟨0x4, 4, 1, 0x8000000A, 0x8000000A, 0x8000FFFF, 0x0⟩,
  ⟨0x8, 4, 1, 0x0, 0x0, 0x0, 0x0⟩,
  ⟨0xC, 4, 1, 0x0, 0x0, 0x0, 0x0⟩,
  ⟨0x10, 4, 1, 0x0, 0x0, 0x0, 0x0⟩,
  ⟨0x14, 4, 1, 0x0, 0x0, 0x0, 0x0⟩,
  ⟨0x18, 4, 1, 0x0, 0x0, 0x0, 0x0⟩,
  ⟨0x1C, 4, 1, 0x0, 0x0, 0x0, 0x7⟩,
  ⟨0x20, 4, 1, 0x0, 0x0, 0x0, 0x0⟩]

/-! Block 28, CTX -/

abbrev CTX_STATUS : Nat := 0x2001C00000
abbrev CTX_QSEL : Nat := 0x2001C00004
abbrev CTX_QSTATE : Nat := 0x2001C00008
abbrev CTX_SPARE : Nat := 0x2001C0000C
abbrev CTX_FILLS : Nat := 0x2001C00010
abbrev CTX_EVICTS : Nat := 0x2001C00014
abbrev CTX_FILLERR : Nat := 0x2001C00018
abbrev CTX_CNTOVF : Nat := 0x2001C0001C
abbrev CTX_BUS (i : Nat) : Nat := 0x2001C00100 + 0x4 * i
abbrev CTX_UNAV (i : Nat) : Nat := 0x2001C01000 + 0x4 * i
abbrev CTX_DIR (i : Nat) : Nat := 0x2001C10000 + 0x4 * i
abbrev CTX_PRES (i : Nat) : Nat := 0x2001C20000 + 0x4 * i
abbrev CTX_PAGE (i : Nat) : Nat := 0x2001C30000 + 0x4 * i
abbrev CTX_PIN (i : Nat) : Nat := 0x2001C40000 + 0x4 * i

def regsCTX : List RegDesc := [
  ⟨0x0, 4, 1, 0x0, 0x0, 0x0, 0x6⟩,
  ⟨0x4, 4, 1, 0x0, 0x0, 0xFFF, 0x0⟩,
  ⟨0x8, 4, 1, 0x0, 0x0, 0x0, 0x0⟩,
  ⟨0xC, 4, 1, 0x0, 0x0, 0x0, 0x0⟩,
  ⟨0x10, 4, 1, 0x0, 0x0, 0x0, 0x0⟩,
  ⟨0x14, 4, 1, 0x0, 0x0, 0x0, 0x0⟩,
  ⟨0x18, 4, 1, 0x0, 0x0, 0x0, 0x0⟩,
  ⟨0x1C, 4, 1, 0x0, 0x0, 0x0, 0x7⟩,
  ⟨0x100, 4, 64, 0x0, 0x0, 0x0, 0x0⟩,
  ⟨0x1000, 4, 128, 0x0, 0x0, 0x0, 0x0⟩,
  ⟨0x10000, 4, 8192, 0x0, 0x0, 0x0, 0x0⟩,
  ⟨0x20000, 4, 4096, 0x0, 0x0, 0x0, 0x0⟩,
  ⟨0x30000, 4, 4096, 0x0, 0x0, 0x0, 0x0⟩,
  ⟨0x40000, 4, 2048, 0x0, 0x0, 0x0, 0x0⟩]

/-! The per-cluster windows (R32, R76, R122, R193) -/

abbrev CLW_EXEC (c : Nat) : Nat := 0x2100000000 + 0x1000 * c
abbrev CLW_INST (c : Nat) : Nat := 0x2100000004 + 0x1000 * c
abbrev CLW_MADDR (c : Nat) : Nat := 0x2100000008 + 0x1000 * c
abbrev CLW_MDATA_LO (c : Nat) : Nat := 0x2100000010 + 0x1000 * c
abbrev CLW_MDATA_HI (c : Nat) : Nat := 0x2100000014 + 0x1000 * c
abbrev CLW_RES (c i : Nat) : Nat := 0x2100000020 + 0x1000 * c + 4 * i
abbrev CLW_BUSY_LO (c : Nat) : Nat := 0x2100000040 + 0x1000 * c
abbrev CLW_BUSY_HI (c : Nat) : Nat := 0x2100000044 + 0x1000 * c
abbrev CLW_FILL_LO (c : Nat) : Nat := 0x2100000048 + 0x1000 * c
abbrev CLW_FILL_HI (c : Nat) : Nat := 0x210000004C + 0x1000 * c
abbrev CLW_STALL_LO (c : Nat) : Nat := 0x2100000050 + 0x1000 * c
abbrev CLW_STALL_HI (c : Nat) : Nat := 0x2100000054 + 0x1000 * c
abbrev CLW_CTRL (c : Nat) : Nat := 0x2100000060 + 0x1000 * c

def regsWindow : List RegDesc := [
  ⟨0x0, 4, 1, 0x0, 0x0, 0x0, 0x0⟩,
  ⟨0x4, 4, 1, 0x0, 0x0, 0x0, 0x0⟩,
  ⟨0x8, 4, 1, 0x0, 0x0, 0x800007FF, 0x0⟩,
  ⟨0x10, 4, 1, 0x0, 0x0, 0x0, 0x0⟩,
  ⟨0x14, 4, 1, 0x0, 0x0, 0x0, 0x0⟩,
  ⟨0x20, 4, 4, 0x0, 0x0, 0x0, 0x0⟩,
  ⟨0x40, 4, 1, 0x0, 0x0, 0x0, 0x0⟩,
  ⟨0x44, 4, 1, 0x0, 0x0, 0x0, 0x0⟩,
  ⟨0x48, 4, 1, 0x0, 0x0, 0x0, 0x0⟩,
  ⟨0x4C, 4, 1, 0x0, 0x0, 0x0, 0x0⟩,
  ⟨0x50, 4, 1, 0x0, 0x0, 0x0, 0x0⟩,
  ⟨0x54, 4, 1, 0x0, 0x0, 0x0, 0x0⟩,
  ⟨0x60, 4, 1, 0x0, 0x0, 0x100, 0x7⟩]

/-- The register table of block `n` (R36). -/
def regsBlock (n : Nat) : List RegDesc :=
  match n with
  | 0 => regsSYS
  | 1 => regsCLK
  | 2 => regsPWR
  | 3 => regsTH
  | 4 => regsAGE
  | 5 => regsCFG
  | 6 => regsSEC
  | 7 => regsSTRATA
  | 8 => regsSNAP
  | 9 => regsDSP
  | 10 => regsMST
  | 11 => regsFLOW
  | 12 => regsNOC
  | 13 => regsCACHE
  | 14 => regsSPAD
  | 15 => regsGARNET
  | 16 => regsECC
  | 17 => regsMARCH
  | 18 => regsDDR
  | 19 => regsMCE
  | 20 => regsLANE
  | 21 => regsHALO
  | 22 => regsPCIE
  | 23 => regsHP
  | 24 => regsGPIO
  | 25 => regsFLINT0
  | 26 => regsFLINT1
  | 27 => regsBIST
  | 28 => regsCTX
  | _ => []

/-- An address of the register-block range (R32). -/
def inBlocks (a : Nat) : Bool := decide (0x2000000000 ≤ a) && decide (a < 0x2001D00000)
/-- An address of the per-cluster windows (R32). -/
def inWindows (a : Nat) : Bool := decide (0x2100000000 ≤ a) && decide (a < 0x2100400000)
/-- Block number and offset of a register address (R36). -/
def blockOf (a : Nat) : Nat := (a - 0x2000000000) / 0x100000
def offsetOf (a : Nat) : Nat := a % 0x100000

/-- The entry that describes an address, if a register occupies it. -/
def regDesc (a : Nat) : Option RegDesc :=
  if inBlocks a then (regsBlock (blockOf a)).find? (fun d => d.has (offsetOf a))
  else if inWindows a then regsWindow.find? (fun d => d.has (a % 0x1000))
  else none

/-- The reset value of a register (R17); zero where no register is (R9). -/
def regReset (gradeA : Bool) (a : Nat) : Word :=
  match regDesc a with
  | some d => BitVec.ofNat 32 (if gradeA then d.resetA else d.reset)
  | none => 0

end Sys2Proof.Machine
end

