-- ==== Sys2Proof/Config.lean ====
section
/-! DEFINITION. The cryptographic functions the spec names and does not define, and the values it leaves open: opaque
constants with no body, so that nothing can be proved about a value of theirs. The assumption log names each. -/

namespace Sys2Proof.Config

/-- A value the spec leaves open: the `n`-th free value drawn (log entry 4). -/
opaque freeValue : Nat → BitVec 64

/-- What a 64-bit word of a memory whose contents were lost, or of ciphertext without its key, reads as: an epoch, the word (log entry 4). -/
opaque lostMem : Nat → Nat → BitVec 64

/-- What bit selects 80-253 of a user I/O, which name no cell of the sector, read: a draw, the code (R334, R342; log entry 114). -/
opaque noCell : Nat → Nat → BitVec 16

/-- SHA-384 of a byte string (R366, R398; log entry 5). -/
opaque sha384 : List (BitVec 8) → BitVec 384
/-- ECDSA P-384 verification: public key, message digest, signature (R366, R399; log entry 5). -/
opaque ecdsaVerify : List (BitVec 8) → BitVec 384 → List (BitVec 8) → Bool
/-- AES-256-CTR or AES-256-GCM decryption of the image body under a key: key, initial value, ciphertext (log entry 5). -/
opaque imageDecrypt : BitVec 256 → List (BitVec 8) → List (BitVec 8) → List (BitVec 8)
/-- GCM tag check: key, initial value, associated data, ciphertext, tag (log entry 5). -/
opaque gcmTagOk : BitVec 256 → List (BitVec 8) → List (BitVec 8) → List (BitVec 8) → List (BitVec 8) → Bool
/-- RFC 3394 key unwrap: `none` where its integrity check fails (R404; log entry 5). -/
opaque keyUnwrap : BitVec 256 → List (BitVec 8) → Option (List (BitVec 8))
/-- ECDH on P-384: the x-coordinate (48 bytes) of the device private key number `n` times a public point (R404; log entry 5). -/
opaque ecdh : Nat → List (BitVec 8) → List (BitVec 8)
/-- The public point of the device's ephemeral key number `n` (R397; log entry 5). -/
opaque ephemeralPub : Nat → List (BitVec 8)
/-- The `n`-th 256-bit draw of the entropy source (R293, R397; log entry 5). -/
opaque entropy : Nat → BitVec 256
/-- The check byte of a 64-bit word under the SECDED (72,64) code, whose code words the spec does not give (R248, R276; log entry 98). -/
opaque secded : BitVec 64 → BitVec 8
/-- AES-256 encryption of one 128-bit block under a key (R283, R286; log entry 5). -/
opaque aes256 : BitVec 256 → BitVec 128 → BitVec 128
/-- GHASH of a sequence of 128-bit blocks under a hash key (R286; log entry 5). -/
opaque ghash : BitVec 128 → List (BitVec 128) → BitVec 128
/-- AES-CBC decryption of one 128-bit MZ block: key, previous block, block (R344, R345; log entry 5). -/
opaque mzDecrypt : BitVec 128 → BitVec 128 → BitVec 128 → BitVec 128

end Sys2Proof.Config
end

