-- ==== Sys2Proof/Machine/SMap.lean ====
section
/-! DEFINITION. Sparse tables in one canonical form: a list of (key, value) pairs with strictly rising keys and
no entry equal to the value an unlisted key reads as. Every table of the state (register file, memories, plane
store, queues) is one of these, so that equal tables are equal data. A byte memory is the case where the values
are bytes: its entries are then `Host.Cell`s. -/

namespace Sys2Proof

/-- A sparse table from Nat keys. -/
abbrev SMap (α : Type) := List (Nat × α)

/-- The value listed under a key. -/
def smFind {α : Type} : SMap α → Nat → Option α
  | [], _ => none
  | (k, v) :: m, x => if x = k then some v else smFind m x

/-- The value under a key; an unlisted key reads as `d`. -/
def smGet {α : Type} (d : α) (m : SMap α) (x : Nat) : α := (smFind m x).getD d

/-- Put an entry, keeping the keys rising. -/
def smPut {α : Type} : SMap α → Nat → α → SMap α
  | [], x, v => [(x, v)]
  | (k, w) :: m, x, v =>
    if x < k then (x, v) :: (k, w) :: m
    else if x = k then (x, v) :: m
    else (k, w) :: smPut m x v

/-- Drop the entry of a key. -/
def smDel {α : Type} (m : SMap α) (x : Nat) : SMap α := m.filter (fun p => decide (p.1 ≠ x))

/-- Write a value: a value equal to the default removes the entry (canonical form). -/
def smSet {α : Type} [DecidableEq α] (d : α) (m : SMap α) (x : Nat) (v : α) : SMap α :=
  if v = d then smDel m x else smPut m x v

/-- Drop every entry whose key satisfies `p`. -/
def smDrop {α : Type} (p : Nat → Bool) (m : SMap α) : SMap α := m.filter (fun e => !p e.1)

/-- Strictly rising keys. -/
def smSorted {α : Type} : SMap α → Bool
  | [] => true
  | [_] => true
  | a :: b :: m => decide (a.1 < b.1) && smSorted (b :: m)

/-- The canonical form of a table whose unlisted keys read as `d`. -/
def smWf {α : Type} [DecidableEq α] (d : α) (m : SMap α) : Bool :=
  smSorted m && m.all (fun e => decide (e.2 ≠ d))

/-- Write a list of values at consecutive keys. -/
def smSetList {α : Type} [DecidableEq α] (d : α) (m : SMap α) (x : Nat) : List α → SMap α
  | [] => m
  | v :: vs => smSetList d (smSet d m x v) (x + 1) vs

/-- Read `n` values at consecutive keys. -/
def smGetList {α : Type} (d : α) (m : SMap α) (x : Nat) : Nat → List α
  | 0 => []
  | n + 1 => smGet d m x :: smGetList d m (x + 1) n

/-- Write the bytes of `bs` that are given (a masked write). -/
def smSetMasked {α : Type} [DecidableEq α] (d : α) (m : SMap α) (x : Nat) : List (Option α) → SMap α
  | [] => m
  | none :: vs => smSetMasked d m (x + 1) vs
  | some v :: vs => smSetMasked d (smSet d m x v) (x + 1) vs

end Sys2Proof
end

