-- ==== Sys2Proof/Syntax.lean ====
section
/-! DEFINITION. The commands of the TR4096: one constructor for each row of spec/opcode_table.json,
with the operands the row needs, and the data types those operands are made of. -/

namespace Sys2Proof

/-- KIND of a token (R123). -/
inductive TokKind where
  | data | sticky | error | control
deriving DecidableEq, Repr

/-- A token (R123). -/
structure Token where
  ctx : BitVec 12
  inst : BitVec 24
  port : BitVec 4
  kind : TokKind
  pri : BitVec 3
  flow : BitVec 18
  poison : Bool
  value : DWord
deriving DecidableEq, Repr

/-- The fields of a microinstruction other than OP, which the command names (R40). -/
structure Micro where
  sa : BitVec 5
  sb : BitVec 5
  dst : BitVec 5
  xt : BitVec 5
  pred : BitVec 3
  seq : BitVec 3
deriving DecidableEq, Repr

/-- The fields of an MZ instruction entry other than OP (R324). -/
structure MzEntry where
  sa : BitVec 3
  sb : BitVec 3
  wacc : Bool
  lde : Bool
  next : BitVec 2
  imm : BitVec 16
deriving DecidableEq, Repr

/-- A requesting interface (R15); each cluster is one of its own (R16). -/
inductive Iface where
  | pcie | hp | smb | supv
  | fabric (c : Nat)
deriving DecidableEq, Repr

/-- Status of a response (R146). -/
inductive RspStatus where
  | normal | poisoned | error | halted
deriving DecidableEq, Repr

/-- Status of a host-memory completion (R482). -/
inductive HostStatus where
  | ok | ur | ca | ep
deriving DecidableEq, Repr

/-- The master of a memory request (R227, R228). -/
inductive Master where
  | cluster (c : Nat)
  | dma (ch : Nat)
  | pcie
  | hp
  | lane (g : Nat)
  | agent
  | strata
deriving DecidableEq, Repr

/-- A memory request within one aligned 256-byte block (R216): `bytes` holds the written bytes in
address order, `none` for a byte outside the mask; a read names its length in `len`. -/
structure MemReq where
  master : Master
  addr : Nat
  len : Nat
  write : Bool
  bytes : List (Option Byte)
deriving DecidableEq, Repr

/-- What the boot flash interfaces read (R361, R362): the bytes of the two flashes from offset 0, whether they answer, and in MIRROR mode
the 4 KiB blocks whose read fails at the flash that is read first. -/
structure Flash where
  readable : Bool
  bf0 : List Byte
  bf1 : List Byte
  fails : List Nat
deriving DecidableEq, Repr

/-- What the code of a packet's flits reports: no uncorrectable word, one in the payload, one in the header (R316). -/
inductive FlitUe where
  | none | payload | header
deriving DecidableEq, Repr

/-- An output of a router in one cycle, and the error that the code of the packet it is to grant reports then (R316, log entry 52). -/
structure HopOut where
  out : Nat
  ue : FlitUe
deriving DecidableEq, Repr

/-- What a step of the start meets: the boot flash, and the words its marches find failing, as unit and word (R264, R265). -/
structure StartIn where
  flash : Flash
  fails : List (Nat × Nat)
deriving DecidableEq, Repr

/-- What a load meets when it commits: the boot flash, and how many stored rows its writing finds failing (R377). -/
structure CommitIn where
  flash : Flash
  bad : Nat
deriving DecidableEq, Repr

/-- The straps sampled at the rising edge of POR_N (R362, R384, R474, R488). -/
structure Straps where
  bfcfg : BitVec 2
  pcieEn : Bool
  smbAddr : BitVec 2
  /-- pins 15 and 14 of each GPIO bank, bank 0 first -/
  pulls : List (BitVec 2)
deriving DecidableEq, Repr

/-- A Halo ring frame as received (R467). -/
structure HaloFrame where
  typ : Byte
  dst : Byte
  src : Byte
  flags : Byte
  payload : List Byte
  crc : BitVec 16
  /-- nanoseconds since this device last sent such a frame, for a frame that returns to it (R468) -/
  loopNs : Nat
deriving DecidableEq, Repr

/-- A supply the device monitors (R527). -/
inductive Supply where
  | vinCore | vddBed | vppSlate
deriving DecidableEq, Repr

/-- A JTAG instruction (R407). -/
inductive JtagIns where
  | idcode | bypass | extest | samplePreload | ieee1149_6 | internalScan
deriving DecidableEq, Repr

/-- The commands: one constructor per row of spec/opcode_table.json. -/
inductive Instr where
  /-- NOP (R52): A cell issues NOP, which does nothing but its SEQ action. -/
  | nop (c k : Nat) (m : Micro)
  /-- MOV (R52): A cell copies its first source to the destination and sets N and Z. -/
  | mov (c k : Nat) (m : Micro)
  /-- ADD (R53): A cell adds two sources in the selected lane form and sets C, V, N and Z. -/
  | add (c k : Nat) (m : Micro)
  /-- ADC (R56): A cell adds two sources and the carry-in that CHMODE selects. -/
  | adc (c k : Nat) (m : Micro)
  /-- SUB (R53): A cell subtracts in the selected lane form; C = 1 means no borrow. -/
  | sub (c k : Nat) (m : Micro)
  /-- SBC (R56): A cell computes SA + NOT SB + cin, with cin chosen by CHMODE. -/
  | sbc (c k : Nat) (m : Micro)
  /-- SADD (R53): A cell adds with signed saturation per lane and sets S when a lane saturates. -/
  | sadd (c k : Nat) (m : Micro)
  /-- SSUB (R53): A cell subtracts with signed saturation per lane. -/
  | ssub (c k : Nat) (m : Micro)
  /-- UADD (R53): A cell adds with unsigned saturation per lane. -/
  | uadd (c k : Nat) (m : Micro)
  /-- USUB (R53): A cell subtracts with unsigned saturation per lane, with a floor of 0. -/
  | usub (c k : Nat) (m : Micro)
  /-- AND (R52): A cell computes a bitwise AND. -/
  | and (c k : Nat) (m : Micro)
  /-- OR (R52): A cell computes a bitwise OR. -/
  | or (c k : Nat) (m : Micro)
  /-- XOR (R52): A cell computes a bitwise XOR. -/
  | xor (c k : Nat) (m : Micro)
  /-- ANDN (R52): A cell computes SA AND NOT SB. -/
  | andn (c k : Nat) (m : Micro)
  /-- SHL (R53): A cell shifts left by SB[4:0]; C takes the last bit shifted out. -/
  | shl (c k : Nat) (m : Micro)
  /-- SHR (R53): A cell shifts right logically by SB[4:0]. -/
  | shr (c k : Nat) (m : Micro)
  /-- SAR (R53): A cell shifts right arithmetically by SB[4:0]. -/
  | sar (c k : Nat) (m : Micro)
  /-- ROR (R52): A cell rotates SA right by SB[4:0]. -/
  | ror (c k : Nat) (m : Micro)
  /-- FSHL (R52): A cell takes the upper word of the pair (SA, SB) shifted left. -/
  | fshl (c k : Nat) (m : Micro)
  /-- FSHR (R52): A cell takes the lower word of the pair (SA, SB) shifted right. -/
  | fshr (c k : Nat) (m : Micro)
  /-- CMPEQ (R53): A cell compares for equality per lane and sets P when any lane is true. -/
  | cmpeq (c k : Nat) (m : Micro)
  /-- CMPLT (R53): A cell compares signed less-than per lane and sets P. -/
  | cmplt (c k : Nat) (m : Micro)
  /-- CMPLTU (R53): A cell compares unsigned less-than per lane and sets P. -/
  | cmpltu (c k : Nat) (m : Micro)
  /-- MIN (R52): A cell takes the signed minimum per lane. -/
  | min (c k : Nat) (m : Micro)
  /-- MAX (R52): A cell takes the signed maximum per lane. -/
  | max (c k : Nat) (m : Micro)
  /-- MINU (R52): A cell takes the unsigned minimum per lane. -/
  | minu (c k : Nat) (m : Micro)
  /-- MAXU (R52): A cell takes the unsigned maximum per lane. -/
  | maxu (c k : Nat) (m : Micro)
  /-- SEL (R52): A cell selects SA when P = 1, and SB otherwise. -/
  | sel (c k : Nat) (m : Micro)
  /-- BSEL (R52): A cell merges SA and SB bit by bit under the mask X. -/
  | bsel (c k : Nat) (m : Micro)
  /-- TST (R52): A cell ANDs two sources and sets P when the result is non-zero. -/
  | tst (c k : Nat) (m : Micro)
  /-- MUL (R53): A cell multiplies, keeping the low 32 bits, with latency 2. -/
  | mul (c k : Nat) (m : Micro)
  /-- MULW (R43): A cell writes the signed 64-bit product to a destination pair. -/
  | mulw (c k : Nat) (m : Micro)
  /-- MULWU (R43): A cell writes the unsigned 64-bit product to a destination pair. -/
  | mulwu (c k : Nat) (m : Micro)
  /-- DOT4SS (R53): A cell accumulates four signed byte products, with DOT4 forwarding. -/
  | dot4ss (c k : Nat) (m : Micro)
  /-- DOT4UU (R53): A cell accumulates four unsigned byte products. -/
  | dot4uu (c k : Nat) (m : Micro)
  /-- DOT4SU (R53): A cell accumulates four byte products, SA signed and SB unsigned. -/
  | dot4su (c k : Nat) (m : Micro)
  /-- CLMULL (R52): A cell returns the low word of a carry-less product. -/
  | clmull (c k : Nat) (m : Micro)
  /-- CLMULH (R52): A cell returns the high word of a carry-less product. -/
  | clmulh (c k : Nat) (m : Micro)
  /-- CRCR8 (R53): A cell runs a reflected CRC step over one byte. -/
  | crcr8 (c k : Nat) (m : Micro)
  /-- CRCN8 (R53): A cell runs a normal CRC step over one byte. -/
  | crcn8 (c k : Nat) (m : Micro)
  /-- CLZ (R52): A cell counts the leading zeros of SA. -/
  | clz (c k : Nat) (m : Micro)
  /-- POPC (R52): A cell counts the one bits of SA. -/
  | popc (c k : Nat) (m : Micro)
  /-- BFX (R53): A cell extracts an unsigned bit field. -/
  | bfx (c k : Nat) (m : Micro)
  /-- BFXS (R53): A cell extracts a signed bit field. -/
  | bfxs (c k : Nat) (m : Micro)
  /-- BFI (R53): A cell inserts a bit field into SA. -/
  | bfi (c k : Nat) (m : Micro)
  /-- PERM (R53): A cell permutes the bytes of (SB, SA) under the nibble control word. -/
  | perm (c k : Nat) (m : Micro)
  /-- TCON (R53): A cell reads one half of a firing-bundle token. -/
  | tcon (c k : Nat) (m : Micro)
  /-- TEMIT (R143): A cell emits a token through an emit descriptor into the commit buffer, or sends it directly in a DIRECT task. -/
  | temit (c k : Nat) (m : Micro)
  /-- LDC (R73): A cell loads a word from cluster memory through the port. -/
  | ldc (c k : Nat) (m : Micro)
  /-- STC (R73): A cell stores a word into cluster memory, merging it into its code word. -/
  | stc (c k : Nat) (m : Micro)
  /-- RLD (R145): A cell requests a remote load into a response slot, answered from the commit buffer when an entry matches. -/
  | rld (c k : Nat) (m : Micro)
  /-- RST (R143): A cell makes a remote 32-bit store, held in the commit buffer. -/
  | rst (c k : Nat) (m : Micro)
  /-- RSP (R60): A cell reads a response slot, stalling on PENDING and aborting on a bad response. -/
  | rsp (c k : Nat) (m : Micro)
  /-- LDLC (R55): A cell loads the loop counter from SA[7:0]. -/
  | ldlc (c k : Nat) (m : Micro)
  /-- GETF (R53): A cell reads the flags word. -/
  | getf (c k : Nat) (m : Micro)
  /-- SETF (R53): A cell sets every flag from SA[5:0]. -/
  | setf (c k : Nat) (m : Micro)
  /-- PSW (R68): Cell 0 switches its cluster to another plane of the context. -/
  | psw (c k : Nat) (m : Micro)
  /-- TEND (R70): A cell ends the task on every cluster of the instance after one more issue cycle. -/
  | tend (c k : Nat) (m : Micro)
  /-- RLD_RESPONSE (R146): The response to a remote load arrives and fills its slot with its status. -/
  | rldResponse (c slot : Nat)
  /-- TASK_START (R169): A placed instance begins its task-start cycle once every cluster holds the context, is awake, has its bundle and has finished its previous task. -/
  | taskStart (iid : Nat)
  /-- TASK_WATCHDOG (R151): A task reaches 2^LIMIT cycles before its commit point and aborts with WATCHDOG. -/
  | taskWatchdog (iid : Nat)
  /-- COMMIT_POINT (R147): At the end of cycle n + 3 after TEND the instance commits, frees its bundle slots and begins its drain. -/
  | commitPoint (iid : Nat)
  /-- DRAIN_STORE_ACK (R148): A drained store is acknowledged, which releases later stores and finally the tokens. -/
  | drainStoreAck (iid : Nat)
  /-- DRAIN_TOKEN_ACCEPT (R149): A drained token waiting at its sink is judged again and accepted, freeing its entry. -/
  | drainTokenAccept (iid n : Nat)
  /-- TOKEN_ARRIVAL (R138): A data or sticky token is judged for admission to the matching store. -/
  | tokenArrival (t : Token)
  /-- CLR_STICKY (R133): A control token removes one sticky token. -/
  | clrSticky (t : Token)
  /-- CLR_FLOW (R133): A control token removes every sticky token of a flow. -/
  | clrFlow (t : Token)
  /-- CANCEL (R133): A control token removes a pending instance and resolves it as CANCELLED. -/
  | cancelToken (t : Token)
  /-- ERRHOLD_RELEASE (R158): A held error token is appended once its queue has room. -/
  | errholdRelease
  /-- MST_SIZE_WRITE (R141): A write of MST_CRES or MST_RESp sets a reservation size, or is ignored when the total is exceeded. -/
  | mstSizeWrite (p : Option Nat) (v : Word)
  /-- DISPATCH_CYCLE (R160): Each NCLK cycle the dispatcher examines up to 32 ready instances and places up to 8. -/
  | dispatchCycle
  /-- LOAD_UPDATE (R166): Every 1,024 NCLK cycles each LOAD_k is updated from S_k. -/
  | loadUpdate
  /-- FILL_GRANT (R110): A context bus grants the first grantable fill request in order. -/
  | fillGrant (bus : Nat)
  /-- FILL_COMPLETE (R110): At the end of S21 a fill's CRC is judged and the plane becomes VALID or the fill fails. -/
  | fillComplete (bus : Nat)
  /-- CONTEXT_RESTORE_END (R118): The supervisor finishes rewriting a context's rows from the boot flash and the context returns to AVAILABLE. -/
  | contextRestoreEnd (ctx : Nat) (f : Flash)
  /-- PLANE_AGE_STEP (R106): Every 1,024 NCLK cycles every plane's age increases by one, saturating. -/
  | planeAgeStep
  /-- PIN_ENABLE (R114): A write of CTX_PIN with EN = 1 sets a pin or is refused. -/
  | pinEnable (c e : Nat) (v : Word)
  /-- PIN_RELEASE (R116): A write of EN = 0 releases a pin. -/
  | pinRelease (c e : Nat) (v : Word)
  /-- PLANE_SWEEP (R308): A region's plane checker checks each VALID plane against PLANE_CRC within every 50 µs. -/
  | planeSweep (region : Nat)
  /-- ENQUEUE (R179): The queue engine judges an enqueue and accepts or refuses it. -/
  | enqueue (q : Nat) (t : Token)
  /-- DEQUEUE (R179): The queue engine dequeues a head entry for a ready consumer. -/
  | dequeue (q : Nat)
  /-- QUEUE_RECORD_WRITE (R178): A write of FLOW_QREC3 commits the staged record words to the selected queue. -/
  | queueRecordWrite (i : Iface) (v : Word)
  /-- FLOW_PUSH (R181): A write of FLOW_PUSH3 pushes a token to the selected queue and answers after judgement. -/
  | flowPush (i : Iface) (v : Word)
  /-- FLOW_POP (R181): A read of FLOW_POP0 dequeues the head entry of the selected queue. -/
  | flowPop (i : Iface)
  /-- FLOW_ORD_WRITE (R188): A write of FLOW_ORD sets NEXT and WINLOG, releasing parked outputs, or is ignored. -/
  | flowOrdWrite (i : Iface) (v : Word)
  /-- FLOW_WMQ_READ (R180): A read of FLOW_WMQ removes the oldest watermark report. -/
  | flowWmqRead (i : Iface)
  /-- PACKET_HOP (R201): A router grants an output and a packet moves one step on its fixed route, or is ejected. -/
  | packetHop (net node : Nat) (x : HopOut)
  /-- URGENCY_STEP (R206): A waiting packet's WCNT reaches 2^AGESHIFT and its URG rises by one. -/
  | urgencyStep (pkt : Nat)
  /-- BOUNCE_RESEND (R211): NOC_BNCDLY cycles after a bounce the source sends the packet again. -/
  | bounceResend (pkt : Nat)
  /-- REG_ACCESS (R536): A REG packet reaches its block and is answered within 16 cycles. -/
  | regAccess (i : Iface) (addr : Nat) (write : Bool) (v : Word)
  /-- PORT_DRAIN_REQUEST (R210): A write of NOC_PCTL.DRAIN = 1 puts a port into DRAIN. -/
  | portDrainRequest (i : Iface)
  /-- PORT_DRAIN_CANCEL (R210): A write of NOC_PCTL.DRAIN = 0 returns a port to READY. -/
  | portDrainCancel (i : Iface)
  /-- PORT_DRAINED (R210): A draining port with nothing buffered or outstanding becomes DRAINED. -/
  | portDrained (net node port : Nat)
  /-- DRAIN_TO (R210): A port in DRAIN for 4,096 cycles returns to READY and the power-down is refused. -/
  | portDrainTo (net node port : Nat)
  /-- PORT_WAKE (R210): A wake request reaches a port's router and moves it toward READY. -/
  | portWake (net node port : Nat)
  /-- PORT_READY (R210): A waking port becomes READY once its domain is powered and initialized. -/
  | portReady (net node port : Nat)
  /-- FREEZE (R212): A write of NOC_RCTL.FREEZE = 1 stops the router granting credit. -/
  | routerFreeze (i : Iface)
  /-- FROZEN (R212): A freezing router's buffers empty and it becomes FROZEN. -/
  | routerFrozen (net node : Nat)
  /-- UNFREEZE (R213): A write of NOC_RCTL.FREEZE = 0 returns credits from the next cycle. -/
  | routerUnfreeze (i : Iface)
  /-- NOC_RCFG_WRITE (R213): A write of NOC_RCFG takes effect while FROZEN and is otherwise ignored. -/
  | nocRcfgWrite (i : Iface) (v : Word)
  /-- CACHE_REQUEST (R218): A cache slice looks up a request and hits, or fetches and allocates a sector. -/
  | cacheRequest (r : MemReq)
  /-- SECTOR_FETCH_RESPONSE (R218): A sector fetch returns from external memory and the waiting requests are answered. -/
  | sectorFetchResponse (addr : Nat)
  /-- CACHE_LOCK_WRITE (R224): A write of CACHE_LOCK starts a lock transition for the selected slice. -/
  | cacheLockWrite (i : Iface) (v : Word)
  /-- LOCK_TRANSITION_END (R224): A lock transition finishes and LOCK_BUSY clears. -/
  | lockTransitionEnd (slice : Nat)
  /-- CLEAN (R225): A maintenance operation writes back every dirty sector in scope. -/
  | cacheClean (v : Word)
  /-- INVAL (R225): A maintenance operation discards every line in scope without write-back. -/
  | cacheInval (v : Word)
  /-- CLEAN_INV (R225): A maintenance operation writes back and then discards every line in scope. -/
  | cacheCleanInv (v : Word)
  /-- MOP_DONE (R225): A maintenance operation completes and sets MOP_DONE. -/
  | mopDone
  /-- SPAD_REQUEST (R228): A scratchpad bank judges and serves a plain request by owner and sharing. -/
  | spadRequest (r : MemReq)
  /-- SPAD_ALIAS_WRITE (R232): A write through the set or clear alias window performs an atomic read-modify-write of each row. -/
  | spadAliasWrite (r : MemReq)
  /-- SPAD_BANK_WRITE (R230): A write of SPAD_BANKn sets owner and sharing from the second cycle after. -/
  | spadBankWrite (n : Nat) (v : Word)
  /-- MERGE_FLUSH_TIMEOUT (R253): A merge entry with no write for 64 cycles is flushed into the array. -/
  | mergeFlushTimeout (unit : Nat) (addr : Nat)
  /-- CE_WRITEBACK (R257): A corrected word is written back in the unit's next free port cycle. -/
  | ceWriteback (unit : Nat)
  /-- GARNET_READ (R237): A Garnet read is answered from the write buffer or from the array. -/
  | garnetRead (r : MemReq)
  /-- GARNET_WRITE (R238): A Garnet write merges into its write-buffer row and is acknowledged. -/
  | garnetWrite (r : MemReq)
  /-- GARNET_ROW_WRITEOUT (R238): The write buffer writes a row to the array, verifying it and moving the wear gap. -/
  | garnetRowWriteout (sector : Nat) (firstOk secondOk : Bool)
  /-- GARNET_FENCE (R239): A write of GARNET_FENCE requests a fence over earlier acknowledged writes. -/
  | garnetFence (i : Iface)
  /-- FENCE_COMPLETE (R239): A fence completes, its response is sent and GARNET_FSEQ increments. -/
  | fenceComplete
  /-- PWR_FAIL_FALL (R241): PWR_FAIL_N falls: Garnet writes are refused and the write buffer is flushed. -/
  | pwrFailFall
  /-- PF_DONE (R241): The power-fail flush empties the write buffer. -/
  | pfDone
  /-- PWR_FAIL_RISE (R241): PWR_FAIL_N rises and Garnet writes are accepted again. -/
  | pwrFailRise
  /-- SCRUB_START (R259): A write of ECC_SCTRL.START starts a scrub pass or is ignored. -/
  | scrubStart (v : Word)
  /-- SCRUB_STOP (R262): A write of ECC_SCTRL.STOP ends the running pass. -/
  | scrubStop
  /-- SCRUB_BLOCK (R260): Every 2^RATE cycles the pass checks the next 64-byte block, correcting or poisoning. -/
  | scrubBlock
  /-- BACKGROUND_SCRUB (R263): The supervisor's background scrub checks the next word. -/
  | backgroundScrub (unit word : Nat)
  /-- ECC_MBFLUSH (R270): A write of ECC_MBFLUSH flushes every merge buffer and is answered when all are empty. -/
  | eccMbflush (i : Iface)
  /-- RETIRE_ENTRY_WRITE (R271): A write of ECC_RTENT sets a retirement entry, or is ignored. -/
  | retireEntryWrite (i : Iface) (v : Word)
  /-- MARCH_START (R265): A write of MARCH_CTRL.START begins a march on the named units. -/
  | marchStart (v : Word)
  /-- MARCH_DONE (R265): A march run completes and sets DONE_EV. -/
  | marchDone (fails : List (Nat × Nat))
  /-- DDR_TRAIN (R274): A write of DDR_CTRL.TRAIN applies DDR_CFG and trains every channel. -/
  | ddrTrain
  /-- TRAIN_DONE (R274): Training ends with READY, or with TRAINFAIL and a CRIT record. -/
  | trainDone (failMask : BitVec 16)
  /-- MR4_POLL (R277): Every 4 ms each rank's MR4 is polled and the refresh multiplier chosen. -/
  | mr4Poll (codes : List (BitVec 3 × BitVec 3))
  /-- DDR_POWER_DOWN (R278): A channel idle for PDIDLE cycles enters power-down. -/
  | ddrPowerDown (ch : Nat)
  /-- DDR_SELF_REFRESH (R278): A channel idle for SRIDLE cycles enters self-refresh. -/
  | ddrSelfRefresh (ch : Nat)
  /-- REGION_COMMIT (R281): A write of DDR_RENT0 commits a region entry under its checks and policy. -/
  | regionCommit (i : Iface) (v : Word)
  /-- REGION_INIT_DONE (R282): An INITIALIZING region finishes its initialization and becomes ACTIVE. -/
  | regionInitDone (r : Nat)
  /-- KID_ALLOC (R293): A read of MCE_KIDALLOC activates the lowest FREE KID with a fresh key. -/
  | kidAlloc (i : Iface)
  /-- KID_RETIRE (R293): A write of MCE_KIDCMD.RETIRE moves an unused KID to DRAINING. -/
  | kidRetire (v : Word)
  /-- KID_FREE (R293): A DRAINING KID's lines are cleaned and it becomes FREE. -/
  | kidFree (kid : Nat)
  /-- REKEY_START (R294): A write of MCE_RKCMD.START begins a re-key of a region. -/
  | rekeyStart (v : Word)
  /-- REKEY_DONE (R294): A re-key sweep finishes and the region takes its new KID. -/
  | rekeyDone
  /-- NOKID_RETRY (R292): Every 1 ms an automatic re-key waiting for a FREE KID tries again. -/
  | nokidRetry (r : Nat)
  /-- SYS_INJ (R319): A write of SYS_INJ.GO inverts one stored bit without its parity, or is ignored. -/
  | sysInj (v : Word)
  /-- CHECKER_READBACK (R312): Every 1 ms the supervisor reads back checker control registers and corrects them. -/
  | checkerReadback (upsets : List (Nat × Nat))
  /-- SUPV_RESTART (R313): A lockstep mismatch restarts the supervisor from its boot ROM. -/
  | supvRestart
  /-- FLINT_FIX (R314): The Flint readback sweep finds an upset frame and rewrites it. -/
  | flintFix (tile frame : Nat)
  /-- MZ_NOP (R325): An MZ cell issues NOP or an unused code and writes nothing. -/
  | mzNop (part cell : Nat) (e : MzEntry)
  /-- MZ_PASS (R325): An MZ cell passes SA to O. -/
  | mzPass (part cell : Nat) (e : MzEntry)
  /-- MZ_ADD (R325): An MZ cell adds with carry out. -/
  | mzAdd (part cell : Nat) (e : MzEntry)
  /-- MZ_ADC (R325): An MZ cell adds with carry in and out. -/
  | mzAdc (part cell : Nat) (e : MzEntry)
  /-- MZ_SUB (R325): An MZ cell subtracts. -/
  | mzSub (part cell : Nat) (e : MzEntry)
  /-- MZ_SBC (R325): An MZ cell subtracts with carry. -/
  | mzSbc (part cell : Nat) (e : MzEntry)
  /-- MZ_AND (R325): An MZ cell computes AND. -/
  | mzAnd (part cell : Nat) (e : MzEntry)
  /-- MZ_OR (R325): An MZ cell computes OR. -/
  | mzOr (part cell : Nat) (e : MzEntry)
  /-- MZ_XOR (R325): An MZ cell computes XOR. -/
  | mzXor (part cell : Nat) (e : MzEntry)
  /-- MZ_SHL (R325): An MZ cell shifts left. -/
  | mzShl (part cell : Nat) (e : MzEntry)
  /-- MZ_SHR (R325): An MZ cell shifts right logically. -/
  | mzShr (part cell : Nat) (e : MzEntry)
  /-- MZ_SAR (R325): An MZ cell shifts right arithmetically. -/
  | mzSar (part cell : Nat) (e : MzEntry)
  /-- MZ_MUL (R325): An MZ cell keeps the low half of an unsigned product. -/
  | mzMul (part cell : Nat) (e : MzEntry)
  /-- MZ_MULH (R325): An MZ cell keeps the high half of an unsigned product. -/
  | mzMulh (part cell : Nat) (e : MzEntry)
  /-- MZ_CMPEQ (R325): An MZ cell compares for equality and sets C. -/
  | mzCmpeq (part cell : Nat) (e : MzEntry)
  /-- MZ_CMPLT (R325): An MZ cell compares unsigned less-than and sets C. -/
  | mzCmplt (part cell : Nat) (e : MzEntry)
  /-- MZ_SEL (R325): An MZ cell selects by C. -/
  | mzSel (part cell : Nat) (e : MzEntry)
  /-- MZ_MIN (R325): An MZ cell takes the unsigned minimum. -/
  | mzMin (part cell : Nat) (e : MzEntry)
  /-- MZ_MAX (R325): An MZ cell takes the unsigned maximum. -/
  | mzMax (part cell : Nat) (e : MzEntry)
  /-- HOST_BUS_READ (R338): The MZ host reads a host-bus address combinationally. -/
  | hostBusRead (part : Nat) (a : BitVec 12)
  /-- HOST_BUS_WRITE (R331): The MZ host writes a host-bus address, taking effect at the next HCLK edge. -/
  | hostBusWrite (part : Nat) (a : BitVec 12) (v : BitVec 16)
  /-- CFGD_WRITE (R341): A write of CFGD delivers one configuration stream word. -/
  | cfgdWrite (part : Nat) (w : BitVec 16)
  /-- PAD (R341): A PAD block is ignored. -/
  | mzPad (part : Nat) (ws : List (BitVec 16))
  /-- IDENT (R343): An IDENT block checks the part identity. -/
  | mzIdent (part : Nat) (ws : List (BitVec 16))
  /-- SEEK (R342): A SEEK block sets the frame address. -/
  | mzSeek (part : Nat) (ws : List (BitVec 16))
  /-- FILL (R342): A FILL block writes frame words from the frame address onward, decrypting when sealed. -/
  | mzFill (part : Nat) (ws : List (BitVec 16))
  /-- MODE (R344): A MODE block sets SEAL and the key source. -/
  | mzMode (part : Nat) (ws : List (BitVec 16))
  /-- IV (R344): An IV block sets the CBC initial vector. -/
  | mzIv (part : Nat) (ws : List (BitVec 16))
  /-- CHECK (R343): A CHECK block compares the running check. -/
  | mzCheck (part : Nat) (ws : List (BitVec 16))
  /-- RESTART (R343): A RESTART block resets the running check. -/
  | mzRestart (part : Nat) (ws : List (BitVec 16))
  /-- GO (R343): A GO block completes the configuration and schedules GSR release. -/
  | mzGo (part : Nat) (ws : List (BitVec 16))
  /-- FINISH (R341): A FINISH block ends the stream. -/
  | mzFinish (part : Nat) (ws : List (BitVec 16))
  /-- MZ_GSR_RELEASE (R348): 16 tile-clock cycles after GO over the host bus, the part leaves GSR. -/
  | mzGsrRelease (part : Nat)
  /-- PROG (R348): A write of CFGCTL.PROG = 1 clears the part's configuration and puts it into GSR. -/
  | mzProg (part : Nat)
  /-- MAILBOX_FORM_TOKEN (R350): An array write to address 7 of an outbound mailbox forms a token. -/
  | mailboxFormToken (tile m : Nat)
  /-- MAILBOX_PRESENT (R351): An outbound mailbox presents its oldest token to the matching store or a queue. -/
  | mailboxPresent (tile m : Nat)
  /-- MAILBOX_TAKE (R352): An inbound mailbox takes a token from its queue. -/
  | mailboxTake (tile m : Nat)
  /-- MAILBOX_DISCARD (R352): An array write to address 7 of an inbound mailbox discards the oldest token. -/
  | mailboxDiscard (tile m : Nat)
  /-- FLINT_CLK_WRITE (R359): A write of FLINTn_CLK sets tile clock sources, or is ignored. -/
  | flintClkWrite (tile : Nat) (v : Word)
  /-- MAILBOX_CONFIG_WRITE (R360): A write of a mailbox register configures it, or is ignored. -/
  | mailboxConfigWrite (tile off : Nat) (v : Word)
  /-- POR_RELEASE (R378): POR_N rises, straps are sampled, and a resume or cold start begins. -/
  | porRelease (st : Straps)
  /-- SYS_RESET_RELEASE (R378): SYS_RESET_N is released and a warm start begins. -/
  | sysResetRelease
  /-- PRESET_WAIT (R373): A REGS wait record polls until its condition holds or its timeout passes. -/
  | presetWait (timedOut : Bool)
  /-- START_STEP_DONE (R382): A start step that took time completes and the next step begins. -/
  | startStepDone (x : StartIn)
  /-- LOAD (R387): CFG_CMD LOAD stages an area into the inactive slot while running. -/
  | cfgLoad (area : Nat) (f : Flash)
  /-- LOAD_COMMIT (R377): A load finishes its checks and writes and commits the slot VALID, or fails. -/
  | loadCommit (x : CommitIn)
  /-- ACTIVATE (R388): CFG_CMD ACTIVATE sets or clears a pending activation. -/
  | cfgActivate (slot : Nat)
  /-- ROLLBACK (R388): CFG_CMD ROLLBACK sets a pending rollback and restarts warm. -/
  | cfgRollback
  /-- CFG_RESTART (R378): CFG_CMD RESTART begins a warm or cold start. -/
  | cfgRestart (cold : Bool)
  /-- ABORT (R387): CFG_CMD ABORT ends a running load and empties its slot. -/
  | cfgAbort
  /-- CLRREJ (R388): CFG_CMD CLRREJ returns REJECTED slots to VALID. -/
  | cfgClrrej
  /-- CFG_CONFIRM (R381): A write of CFG_CONFIRM confirms the start and zeroes failcnt. -/
  | cfgConfirm (i : Iface)
  /-- CONFIRM_TIMEOUT (R381): CONFIRM_MS of RUN without a CRIT record confirms the start. -/
  | confirmTimeout
  /-- OPEN (R397): SEC_ACMD OPEN opens an authorization session with a fresh nonce. -/
  | sessionOpen (i : Iface) (entropyOk : Bool)
  /-- SUBMIT (R399): SEC_ACMD SUBMIT judges an authority's signature. -/
  | sessionSubmit (i : Iface)
  /-- CANCEL_SESSION (R402): SEC_ACMD CANCEL returns the session to IDLE. -/
  | sessionCancel (i : Iface)
  /-- SESSION_EXPIRED (R400): A session's window, open time or grant passes and it returns to IDLE. -/
  | sessionExpired
  /-- GRANTED_WRITE (R401): The owner's write to an RWA field takes effect when it matches the grant, or is denied. -/
  | grantedWrite (i : Iface) (addr : Nat) (v : Word)
  /-- PROGRAM_IMAGE_KEY_E (R404): SEC_KEYPROG KIND 1 programs an eFuse image key from a wrapped key. -/
  | programImageKeyE (i : Iface) (v : Word)
  /-- PROGRAM_IMAGE_KEY_B (R404): SEC_KEYPROG KIND 2 programs a BBRAM image key. -/
  | programImageKeyB (i : Iface) (v : Word)
  /-- PROGRAM_MZ_KEY (R404): SEC_KEYPROG KIND 3 programs an MZ key slot. -/
  | programMzKey (i : Iface) (v : Word)
  /-- PROGRAM_SIGNING_HASH (R404): SEC_KEYPROG KIND 4 programs a signing-key hash. -/
  | programSigningHash (i : Iface) (v : Word)
  /-- REVOKE_SIGNING_HASH (R404): SEC_KEYPROG KIND 5 revokes a signing-key hash. -/
  | revokeSigningHash (i : Iface) (v : Word)
  /-- GENESIS (R405): SEC_AUTH GENESIS enrols A0 and A1 and provisions the device. -/
  | secGenesis (i : Iface) (v : Word)
  /-- ENROL_AUTHORITY (R405): SEC_AUTH with REVOKE = 0 enrols an authority slot. -/
  | enrolAuthority (i : Iface) (v : Word)
  /-- REVOKE_AUTHORITY (R405): SEC_AUTH with REVOKE = 1 revokes an authority slot. -/
  | revokeAuthority (i : Iface) (v : Word)
  /-- FUSE_POLICY_WRITE (R393): An authorized write of SEC_FPOL blows policy fuses. -/
  | fusePolicyWrite (i : Iface) (v : Word)
  /-- ARBSET_WRITE (R392): An authorized write of SEC_ARBSET raises ARB_MIN. -/
  | arbsetWrite (i : Iface) (v : Word)
  /-- RPOL_WRITE (R403): An authorized write of SEC_RPOL sets a region's PROT mask. -/
  | rpolWrite (i : Iface) (v : Word)
  /-- SCANEN (R406): An authorized write of SEC_DBG.SCANEN = 1 clears every secret and opens scan. -/
  | secScanen (i : Iface) (v : Word)
  /-- CLOCK_MONITOR_WINDOW (R411): Each window of 4,096 Dawn cycles the monitor judges every monitored clock. -/
  | clockMonitorWindow (counts : List (Nat × Nat))
  /-- CLOCK_NO_EDGE (R411): A clock with no edge in 4 Dawn cycles fails. -/
  | clockNoEdge (clk : Nat)
  /-- DAWN_CALIBRATION (R412): Every 32,768 XTAL32 cycles Dawn is measured and the expected counts scaled. -/
  | dawnCalibration (count : Nat)
  /-- ZENITH_READY (R414): Zenith declares itself ready and stopped consumers start on it. -/
  | zenithReady
  /-- CLK_RETURN (R415): A write of CLK_CMD.RETURN returns consumers to their own clocks. -/
  | clkReturn
  /-- CLOCK_GATE_CLOSE (R416): A gate closes once its block's bus interface is idle. -/
  | clockGateClose (dom : Nat)
  /-- CG_TIMEOUT (R416): A gate request not idle after 1,024 cycles fails. -/
  | cgTimeout (dom : Nat)
  /-- CLK_OBS_WRITE (R417): A write of CLK_OBS selects the CLKOBS output, or is ignored above 200 MHz. -/
  | clkObsWrite (v : Word)
  /-- PWR_REQ_AUTO (R427): PWR_DCTL.REQ = AUTO returns a domain to its idle policy. -/
  | pwrReqAuto (i : Iface)
  /-- PWR_REQ_ON (R420): PWR_DCTL.REQ = ON wakes a domain and keeps it ON. -/
  | pwrReqOn (i : Iface)
  /-- PWR_REQ_OFF (R420): PWR_DCTL.REQ = OFF sends a domain off, or a cluster to NIMBUS when idle. -/
  | pwrReqOff (i : Iface)
  /-- PWR_DSEL_WRITE (R427): A write of PWR_DSEL selects a domain, or is ignored above 1,482. -/
  | pwrDselWrite (i : Iface) (v : Word)
  /-- DOMAIN_SWITCH_OFF (R419): A domain's isolation and switch-off completes. -/
  | domainSwitchOff (dom : Nat)
  /-- CIRRUS_ENTRY (R420): An idle cluster enters CIRRUS after CIRDLY cycles. -/
  | cirrusEntry (c : Nat)
  /-- STRATUS_ENTRY (R420): A cluster enters STRATUS after 2^STRLOG cycles in CIRRUS. -/
  | stratusEntry (c : Nat)
  /-- NIMBUS_ENTRY (R420): A cluster enters NIMBUS after 2^NIMLOG cycles in STRATUS. -/
  | nimbusEntry (c : Nat)
  /-- CLUSTER_WAKE (R421): A woken cluster reaches ON after its exit time. -/
  | clusterWake (c : Nat)
  /-- PWR_OPP_WRITE (R423): A write of PWR_OPPr.REQ sets the requested point, or is refused above the grade. -/
  | pwrOppWrite (r : Nat) (v : Word)
  /-- OPP_TRANSITION (R424): The sequencer ramps a region's rail and switches its clock toward its target. -/
  | oppTransition (r : Nat)
  /-- PWR_CPOL_WRITE (R427): A write of PWR_CPOL sets the cluster idle policy, or is ignored. -/
  | pwrCpolWrite (v : Word)
  /-- THERMAL_SAMPLE (R429): All sensors are sampled and thresholds, steps, rates and bands are judged. -/
  | thermalSample (us : Nat) (raw : List (Option Int)) (plow : Nat)
  /-- RESUME (R434): A write of TH_CTRL.RESUME ends the halt, or is ignored. -/
  | thermResume
  /-- BROKEN_CLEAR (R437): A write of 1 to a TH_BROKEN bit clears the mark, or is ignored. -/
  | brokenClear (sensor : Nat)
  /-- THERMTRIP (R435): The analog comparator trips, THERMTRIP_N falls and the upper-die rails switch off. -/
  | thermtrip
  /-- AGE_MEASUREMENT (R442): Every 10 minutes the Quartz monitors are measured and the offsets planned. -/
  | ageMeasurement (ds : List (Nat × Nat))
  /-- MEASURE (R442): A write of AGE_CTRL.MEASURE measures every monitor. -/
  | ageMeasure (ds : List (Nat × Nat))
  /-- DATA_BLOCK (R448): A lane receives a data block. -/
  | dataBlock (lane : Nat) (hdr : BitVec 2) (w : DWord)
  /-- IDLE (R450): A lane receives an IDLE block. -/
  | laneIdle (lane : Nat)
  /-- SLEEP (R456): A lane receives a SLEEP block announcing HAZE. -/
  | laneSleep (lane : Nat)
  /-- START (R458): A raw receiver receives START and opens a frame. -/
  | laneStart (lane : Nat) (w : DWord)
  /-- TERM (R458): A raw receiver receives TERM and releases the frame's tokens. -/
  | laneTerm (lane : Nat) (w : DWord)
  /-- XOFF (R460): A raw egress receives XOFF and stops after its frame. -/
  | laneXoff (lane : Nat)
  /-- XON (R460): A raw egress receives XON and resumes. -/
  | laneXon (lane : Nat)
  /-- DFRAME (R463): A Dalyel receiver receives a DFRAME header with SEQ, ACK and CREDIT. -/
  | laneDframe (lane : Nat) (w : DWord)
  /-- DEND (R463): A Dalyel receiver receives DEND and accepts or discards the frame. -/
  | laneDend (lane : Nat) (w : DWord)
  /-- MARKER (R451): A lane receives an alignment marker and judges lane map, BIP8 and FAILMAP. -/
  | laneMarker (lane : Nat) (w : DWord)
  /-- RAW_EGRESS_FRAME (R461): A raw egress sends a frame of tokens from its queue. -/
  | rawEgressFrame (lane : Nat)
  /-- DALYEL_TRANSMIT (R462): A Dalyel transmitter sends a frame of tokens within its credit. -/
  | dalyelTransmit (lane : Nat)
  /-- DALYEL_RESEND_TIMEOUT (R463): A transmitter with no DFRAME for 64 µs resends from ACK + 1. -/
  | dalyelResendTimeout (lane : Nat)
  /-- DALYEL_ACK_FRAME (R463): A receiver sends an empty DFRAME when ACK advances and at least every 1 µs. -/
  | dalyelAckFrame (lane : Nat)
  /-- HAZE_ENTRY (R456): A link direction idle for HAZEIDLE blocks sends SLEEP and enters HAZE. -/
  | hazeEntry (lane : Nat)
  /-- DUSK_ENTRY (R456): A lane in HAZE for DUSKDLY µs enters DUSK. -/
  | duskEntry (lane : Nat)
  /-- LANE_LCFG_WRITE (R447): A write of LANE_LCFG configures or enables a link, or is ignored. -/
  | laneLcfgWrite (i : Iface) (v : Word)
  /-- LANE_GRATE_WRITE (R446): A write of LANE_GRATEg sets a group rate, or is ignored. -/
  | laneGrateWrite (g : Nat) (v : Word)
  /-- INJ (R455): A write of LANE_PRBS.INJ inverts one transmitted bit. -/
  | laneInj (lane : Nat)
  /-- HALO_FRAME (R467): An enabled device receives a ring frame, forwards it or removes it. -/
  | haloFrame (f : HaloFrame)
  /-- ENUM (R468): The master sends ENUM every 1 ms and takes N and W from its return. -/
  | haloEnum
  /-- TIME (R469): The master sends TIME every 1 ms and slaves set their RTC. -/
  | haloTime
  /-- NOMST (R468): A slave with no ENUM for 4 ms sets NOMST. -/
  | haloNomst
  /-- HALO_TX_GO (R471): A write of HALO_TXCTL.GO sends an MSG frame. -/
  | haloTxGo (v : Word)
  /-- HALO_LOST (R471): An MSG frame not returned within 4 × L ends with RESULT LOST. -/
  | haloLost
  /-- HALO_RX_POP (R473): A write of HALO_RXST.POP discards the oldest received message. -/
  | haloRxPop
  /-- HALO_BOLT_GO (R470): A write of HALO_BOLT.GO originates a ring BOLT. -/
  | haloBoltGo
  /-- PCIE_MEM_READ (R475): A PCIe read TLP reaches a BAR and is completed with data or an error. -/
  | pcieMemRead (bar off : Nat) (len : Nat)
  /-- PCIE_MEM_WRITE (R475): A PCIe write TLP reaches a BAR and is performed or discarded. -/
  | pcieMemWrite (bar off : Nat) (bytes : List (Option Byte)) (ep : Bool)
  /-- HOST_TIMEOUT (R476): A host request with no response within 10 ms ends with TIMEOUT. -/
  | hostTimeout (i : Iface) (addr : Nat) (write : Bool)
  /-- PERST (R477): PERST_N resets the PCIe subsystem and halts the DMA channels. -/
  | perst
  /-- FUNCTION_LEVEL_RESET (R477): A function-level reset resets the PCIe endpoint. -/
  | functionLevelReset
  /-- DMA_TAIL_WRITE (R480): A write of PCIE_DMAc_TAIL gives a channel descriptors to run. -/
  | dmaTailWrite (ch : Nat) (v : Word)
  /-- COPY (R480): A COPY descriptor reads its source and writes its destination. -/
  | dmaCopy (ch : Nat)
  /-- TOKIN (R480): A TOKIN descriptor presents tokens to the matching store or queues. -/
  | dmaTokin (ch : Nat)
  /-- TOKOUT (R480): A TOKOUT descriptor dequeues tokens and writes them to its destination. -/
  | dmaTokout (ch : Nat)
  /-- DMA_DESCRIPTOR_DONE (R480): A descriptor completes, RESULT is written and HEAD advances. -/
  | dmaDescriptorDone (ch : Nat)
  /-- RESUME_DMA (R482): CMD RESUME continues a halted descriptor from COUNT. -/
  | dmaResume (ch : Nat)
  /-- SKIP (R482): CMD SKIP advances HEAD past a halted descriptor. -/
  | dmaSkip (ch : Nat)
  /-- STOP (R482): CMD STOP halts the channel with cause ABORT. -/
  | dmaStop (ch : Nat)
  /-- HP_NATIVE_READ (R484): A native HP read of a mirror, window or register address. -/
  | hpNativeRead (a : BitVec 14)
  /-- HP_NATIVE_WRITE (R484): A native HP write to a window or register address. -/
  | hpNativeWrite (a : BitVec 14) (v : Word)
  /-- HP_WINDOW_COMPLETE (R485): A waiting HP window access completes and HP_WAIT_N rises. -/
  | hpWindowComplete
  /-- HP_WINDOW_TIMEOUT (R485): An HP window access waiting 65,536 cycles ends with TIMEOUT. -/
  | hpWindowTimeout
  /-- MIRROR_UPDATE (R486): A mirror-sink token updates mirror registers at an HP_CLK edge. -/
  | mirrorUpdate
  /-- HP_PUSH (R487): A write of HP_PUSH3 from HP presents a token. -/
  | hpPush (i : Iface) (v : Word)
  /-- SMB_SET_ADDRESS (R488): SMBus command 0x10 sets the access address. -/
  | smbSetAddress (a : BitVec 48) (pecOk : Bool)
  /-- SMB_READ (R488): SMBus command 0x11 reads 32 bits and advances the address. -/
  | smbRead (pecOk : Bool)
  /-- SMB_WRITE (R488): SMBus command 0x12 writes 32 bits and advances the address. -/
  | smbWrite (v : Word) (pecOk : Bool)
  /-- SMB_STATUS (R488): SMBus command 0x13 returns and clears the last access status. -/
  | smbStatus
  /-- GPIO_DATA_WRITE (R491): A write of GPIO_DATAb replaces the software outputs. -/
  | gpioDataWrite (b : Nat) (v : Word)
  /-- GPIO_SET (R491): A write of GPIO_SETb sets software output bits. -/
  | gpioSet (b : Nat) (v : Word)
  /-- GPIO_CLR (R491): A write of GPIO_CLRb clears software output bits. -/
  | gpioClr (b : Nat) (v : Word)
  /-- GPIO_FOUT_WRITE (R491): A write of GPIO_FOUTb replaces the fabric outputs. -/
  | gpioFoutWrite (b : Nat) (v : Word)
  /-- GPIO_FSET (R491): A write of GPIO_FSETb sets fabric output bits. -/
  | gpioFset (b : Nat) (v : Word)
  /-- GPIO_FCLR (R491): A write of GPIO_FCLRb clears fabric output bits. -/
  | gpioFclr (b : Nat) (v : Word)
  /-- GPIO_FSEL_WRITE (R492): A change of FSEL moves a pin to a new function without a glitch. -/
  | gpioFselWrite (b : Nat) (v : Word)
  /-- GPIO_EVENT_EDGE (R493): A selected edge on an EVT pin forms an event token, or is lost when the buffer is full. -/
  | gpioEventEdge (b : Nat) (pads : BitVec 16)
  /-- GPIO_HOLD_WRITE (R494): A write of GPIO_HOLD holds or releases bank pad latches. -/
  | gpioHoldWrite (v : Word)
  /-- STRATA_RTC_WRITE (R499): A write of STRATA_RTC sets the RTC and writes an RTC_SET record. -/
  | strataRtcWrite (i : Iface) (hi : Word)
  /-- STATISTIC_SAMPLE (R503): A statistic takes a sample into its bin and extremes. -/
  | statisticSample (idx : Nat) (v : Int)
  /-- CHECKPOINT_TIMER (R504): Every 10 minutes of powered time the statistics are checkpointed and fenced. -/
  | checkpointTimer
  /-- CKPT (R504): STRATA_CMD CKPT writes a statistics checkpoint. -/
  | strataCkpt
  /-- CLRREC (R507): STRATA_CMD CLRREC clears records up to a severity. -/
  | strataClrrec (sev : BitVec 2)
  /-- CLRSTAT (R517): STRATA_CMD CLRSTAT clears one or all statistics. -/
  | strataClrstat (idx : Nat)
  /-- BOLT_IN (R509): A rising edge on BOLT_IN originates a BOLT. -/
  | boltIn
  /-- BOLT (R509): A write of SNAP_CTRL.BOLT originates a BOLT. -/
  | snapBolt
  /-- BOLT_LATCH (R510): The RTC reaches TICK and every block latches its snapshot. -/
  | boltLatch (ticks : Nat)
  /-- REARM (R511): A write of SNAP_CTRL.REARM releases a HELD snapshot. -/
  | snapRearm
  /-- BIST_TEST_START (R512): GAP ms after the previous test a die starts BIST on its next cluster, or defers it. -/
  | bistTestStart (die : Nat) (railOk : Bool)
  /-- BIST_SIGNATURE_CHECK (R513): Logic BIST ends, the signature is compared and state restored or the cluster fenced. -/
  | bistSignatureCheck (die : Nat) (pass : Bool)
  /-- BIST_INTERRUPT (R514): A halt, clock failure or rail excursion interrupts a test. -/
  | bistInterrupt (die : Nat)
  /-- UNFENCE (R516): BIST_CMD UNFENCE tests a fenced cluster three times and unfences it on pass. -/
  | bistUnfence (c : Nat) (passes : List Bool)
  /-- TEST (R516): BIST_CMD TEST runs BIST on a named cluster at once. -/
  | bistTest (c : Nat)
  /-- POR_ASSERT (R528): POR_N falls and the whole device enters POR. -/
  | porAssert
  /-- SYS_RESET_ASSERT (R528): SYS_RESET_N falls, the device prepares and then resets. -/
  | sysResetAssert
  /-- IO_RESET_ASSERT (R531): IO_RESET_N falls and the Bedrock I/O subsystems are held. -/
  | ioResetAssert
  /-- IO_RESET_RELEASE (R531): IO_RESET_N rises and the I/O subsystems resume within 100 µs. -/
  | ioResetRelease
  /-- SUPPLY_MONITOR_DROP (R527): A monitored supply falls below range for 2 µs and the device enters POR or power-fail. -/
  | supplyMonitorDrop (which : Supply)
  /-- CLUSTER_RESET (R532): A write of SYS_CRST.GO resets one cluster. -/
  | clusterReset (v : Word)
  /-- CLW_MDATA_READ (R77): A read of CLW_MDATA_LO reads a cluster-memory word when the port is free. -/
  | clwMdataRead (i : Iface) (c : Nat)
  /-- MDATA_TIMEOUT (R77): A debug read unserved after 4,096 cycles ends with an error. -/
  | mdataTimeout (i : Iface) (c : Nat)
  /-- PAIR_LOW_READ (R13): A read of a low half copies the high half into the interface's snapshot. -/
  | pairLowRead (i : Iface) (addr : Nat)
  /-- PAIR_LOW_WRITE (R14): A write of a low half stages it in the interface's staging register. -/
  | pairLowWrite (i : Iface) (addr : Nat) (v : Word)
  /-- PAIR_HIGH_WRITE (R14): A write of a high half commits both halves together, or is ignored. -/
  | pairHighWrite (i : Iface) (addr : Nat) (v : Word)
  /-- REGISTER_WRITE (R10): A write to a register with no row of its own acts by its access codes. -/
  | registerWrite (i : Iface) (addr : Nat) (v : Word)
  /-- VPP_SLATE_RETURN (R527): VPP_SLATE has been back within range for 1 ms, Garnet writes are accepted again and waiting context restores proceed. -/
  | vppSlateReturn
  /-- AON_SUPPLY_LOSS (R530): VDD_AON and VBAT are both absent, so the RTC, TSET, failcnt, TRIPSEEN and the BBRAM slots are lost. -/
  | aonSupplyLoss
  /-- PCIE_LINK_CHANGE (R477): The PCIe link reaches L0 after training or leaves it for a loss, which updates PCIE_LINK and sets LINKDN_EV. -/
  | pcieLinkChange (up : Bool) (width gen : Nat)
  /-- HOST_COMPLETION (R482): A completion TLP from host memory arrives for a DMA read and is used, or halts the channel on UR, CA or EP. -/
  | hostCompletion (ch : Nat) (st : HostStatus) (data : List Byte)
  /-- COMPLETION_TIMEOUT (R482): A DMA read of host memory gets no completion within the PCIe completion timeout and the channel halts with RERR. -/
  | completionTimeout (ch : Nat)
  /-- PRBS_RECEIVE (R455): A lane with RXEN receives pattern bits; the checker seeds, gains RXLOCK after 64 correct bits and counts wrong bits. -/
  | prbsReceive (lane : Nat) (bits : List Bool)
  /-- RAW_EGRESS_EMPTY_TIMEOUT (R461): A raw egress frame in progress ends because its queue has been empty for 64 NCLK cycles. -/
  | rawEgressEmptyTimeout (lane : Nat)
  /-- SUPV_RESTART_DONE (R313): The supervisor finishes restarting from its boot ROM, and read-backs, background scrubbing and context restores resume. -/
  | supvRestartDone
  /-- JTAG_INSTRUCTION (R407): An instruction is loaded on the JTAG port and runs if SCANEN or the UNPROVISIONED state allows it. -/
  | jtagInstruction (ins : JtagIns)
  /-- REFRESH_INTERVAL (R277): A per-bank refresh interval of a channel passes and a new refresh multiplier takes effect. -/
  | refreshInterval (ch : Nat)
deriving DecidableEq, Repr

end Sys2Proof
end

