-- ==== Sys2Proof/Machine/StMem.lean ====
section
/-! DEFINITION. The state of the memories: cache slices and scratch-lock, scratchpad, the Garnet bank, merge
buffers, error marks, repair record, scrub and march engines, external memory with its regions, keys and counters
(chapters 08-10), as plain data. -/

namespace Sys2Proof.Machine

/-- What the code of a protected unit would report (R248, R249): clean, correctable, a fresh uncorrectable
pattern, or POISON. -/
inductive Mark where
  | clean | ce | ue | poison
deriving DecidableEq, Repr

/-- A cache line (R217): sectors' valid and dirty bits, tag and the key identifier at allocation. -/
structure CLine where
  tag : BitVec 12
  kid : BitVec 6
  v : BitVec 4
  d : BitVec 4
deriving DecidableEq, Repr

/-- A merge-buffer entry (R252): unit code, the device address of its 64-bit word, the bytes given. -/
structure MergeEnt where
  unit : Nat
  addr : Nat
  bytes : List (Option Byte)
deriving DecidableEq, Repr

/-- A corrected word waiting for a free port cycle of its unit (R257). -/
structure CeBack where
  unit : Nat
  addr : Nat
deriving DecidableEq, Repr

/-- The maintenance operation in progress (R225). -/
structure Mop where
  op : BitVec 3
  scope : BitVec 2
  kid : BitVec 6
  base : Nat
  len : Nat
deriving DecidableEq, Repr

/-- The shared cache (R217-R225). `arr` holds the bytes of the arrays, keyed (16 x slice + way) x 65,536 + set x 256
+ byte, locked ways included; `marks` the error marks of their 64-bit words (key / 8); `lines` is keyed (16 x slice +
way) x 256 + set, `plru` 256 x slice + set, `excl` the excluded ways (R267) as `lines`; `trans` holds the new mask of
a slice's lock transition; `waiting` the requests that wait for a sector fetch, oldest first. -/
structure Cache where
  arr : SMap Byte
  marks : SMap Mark
  lines : SMap CLine
  plru : SMap (BitVec 15)
  excl : SMap Bool
  lock : SMap (BitVec 15)
  trans : SMap (BitVec 16)
  mop : Option Mop
  hits : SMap (BitVec 32)
  misses : SMap (BitVec 32)
  wbacks : SMap (BitVec 32)
  ovf : SMap (BitVec 3)
  waiting : List MemReq
deriving DecidableEq, Repr

/-- The scratchpad (R226-R236): bytes by plain-window offset, marks by 64-bit word; `lost` the banks whose contents were lost with their
supply, with 1 + the epoch of the free values they read as (log entry 4). The owner and sharing of bank n are the register SPAD_BANKn. -/
structure Spad where
  arr : SMap Byte
  marks : SMap Mark
  lost : SMap Nat
deriving DecidableEq, Repr

/-- A row of the Garnet write buffer (R238): row number, its 64 bytes, and whether it merged into an unusable row
(R249). -/
structure WbRow where
  row : Nat
  bytes : List Byte
  bad : Bool
deriving DecidableEq, Repr

/-- A fence (R239): who asked, and the rows it still waits for. -/
structure Fence where
  who : Iface
  rows : List Nat
deriving DecidableEq, Repr

/-- The Garnet bank (R237-R244): array bytes by offset, marks by row; write buffer in order of first entry; rows
poisoned for want of a spare (R244); gap position, writes since the gap moved and total writes of each group; `waiting`
the writes that wait for a free row of their sector, in order of arrival. -/
structure Garnet where
  arr : SMap Byte
  marks : SMap Mark
  wbuf : List WbRow
  fences : List Fence
  dead : SMap Bool
  gap : SMap Nat
  since : SMap Nat
  total : SMap Nat
  waiting : List MemReq
  pf : Bool
  pfDone : Bool
deriving DecidableEq, Repr

/-- The running scrub pass (R259-R262): next address, end, and counts per page of the range: uncorrectable, corrected. -/
structure Scrub where
  next : Nat
  stop : Nat
  report : Bool
  pages : SMap (Nat × Nat)
deriving DecidableEq, Repr

/-- A retirement entry (R268). -/
structure Retire where
  valid : Bool
  auto : Bool
  space : BitVec 2
  target : BitVec 24
deriving DecidableEq, Repr

/-- Integrity machinery (R252-R272): merge buffers in order of allocation, corrections waiting, the software scrub,
the march on request, the words of each unit that a spare serves, oldest first (R266), the words held as POISON for want of a spare, retirement table. -/
structure Ecc where
  merge : List MergeEnt
  ceBack : List CeBack
  scrub : Option Scrub
  bgLast : Nat
  march : Option (Nat × Nat)
  spares : SMap (List Nat)
  heldPoison : SMap Bool
  retire : SMap Retire
deriving DecidableEq, Repr

/-- State of a region (R282, R294). -/
inductive RegSt where
  | off | initializing | active | rekeying
deriving DecidableEq, Repr

/-- A region entry (R279). -/
structure Region where
  valid : Bool
  init : Bool
  prot : BitVec 2
  kid : BitVec 6
  dbase : BitVec 16
  dsize : BitVec 16
  pbase : BitVec 16
  psize : Nat
  st : RegSt
deriving DecidableEq, Repr

/-- State of a key identifier (R293). -/
inductive KidSt where
  | free
  | active (draw : Nat)
  | draining (draw : Nat)
deriving DecidableEq, Repr

/-- A metadata cache line (R288): region, level (0 for counter blocks), number, the 64 bytes it holds (R285, R287), dirty, what its code reports. -/
structure MdLine where
  region : Nat
  level : Nat
  node : Nat
  val : BitVec 512
  dirty : Bool
  code : Mark
deriving DecidableEq, Repr

/-- A re-key in progress (R294): the region, its new KID, RKPTR. -/
structure Rekey where
  region : Nat
  newKid : BitVec 6
  ptr : Nat
deriving DecidableEq, Repr

/-- External memory (R273-R296). `dram` holds the stored bytes of lines 0-6 of every group by physical address, `chk` those of its check lines
(R276), `marks` what the codes of its 64-bit words report; `scr` the physical ranges whose contents were lost with their supply, in the epoch
`epoch` of the free values they read as (log entry 4). `mulNext` and `mulNow` are keyed 2 x channel + rank (R277); `root` holds the counters of the top-level
nodes (R287), keyed 16 x region + node, `rootMark` what their codes report. `draws` counts entropy draws: key number n is `Config.entropy n`. -/
structure Ddr where
  cfg : Word
  ready : Bool
  training : Bool
  mr4 : SMap (BitVec 6)
  mulNow : SMap (BitVec 2)
  mulNext : SMap (BitVec 2)
  pdown : SMap (BitVec 2)
  dram : SMap Byte
  chk : SMap Byte
  marks : SMap Mark
  scr : List (Nat × Nat)
  epoch : Nat
  regions : SMap Region
  root : SMap (BitVec 64)
  rootMark : SMap Mark
  md : List MdLine
  kids : SMap KidSt
  draws : Nat
  rekey : Option Rekey
  retry : List Nat
deriving DecidableEq, Repr

def CLine.zero : CLine := ⟨0, 0, 0, 0⟩
def Cache.zero : Cache := ⟨[], [], [], [], [], [], [], none, [], [], [], [], []⟩
def Spad.zero : Spad := ⟨[], [], []⟩
def Garnet.zero : Garnet := ⟨[], [], [], [], [], [], [], [], [], false, false⟩
def Retire.zero : Retire := ⟨false, false, 0, 0⟩
def Ecc.zero : Ecc := ⟨[], [], none, 0, none, [], [], []⟩
def Region.zero : Region := ⟨false, false, 0, 0, 0, 0, 0, 0, .off⟩
def Ddr.zero : Ddr :=
  ⟨0, false, false, [], [], [], [], [], [], [], [(0, 2 ^ 36)], 0, [], [], [], [], [], 1, none, []⟩

end Sys2Proof.Machine
end

