-- ==== Sys2Proof/Machine/StFabric.lean ====
section
/-! DEFINITION. The state of the native fabric: cells, clusters, residency and the context store, the matching
store, fired instances, the dispatcher, the queues and the order table (chapters 02-06), as plain data. -/

namespace Sys2Proof.Machine

/-- The condition flags of a plane of a cell (R39, R53). -/
structure Flags where
  c : Bool
  v : Bool
  n : Bool
  z : Bool
  p : Bool
  s : Bool
deriving DecidableEq, Repr

/-- The per-plane state of a cell that programs change (R39): L0-L15, SQ, LC, flags. -/
structure PlaneRegs where
  l : SMap Word
  sq : BitVec 3
  lc : BitVec 8
  fl : Flags
deriving DecidableEq, Repr

/-- A latency-2 result on its way (R46): the plane that issued it, the destination code, the low and high
word (`hi` for a wide pair), the flags it writes, and whether a DOT4 made it (R49). -/
structure PendWrite where
  plane : Nat
  dst : BitVec 5
  lo : Word
  hi : Option Word
  n : Option Bool
  z : Option Bool
  dot4 : Bool
deriving DecidableEq, Repr

/-- A cell (R39). `drvY`, `drvZ` are the values the routing sees in the current cycle (R48); `chain` the chain
register; `carry` the carry-out of the current cycle (R57); `dN` .. `dW` the direction-driver registers (R81),
`inR` the four input registers (R82); `issued` is the model's own cycle bookkeeping; `par` marks the registers whose parity bit
disagrees (R307): L register k of plane p is 16 x p + k, the flags of plane p 64 + p, SQ 68 + p, LC 72 + p, Y 76, Z 77, the chain register 78. -/
structure Cell where
  planes : SMap PlaneRegs
  y : Word
  z : Word
  drvY : Word
  drvZ : Word
  chain : Bool
  carry : Bool
  pend : Option PendWrite
  dE : Word
  dW : Word
  dN : Word
  dS : Word
  inR : SMap Word
  issued : Bool
  par : SMap Bool
deriving DecidableEq, Repr

/-- State of a response slot (R60). -/
inductive Slot where
  | empty
  | pending
  | full (v : Word) (st : RspStatus)
deriving DecidableEq, Repr

/-- Where an emitted token goes (R125 DEST). -/
inductive TokDest where
  | mst | queue | mirror
deriving DecidableEq, Repr

/-- Content of a commit-buffer entry (R143). -/
inductive CbWhat where
  | token (dest : TokDest) (t : Token)
  | store (addr : Nat) (v : Word)
deriving DecidableEq, Repr

/-- A commit-buffer entry (R143): its instance, its place in the order in which the instance wrote its entries, whether it may leave (committed, or of a DIRECT task), what its code reports (R248,
R537), the packet that carries it once it has been sent. -/
structure CbEntry where
  iid : Nat
  what : CbWhat
  seq : Nat
  go : Bool
  code : Mark
  pid : Option Nat
deriving DecidableEq, Repr

/-- The latest remote load of a slot (R60): its slot, address and packet; outstanding while the slot is PENDING. -/
structure RldReq where
  slot : Nat
  addr : Nat
  pid : Nat
deriving DecidableEq, Repr

/-- A cluster (R39, R60, R72, R76, R143). `plane` is the physical plane issuing or last issued; `run` the running
instance; `last` the last cell that issued in this cycle, `psw` the physical plane a PSW of this cycle names,
`memAcc` and `emits` the port accesses and emitter requests of this cycle and `waited` the stall cycles it has had (R538); `slotUpd` the slots that
change at the end of it (R60, R145); `memMark` what the codes of the memory words report (R248); `memLost` from a loss of power to the next task
start (R418). -/
structure Cluster where
  plane : Nat
  run : Option Nat
  ctx : BitVec 12
  inst : BitVec 24
  stall : Bool
  last : Option Nat
  psw : Option Nat
  memAcc : Nat
  emits : Nat
  waited : Nat
  slots : SMap Slot
  slotUpd : List (Nat × Slot)
  rlds : List RldReq
  mem : SMap Byte
  written : SMap Bool
  memMark : SMap Mark
  memLost : Bool
  entry : SMap Word
  cb : List CbEntry
deriving DecidableEq, Repr

/-- State of a physical plane (R103). -/
inductive PState where
  | invalid | filling | valid
deriving DecidableEq, Repr

/-- A physical plane of a cluster: residency tag (R103), reservation (R113), age (R106), the 512 words of its
image (R62) and `par`, the words whose parity bit disagrees (R307-R309). -/
structure Plane where
  st : PState
  ctx : BitVec 12
  pos : Nat
  pindex : Nat
  resv : Option Nat
  age : BitVec 32
  words : SMap Word
  par : SMap Bool
deriving DecidableEq, Repr

/-- A directory entry (R98). -/
structure DirEnt where
  w0 : Word
  w1 : Word
deriving DecidableEq, Repr

/-- State of a context (R118, R119). -/
inductive CtxSt where
  | available
  | restoring
  | unavailable
deriving DecidableEq, Repr

/-- A fill request, waiting or in flight (R108-R110). `cls` is 0 for placed instances and replays, 1 for a pin's
preload; `iid` the instance it is made for; `again` marks the second grant of R117; `evict` the planes of the resident sets
evicted for this cluster and `nsets` their number, until the first grant (R112). -/
structure FillReq where
  cls : Nat
  pri : Nat
  cyc : Nat
  cluster : Nat
  plane : Nat
  ctx : BitVec 12
  pos : Nat
  pindex : Nat
  iid : Option Nat
  again : Bool
  evict : List Nat
  nsets : Nat
deriving DecidableEq, Repr

/-- A pin entry (R114). -/
structure Pin where
  en : Bool
  load : Bool
  refused : Bool
  pos : Nat
  ctx : BitVec 12
deriving DecidableEq, Repr

/-- Residency and the context store (R96-R121). Planes are keyed 4 x cluster + plane, directory entries
4,096 x slot + CTX, stored planes 16 x (4,096 x slot + CTX) + (q x P + p), pins 2 x cluster + entry; `rowMark` holds what the
codes of Slate rows report, keyed 2^21 x slot + slot offset / 64, `restoreQ` the contexts to restore, in order; `spare` is the number of free spare rows (CTX_SPARE). -/
structure Res where
  planes : SMap Plane
  dir : SMap DirEnt
  store : SMap (SMap Word)
  rowMark : SMap Mark
  ctxSt : SMap CtxSt
  restoreQ : List Nat
  reqs : List FillReq
  flight : List FillReq
  pins : SMap Pin
  slotB : Bool
  spare : BitVec 20
deriving DecidableEq, Repr

/-- A token held in the matching store; `resv` true when its slot is charged to the completion reserve (R137), `code` what the
codes of its slot report (R248, R250). -/
structure HeldTok where
  t : Token
  resv : Bool
  code : Mark
deriving DecidableEq, Repr

/-- What the matching store answered to the token judged last (the model's own output). -/
inductive Judged where
  | none
  | admitted
  | refused
  | resolved (cause : Nat)
  | acted
  | waits
deriving DecidableEq, Repr

/-- An error token waiting in the holding buffer (R158): the queue it is bound for, whether it is an ordered output of its instance (R184),
whether the instance is done once it is appended, and whether it enters the queue itself although its CONS is 0b11 (R182, by another path). -/
structure HeldErr where
  t : Token
  q : Nat
  ordered : Bool
  fin : Bool
  own : Bool
deriving DecidableEq, Repr

/-- The matching store (R128-R141, R158): data tokens of pending instances, sticky tokens, used[p], cr_used, the
error holding buffer; `first` is the input judged first in the last cycle in which any token was judged (R139). -/
structure Mst where
  pend : List HeldTok
  sticky : List HeldTok
  used : SMap Nat
  crUsed : Nat
  hold : List HeldErr
  judged : Judged
  first : Nat
deriving DecidableEq, Repr

/-- Where a fired instance stands. -/
inductive InstSt where
  /-- in the ready list (R161) -/
  | ready
  /-- placed, waiting for its task-start cycle (R168) -/
  | placed
  /-- a task of it runs (R169) -/
  | running
  /-- a TEND took effect in cycle n; the last issue cycle n + 1 is open (R70) -/
  | ending
  /-- past its last issue cycle, before its commit point (R147) -/
  | ended
  /-- committed, or a DIRECT task ended by an abort: its entries drain (R148, R154) -/
  | draining
  /-- to be resolved by an error token once the holding buffer has room (R158) -/
  | resolving (cause : Nat) (last : Nat) (detail : BitVec 48)
deriving DecidableEq, Repr

/-- A fired instance (R134, R135, R153). `iid` is the model's name of it, never used twice. `bundle` holds for each
declared port the token used, with `held` true where it is a data token whose slot is charged; `ret` is the
cycle it last entered the ready list (R192); `avoid` the clusters of the aborted attempt; `tend` a TEND took effect in
this cycle; `dabort` a DIRECT task was aborted and is resolved after its drain (R154); `storeErrs` the stores to report
(R150). -/
structure Inst where
  iid : Nat
  ctx : BitVec 12
  flow : BitVec 18
  inst : BitVec 24
  pri : BitVec 3
  bundle : List (Bool × HeldTok)
  counted : Nat
  lastCause : Nat
  ready : Nat
  ret : Nat
  avoid : List Nat
  st : InstSt
  origin : Nat
  clusters : List Nat
  tend : Bool
  dabort : Bool
  storeErrs : List (BitVec 48)
deriving DecidableEq, Repr

/-- A claim (R171): the instance and the clusters it names. -/
structure Claim where
  iid : Nat
  clusters : List Nat
deriving DecidableEq, Repr

/-- The dispatcher (R160-R176). `now` counts NCLK cycles: one for each DISPATCH_CYCLE. -/
structure Dsp where
  insts : List Inst
  nextIid : Nat
  claims : List Claim
  load : SMap Nat
  rrptr : Nat
  now : Nat
deriving DecidableEq, Repr

/-- A queue record (R177); `code` is what the code of its word in the queue engine's state memory reports (R248, R256). -/
structure QRec where
  base : BitVec 36
  log2sz : BitVec 4
  head : BitVec 23
  depth : Nat
  limit : BitVec 8
  wmark : BitVec 8
  hwm : Nat
  en : Bool
  ord : Bool
  cons : BitVec 2
  wmie : Bool
  wmev : Bool
  errseen : Bool
  code : Mark
deriving DecidableEq, Repr

/-- The order table entry of a flow (R184, R186). -/
structure Order where
  next : BitVec 24
  winlog : BitVec 5
deriving DecidableEq, Repr

/-- A reorder entry (R185): its index in the park area, where the output it holds lies, or a marker; `fin` once its instance is done; `code` is
what the code of the entry's own word reports (R248, R256). -/
structure Parked where
  idx : Nat
  flow : BitVec 18
  inst : BitVec 24
  marker : Bool
  fin : Bool
  code : Mark
deriving DecidableEq, Repr

/-- A marker that found no free reorder entry (R185): the instance whose drain it ends, its flow, number and clusters, and the instances whose drain had
begun before it waited: their outputs are no later ones. -/
structure WaitMark where
  iid : Nat
  flow : BitVec 18
  inst : BitVec 24
  clusters : List Nat
  before : List Nat
deriving DecidableEq, Repr

/-- Queues and ordered flows (R177-R189): records, order table, reorder entries in order of release, the FLOW_WMQ FIFO,
the queue served last, the input judged first in the last cycle in which any enqueue was judged (R179), `waits` the markers without an entry. A queue's entries lie in its ring in device memory, parked
outputs in the park area. -/
structure Flow where
  recs : SMap QRec
  order : SMap Order
  parked : List Parked
  wmq : List Nat
  lastServed : Nat
  first : Nat
  waits : List WaitMark
deriving DecidableEq, Repr

def Flags.zero : Flags := ⟨false, false, false, false, false, false⟩
def PlaneRegs.zero : PlaneRegs := ⟨[], 0, 0, Flags.zero⟩
def Cell.zero : Cell :=
  ⟨[], 0, 0, 0, 0, false, false, none, 0, 0, 0, 0, [], false, []⟩
def Cluster.zero : Cluster :=
  ⟨0, none, 0, 0, false, none, none, 0, 0, 0, [], [], [], [], [], [], false, [], []⟩
def Plane.zero : Plane := ⟨.invalid, 0, 0, 0, none, 0, [], []⟩
def DirEnt.zero : DirEnt := ⟨0, 0⟩
def Pin.zero : Pin := ⟨false, false, false, 0, 0⟩
def Res.zero : Res := ⟨[], [], [], [], [], [], [], [], [], false, 0⟩
def Mst.zero : Mst := ⟨[], [], [], 0, [], .none, 15⟩
def Dsp.zero : Dsp := ⟨[], 0, [], [], 0, 0⟩
def QRec.zero : QRec := ⟨0, 0, 0, 0, 0, 0, 0, false, false, 0, false, false, false, .clean⟩
def Order.zero : Order := ⟨0, 23⟩
def Flow.zero : Flow := ⟨[], [], [], [], 0, 15, []⟩

end Sys2Proof.Machine
end

