-- ==== Sys2Proof/Machine/StFlint.lean ====
section
/-! DEFINITION. The state of the Flint tiles (R320-R360): cells, long lines, RAM ports, configuration frames and streams, host bus,
mailboxes, as plain data. -/

namespace Sys2Proof.Machine

/-- A word of the MZ array. -/
abbrev Half := BitVec 16

/-- A cell of the MZ array (R323): step counter, output, accumulator, carry. `see` is O as other cells read it in the current
cycle (R327). -/
structure MzCell where
  sc : BitVec 2
  o : Half
  see : Half
  acc : Half
  c : Bool
deriving DecidableEq, Repr

/-- Where the words of a configuration stream stand (R341): before the start mark, after its first word, at a header, in the two
length words of an extended header, in a payload with `len` words still to come; `got` holds those not yet used, newest first. -/
inductive MzPhase where
  | idle
  | mark
  | header
  | lenHi (code : BitVec 4)
  | lenLo (code : BitVec 4) (hi : Half)
  | body (code : BitVec 4) (len : Nat) (got : List Half)
deriving DecidableEq, Repr

/-- The configuration engine of a part (R341-R344): `addr` and `pos` the frame address and the words already written in that
frame, `chain` the CBC chain, `crc` the running check, `checked` a matching CHECK since the last FILL word, `host` words come over the
host bus. -/
structure MzStream where
  phase : MzPhase
  addr : Option Half
  pos : Nat
  sealed : Bool
  keysrc : Bool
  iv : Option (BitVec 128)
  chain : BitVec 128
  crc : Word
  checked : Bool
  host : Bool
deriving DecidableEq, Repr

/-- An access of the host bus that has not taken effect yet (R331): RAM, word, the data of a write, whether it has collided (R332). -/
structure MzHost where
  ram : Nat
  word : Nat
  data : Option Half
  hit : Bool
deriving DecidableEq, Repr

/-- A part of a tile (R321): an MZ640 or one half. Frames hold the 32-bit layer words, keyed (8 x column + layer) x 10 + row; `image`
the stored ones (R314, R348). RAM words are keyed 1,024 x RAM + word, their marks by four words (R355), `ramDead` words taken
out of use (R356). Long lines carry `put` (placed in the open cycle: value and number of drivers), `mid` and `lines` (readable now).
`rdA`, `rdB`, `busyB`, `mbRd` are the RAM and mailbox ports' read data and BUSY bits, `io` the sampled user I/O, `last` the cell
that issued last in the open cycle, `busy` BUSY_N driven low, `hd` the word the host bus carries, `go` a GO received over the host bus. -/
structure MzPart where
  frames : SMap Word
  image : SMap Word
  ram : SMap Half
  ramMark : SMap Mark
  ramDead : SMap Bool
  cells : SMap MzCell
  lines : SMap Half
  mid : SMap Half
  put : SMap (Half × Nat)
  rdA : SMap Half
  rdB : SMap Half
  busyB : SMap Bool
  mbRd : SMap Half
  io : SMap Bool
  last : Option Nat
  run : Bool
  go : Bool
  stat : BitVec 6
  stream : MzStream
  wselA : BitVec 6
  wselB : BitVec 6
  host : Option MzHost
  busy : Bool
  hd : Half
deriving DecidableEq, Repr

/-- A mailbox (R350, R352): staging words, tokens held, oldest first. -/
structure Mbox where
  stage : SMap Half
  buf : List Token
deriving DecidableEq, Repr

/-- A tile (R320): mode, host bus, the GPIO pins of its user I/O by MZ number (R345), its parts and mailboxes. -/
structure Tile where
  mode : BitVec 2
  hostbus : Bool
  pinmap : SMap Nat
  part0 : MzPart
  part1 : MzPart
  mbox : SMap Mbox
deriving DecidableEq, Repr

structure Flint where
  t0 : Tile
  t1 : Tile
deriving DecidableEq, Repr

def MzCell.zero : MzCell := ⟨0, 0, 0, 0, false⟩
def MzStream.zero : MzStream := ⟨.idle, none, 0, false, false, none, 0, 0xFFFFFFFF#32, false, false⟩
def MzPart.zero : MzPart :=
  ⟨[], [], [], [], [], [], [], [], [], [], [], [], [], [], none, false, false, 0, MzStream.zero, 0, 0, none, false, 0⟩
def Mbox.zero : Mbox := ⟨[], []⟩
def Tile.zero : Tile := ⟨0, false, [], MzPart.zero, MzPart.zero, []⟩
def Flint.zero : Flint := ⟨Tile.zero, Tile.zero⟩

end Sys2Proof.Machine
end

