-- ==== Sys2Proof/Machine/StHost.lean ====
section
/-! DEFINITION. The state of the host interfaces and the GPIO pins (R474-R497), as plain data. -/

namespace Sys2Proof.Machine

/-- What the PCIe endpoint sent to the host, oldest first (the model's own output): a posted write, a read request of a DMA channel. -/
inductive HostOut where
  | wr (addr : Nat) (bytes : List Byte)
  | rd (ch addr len : Nat)
deriving DecidableEq, Repr

/-- What a DMA channel waits for from host memory: nothing, its descriptor, `len` bytes of source data. -/
inductive DmaWant where
  | none
  | desc
  | data (len : Nat)
deriving DecidableEq, Repr

/-- A DMA channel beside its registers (R479-R482): the descriptor fetched (32 bytes as a number), bytes completed, what it waits for, a
token refused (R481), whether the descriptor's work is complete. -/
structure Dma where
  desc : Option Nat
  cnt : Nat
  want : DmaWant
  left : List Token
  done : Bool
deriving DecidableEq, Repr

/-- PCIe (R474-R482): MSI-X table words keyed 4 x vector + i, pending bits, the channels, and what was sent. -/
structure Pcie where
  msix : SMap Word
  pba : SMap Bool
  dma : SMap Dma
  out : List HostOut
deriving DecidableEq, Repr

/-- A window access of HP that waits (R485). -/
structure HpAcc where
  write : Bool
  addr : Nat
  v : Word
deriving DecidableEq, Repr

/-- HP (R483-R487): mirror registers, mirror tokens waiting, the waiting access, the data HP_D carries. -/
structure Hp where
  mirror : SMap Word
  buf : List Token
  wait : Option HpAcc
  data : Word
deriving DecidableEq, Repr

/-- The SMBus target (R488): strap, access address, status byte, the data of the last read. -/
structure Smb where
  strap : BitVec 2
  addr : BitVec 48
  status : BitVec 4
  data : Word
deriving DecidableEq, Repr

/-- GPIO pins (R489-R494) beside the registers: the level of each pad as an outside driver leaves it, by bank; event tokens waiting by bank, each with its DEST;
the latched drive (value, enable) of held banks; the levels an event generator saw at the last pad-clock edge, by bank. -/
structure Gpio where
  pad : SMap (BitVec 16)
  ev : SMap (List (Bool × Token))
  latch : SMap (BitVec 16 × BitVec 16)
  seen : SMap (BitVec 16)
deriving DecidableEq, Repr

def Dma.zero : Dma := ⟨none, 0, .none, [], false⟩
def Pcie.zero : Pcie := ⟨[], [], [], []⟩
def Hp.zero : Hp := ⟨[], [], none, 0⟩
def Smb.zero : Smb := ⟨0, 0, 0, 0⟩
def Gpio.zero : Gpio := ⟨[], [], [], []⟩

end Sys2Proof.Machine
end

