-- ==== Sys2Proof/Machine/StLane.lean ====
section
/-! DEFINITION. The state of the serial lanes, the links and the Halo ring (R446-R473), as plain data. -/

namespace Sys2Proof.Machine

/-- A block as a lane hands it to its link: a data payload, a control payload, an invalid header or unknown type. -/
inductive LBlk where
  | data (w : DWord)
  | ctl (w : DWord)
  | bad
deriving DecidableEq, Repr

/-- A lane (R449-R456): block lock, consecutive valid headers, the last 64 headers (bit set for an invalid one), blocks since its last marker,
markers missed in a row, good markers in a row, MSEQ of the last one, running BIP8, periods over BERLIM in a row, failed, inverted, data slot,
LANEID received, the FAILMAP received last, ALIGNOK received last, power state, blocks waiting for deskew, the pattern checker (last bits, bits
seen, correct bits in a row, locked), bits inverted by INJ. -/
structure Lane where
  lock : Bool
  good : Nat
  hist : BitVec 64
  since : Nat
  miss : Nat
  ok : Nat
  mseq : Option Byte
  bip : Byte
  bover : Nat
  failed : Bool
  polinv : Bool
  slot : BitVec 4
  laneid : Option (BitVec 4)
  fmap : BitVec 16
  alignok : Bool
  pwr : BitVec 2
  fifo : List LBlk
  prbs : BitVec 31
  seen : Nat
  run : Nat
  rxlock : Bool
  inj : Nat
deriving DecidableEq, Repr

/-- A raw frame being received (R458, R459): SEL, INST, its data blocks newest first, damaged, dropped for a full buffer or a disabled descriptor. -/
structure RawFrame where
  sel : BitVec 4
  inst : BitVec 24
  blocks : List DWord
  bad : Bool
  drop : Bool
deriving DecidableEq, Repr

/-- A raw frame being sent (R461): INST of its START, tokens sent, their payloads newest first, complement of the CRC due. -/
structure EgFrame where
  inst : BitVec 24
  sent : List DWord
  bad : Bool
deriving DecidableEq, Repr

/-- A Dalyel frame being received (R463): its DFRAME payload, its data payloads newest first, damaged. -/
structure DalFrame where
  hdr : DWord
  blocks : List DWord
  bad : Bool
deriving DecidableEq, Repr

/-- A link, by its first lane (R453-R464). `st` is LST.STATE; `ptr` the data slot whose block is next; `txLane` the lane a data slot travels on
while it is not lane j; `rbuf` tokens a raw link has released and not yet placed, each with DEST of its descriptor; `xoffTx` XOFF sent, `xoffRx` XOFF received; `hazeTx` the egress
in HAZE; `sent` what the link sent, oldest first (control blocks `true`; the model's own output). Dalyel: `expSeq` the SEQ expected, `ackSeq` the last frame all of
whose tokens were placed, `rx` accepted frames with tokens to place, `retry` RETRY due, `base` the SEQ after the last ACK received, `cnts` token
counts of the frames sent from `base` on, `tpos` the next of them to send, `credit` the last CREDIT received. -/
structure Link where
  st : BitVec 2
  maperr : Bool
  rev : Bool
  ptr : Nat
  txLane : SMap Nat
  frame : Option RawFrame
  rbuf : List (Bool × Token)
  xoffTx : Bool
  xoffRx : Bool
  eg : Option EgFrame
  hazeTx : Bool
  sent : List (Bool × DWord)
  dal : Option DalFrame
  expSeq : BitVec 16
  ackSeq : BitVec 16
  rx : List (BitVec 16 × List Token)
  retry : Bool
  base : BitVec 16
  cnts : List Nat
  tpos : Nat
  credit : Nat
deriving DecidableEq, Repr

/-- Lanes and links; `reg` holds the registers kept for each lane or link, keyed 0x1000 x lane + offset. -/
structure Lanes where
  lanes : SMap Lane
  links : SMap Link
  reg : SMap Word
deriving DecidableEq, Repr

/-- A message received on the ring (R471). -/
structure HaloMsg where
  src : BitVec 6
  bytes : List Byte
deriving DecidableEq, Repr

/-- The Halo ring (R466-R473): messages held, ENUM frames of this master that have not returned, what was sent on RING_OUT, oldest first (the
model's own output). -/
structure Halo where
  rx : List HaloMsg
  out1 : Nat
  out : List HaloFrame
deriving DecidableEq, Repr

def Lane.zero : Lane := ⟨false, 0, 0, 0, 0, 0, none, 0, 0, false, false, 0, none, 0, false, 0, [], 0, 0, 0, false, 0⟩
def Link.zero : Link := ⟨0, false, false, 0, [], none, [], false, false, none, false, [], none, 0, 0xFFFF#16, [], false, 0, [], 0, 0⟩
def Lanes.zero : Lanes := ⟨[], [], []⟩
def Halo.zero : Halo := ⟨[], 0, []⟩

end Sys2Proof.Machine
end

