-- ==== Sys2Proof/Machine/StNoc.lean ====
section
/-! DEFINITION. The state of the on-stack network (R196-R215): packets in the buffers of the routers, copies of bounced
packets at their sources, endpoint port states, router settings and arbitration, as plain data. -/

namespace Sys2Proof.Machine

/-- The fields of a packet header (R199). -/
structure Hdr where
  typ : BitVec 4
  urg : BitVec 4
  nflit : BitVec 3
  bnc : Bool
  dnet : BitVec 2
  dx : BitVec 4
  dy : BitVec 3
  dport : BitVec 3
  snet : BitVec 2
  sx : BitVec 4
  sy : BitVec 3
  sport : BitVec 3
  tag : BitVec 12
  wcnt : BitVec 12
  pri : BitVec 3
deriving DecidableEq, Repr

/-- What a packet carries: the firing bundle of an instance for a cluster, a commit-buffer entry of a cluster, the load of a
response slot, the answer to one, the answer to a store with its status (R200), a bounce of the packet named. -/
inductive PktWhat where
  | bundle (iid c : Nat)
  | entry (c : Nat)
  | load (c slot : Nat)
  | loadRsp (c slot req : Nat) (v : Word) (st : RspStatus)
  | ack (c req : Nat) (st : RspStatus)
  | bounce (id : Nat)
deriving DecidableEq, Repr

/-- A packet and where it is: network, node, input of that router (0-3 east, west, north, south, 4 + p endpoint port p, 12 + l
Z link l, 14 + l down-port l; 16 at the input of its sink, a token refused there, R149); `inj` while it waits at its source for room in the first
buffer. `pid` is the model's name of it: later packets have greater ones. -/
structure Pkt where
  pid : Nat
  h : Hdr
  what : PktWhat
  net : Nat
  node : Nat
  inp : Nat
  inj : Bool
  ue : FlitUe
deriving DecidableEq, Repr

/-- A copy a source keeps of a bounced packet (R211): `back` once the bounce has arrived; `held` for a later packet to the same
address that waits behind one that has come back. Copies stand in the order in which the packets were first sent. -/
structure Kept where
  p : Pkt
  back : Bool
  held : Bool
deriving DecidableEq, Repr

/-- State of an endpoint port (R209). -/
inductive PortSt where
  | ready | drain | drained | off | waking
deriving DecidableEq, Repr

/-- The network. Ports are keyed 2,048 x network + 16 x node + port, routers 128 x network + node; `want` holds NOC_PCTL.DRAIN as
written; `lastWin` the pair granted last at an output, keyed 16 x router + output. -/
structure Noc where
  pkts : List Pkt
  kept : List Kept
  nextId : Nat
  port : SMap PortSt
  want : SMap Bool
  freeze : SMap Bool
  frozen : SMap Bool
  rcfg : SMap (BitVec 9)
  lastWin : SMap Nat
  pflits : SMap (BitVec 64)
  pwait : SMap (BitVec 64)
deriving DecidableEq, Repr

def Hdr.zero : Hdr := ⟨0, 0, 0, false, 0, 0, 0, 0, 0, 0, 0, 0, 0, 0, 0⟩
def Noc.zero : Noc := ⟨[], [], 0, [], [], [], [], [], [], [], []⟩

end Sys2Proof.Machine
end

