-- ==== Sys2Proof/Machine/StSec.lean ====
section
/-! DEFINITION. The state of the loader and start sequence (R361-R388) and of the security engine (R389-R408), as plain data. -/

namespace Sys2Proof.Machine

/-- State of a version slot (R377). -/
inductive SlotSt where
  | empty | staging | valid | rejected
deriving DecidableEq, Repr

/-- The metadata of a version slot (R377). -/
structure SlotMeta where
  st : SlotSt
  active : Bool
  ginit : Bool
  digest : BitVec 384
  imgver : Word
  arb : Word
deriving DecidableEq, Repr

/-- CFG_STATUS.STATE (R388); `held` before any start has begun: some reset still holds the device. -/
inductive CfgSt where
  | held | starting | run | failed | loading
deriving DecidableEq, Repr

/-- Start kinds (R378). -/
inductive StartKind where
  | cold | warm | resume
deriving DecidableEq, Repr

/-- What the running start knows of its image (R379, R382): area, container offset and header, read again from flash at each step. -/
structure ImgHdr where
  area : Nat
  base : Nat
  nsec : Nat
  imgver : Word
  arb : Nat
  flags : Word
  totlen : Nat
  confirmMs : Nat
  digest : BitVec 384
  nonce : List Byte
deriving DecidableEq, Repr

/-- A preset record (R373). -/
structure Preset where
  addr : Nat
  data : Word
  ctl : Word
deriving DecidableEq, Repr

/-- The loader and the start (R361-R388). `step` is the step of R382 in progress, `presets` the REGS records still to apply, `pidx` how many have been
applied, `psec` their section, `crit` a CRIT record generated since RUN, `gsr` false from step 12 on, `areas` the areas present when the directory was read last. -/
structure Cfg where
  st : CfgSt
  kind : StartKind
  step : Nat
  slotA : SlotMeta
  slotB : SlotMeta
  pend : Option (Bool × Bool)
  failcnt : BitVec 4
  confirmed : Bool
  crit : Bool
  img : Option ImgHdr
  presets : List Preset
  pidx : Nat
  psec : Nat
  load : Option Nat
  areas : BitVec 2
  bfcfg : BitVec 2
  pulls : List (BitVec 2)
  pcieEn : Bool
deriving DecidableEq, Repr

/-- State of an authorization session (SEC_SESS.STATE). -/
inductive SessSt where
  | idle | open_ | one | granted
deriving DecidableEq, Repr

/-- The session (R397-R402): owner code, slots that signed and the hashes of the keys they signed with, the latched change, the numbers of the draws
that gave the nonce and the ephemeral key, submissions refused. -/
structure Sess where
  st : SessSt
  owner : Nat
  signed : List Nat
  keys : List (BitVec 384)
  target : Nat
  argdig : BitVec 384
  nonce : Nat
  eph : Nat
  refused : Nat
  cause : Nat
deriving DecidableEq, Repr

/-- The security engine (R389-R408): key slots, hashes, authorities and revoke fuses (listed = programmed), ARB_MIN, fuse policy, region masks
(R403), whether the slots may be read until the next POR (R406). -/
structure Sec where
  imgE : SMap (BitVec 256)
  imgB : SMap (BitVec 256)
  mzKey : SMap (BitVec 128)
  hash : SMap (BitVec 384)
  hashRev : BitVec 4
  auth : SMap (BitVec 384)
  authRev : BitVec 8
  arbMin : Nat
  fpol : BitVec 4
  rpol : SMap (BitVec 3)
  sess : Sess
  blocked : Bool
deriving DecidableEq, Repr

def SlotMeta.zero : SlotMeta := ⟨.empty, false, false, 0, 0, 0⟩
def Cfg.zero : Cfg :=
  ⟨.held, .cold, 0, SlotMeta.zero, SlotMeta.zero, none, 0, false, false, none, [], 0, 0, none, 0, 0, [], false⟩
def Sess.zero : Sess := ⟨.idle, 0, [], [], 0, 0, 0, 0, 0, 0⟩
def Sec.zero : Sec := ⟨[], [], [], [], 0, [], 0, 0, 0, [], Sess.zero, false⟩

end Sys2Proof.Machine
end

