-- ==== Sys2Proof/Machine/StSys.lean ====
section
/-! DEFINITION. The state of the supporting services: power domains and operating points, the Strata recorder,
snapshots and BIST (chapters 15, 19), as plain data. -/

namespace Sys2Proof.Machine

/-- A record (R505): time word, kind, severity, sequence number, the bytes of its DETAIL. -/
structure Rec where
  time : BitVec 64
  kind : Nat
  sev : BitVec 2
  seq : BitVec 32
  detail : List Byte
deriving DecidableEq, Repr

/-- A statistic (R502, R503): bins, extremes with their time words, `any` once it has a sample. -/
structure Stat where
  bins : SMap (BitVec 32)
  any : Bool
  max : Int
  min : Int
  maxT : BitVec 64
  minT : BitVec 64
deriving DecidableEq, Repr

/-- The recorder (R498-R508). `recs` is keyed by slot; `newest` the slot written last; `ckA`, `ckB` the two
checkpoint copies with their sequence numbers; `acc` the counts that statistics 81-723 take at their next sample, by index (R502). -/
structure Strata where
  rtc : BitVec 64
  uptime : BitVec 64
  tset : Bool
  xtalLost : Bool
  noCkpt : Bool
  timeSeen : Bool
  seq : BitVec 32
  recs : SMap Rec
  newest : Option Nat
  stats : SMap Stat
  ckA : Option (Nat × SMap Stat)
  ckB : Option (Nat × SMap Stat)
  acc : SMap Nat
deriving DecidableEq, Repr

/-- A BOLT that waits for its tick (R511): TICK and source code of SNAP_STATUS.SRC. -/
structure BoltWait where
  tick : BitVec 64
  src : BitVec 3
deriving DecidableEq, Repr

/-- The snapshot (R510, R511): BOLTs pending, the held snapshot's tick, source and latched registers by address. -/
structure Snap where
  pend : List BoltWait
  held : Option BoltWait
  latched : SMap Word
deriving DecidableEq, Repr

/-- What a BIST run saved (R513 step 3): whether state was saved; planes, memory and marks stay in place meanwhile. -/
structure BistRun where
  cluster : Nat
  saved : Bool
deriving DecidableEq, Repr

/-- In-service BIST (R512-R516): the run of each die (0 lower, 1 upper), the next cluster of each. -/
structure Bist where
  runL : Option BistRun
  runU : Option BistRun
  nextL : Nat
  nextU : Nat
deriving DecidableEq, Repr

/-- State of a power domain (R418, PWR_DCTL.STATE). -/
inductive DomSt where
  | on | cirrus | stratus | nimbus | off | switching
deriving DecidableEq, Repr

/-- Power domains (R418-R421): state and request per index, gate requests in progress (R416), domains whose wake is on
its way, domains that are entering OFF, monitor windows passed in a row by REFCLK and the PLLs (R415), whether DCLK has failed and stands still (R410). -/
structure Pwr where
  dom : SMap DomSt
  req : SMap (BitVec 2)
  gating : List Nat
  waking : List Nat
  leaving : List Nat
  clkGood : Nat
  dclkBad : Bool
deriving DecidableEq, Repr

/-- The pins that hold the device or report from it (R435, R413, R478, R521, R527-R529). `por`, `sysRst`, `ioRst`,
`pwrFail` are true while the pin is low; `vppLost` while VPP_SLATE is out of range (R527); `irq`, `nmi`,
`thermtrip` while the device drives IRQ_N, NMI_N, THERMTRIP_N low. -/
structure Pins where
  por : Bool
  sysRst : Bool
  ioRst : Bool
  pwrFail : Bool
  vppLost : Bool
  supplyBad : BitVec 2
  irq : Bool
  nmi : Bool
  thermtrip : Bool
deriving DecidableEq, Repr

/-- Faults and checkers (R312-R319): fenced clusters, upsets of checker control registers waiting for read-back
(register address), whether the supervisor runs, the cluster whose reset runs (R532). -/
structure Flt where
  fence : SMap Bool
  chkUpset : List Nat
  supvUp : Bool
  crst : Option Nat
deriving DecidableEq, Repr

def Pwr.zero : Pwr := ⟨[], [], [], [], [], 0, false⟩
def Pins.zero : Pins := ⟨false, false, false, false, false, 0, false, false, false⟩
def Flt.zero : Flt := ⟨[], [], true, none⟩
def Stat.zero : Stat := ⟨[], false, 0, 0, 0, 0⟩
def Strata.zero : Strata := ⟨0, 0, false, false, false, false, 0, [], none, [], none, none, []⟩
def Snap.zero : Snap := ⟨[], none, []⟩
def Bist.zero : Bist := ⟨none, none, 0, 512⟩

end Sys2Proof.Machine
end

