-- ==== Sys2Proof/Machine/StTherm.lean ====
section
/-! DEFINITION. The state of the thermal manager and the margin planner beside their registers (R428-R443), as plain data. -/

namespace Sys2Proof.Machine

/-- The thermal manager (R429-R438): microseconds of sampling time, the last readings of a sensor with their times, newest first (up to 3), its raw
readings, newest first (up to 256), consecutive implausible samples, the last bounds of a Mica sensor in 1/1,024 °C (up to 3), per region the time
of the last rise and since when its sensors have been cool (time + 1), per sensor until when its rate condition holds, since when every sensor has
been cool in a halt, samples since a reading was near a threshold, marks asked to be cleared, whether a halt stops the tile clocks (R434). -/
structure Therm where
  now : Nat
  hist : SMap (List (Int × Nat))
  raw : SMap (List Int)
  impl : SMap Nat
  lb : SMap (List Int)
  riseT : SMap Nat
  coolT : SMap Nat
  rateT : SMap Nat
  haltCool : Option Nat
  slow : Nat
  clr : List Nat
  flintStop : Bool
deriving DecidableEq, Repr

/-- The margin planner (R442, R443): regions whose AGE_EOM record has been written, monitors that wait for their first moment with what they would
report. -/
structure Age where
  eom : SMap Bool
  due : List (Nat × Nat)
deriving DecidableEq, Repr

def Therm.zero : Therm := ⟨0, [], [], [], [], [], [], [], none, 0, [], false⟩
def Age.zero : Age := ⟨[], []⟩

end Sys2Proof.Machine
end

