-- ==== Sys2Proof/Machine/State.lean ====
section
/-! DEFINITION. The state of the TR4096, as plain data, the reasons a step can stop, and the state at reset. -/

namespace Sys2Proof.Machine

/-- Why a step stops with a fault. -/
inductive Fault where
  /-- A command names a unit, slot, port or index that the spec's numbering does not have. Raised by the meanings
  that index a cluster, cell, part or slot. Safe: no hardware behaviour exists. -/
  | noSuchUnit
deriving DecidableEq, Repr

/-- Why a command is refused. -/
inductive Refusal where
  /-- No meaning has been written yet. Raised by the arms of Dispatch.lean only. Safe. -/
  | notModelled (mnemonic : String)
  /-- A cell microinstruction or MZ entry with a code the spec reserves or a combination the loader rejects (R41, R42, R43, R66). Raised by
  the cell meanings. Safe: the loader lets no such microinstruction reach a cell. -/
  | illegalMicro
deriving DecidableEq, Repr

/-- Fuse-given values (R1, R3, R38 "From fuses", R495 VENDOR); `step` holds STEP_o of R443, keyed 4 x region + point, 1,500 where not listed. -/
structure Fuse where
  gradeA : Bool
  suffixX : Bool
  uid : BitVec 64
  vendor : BitVec 16
  step : SMap Nat
deriving DecidableEq, Repr

/-- How an access was answered. -/
inductive AnsKind where
  | none | ok | error | poisoned | halted | timeout | waits
deriving DecidableEq, Repr

/-- The last answer an interface received: this model's view of the response packets. -/
structure Answer where
  kind : AnsKind
  data : List Byte
deriving DecidableEq, Repr

/-- Per-interface access state (R13-R16): snapshot and staging register (tag + 1, value; tag 0 for none), the select
and staging registers held per interface, keyed 2^48 x interface + device address, and the last answer. -/
structure Ifc where
  snap : SMap (Nat × Word)
  stage : SMap (Nat × Word)
  sel : SMap Word
  ans : SMap Answer
deriving DecidableEq, Repr

/-- The machine. -/
structure State where
  pending : List Instr
  ifc : Ifc
  regs : SMap Word
  fuse : Fuse
  cells : SMap Cell
  clusters : SMap Cluster
  res : Res
  mst : Mst
  dsp : Dsp
  flow : Flow
  noc : Noc
  cache : Cache
  spad : Spad
  garnet : Garnet
  ecc : Ecc
  ddr : Ddr
  pwr : Pwr
  pins : Pins
  flt : Flt
  strata : Strata
  snap : Snap
  bist : Bist
  flint : Flint
  pcie : Pcie
  hp : Hp
  smb : Smb
  gpio : Gpio
  cfg : Cfg
  sec : Sec
  therm : Therm
  age : Age
  lanes : Lanes
  halo : Halo
  freeCtr : Nat
deriving DecidableEq, Repr

def Ifc.zero : Ifc := ⟨[], [], [], []⟩
/-- A TR4096L of suffix C with identity zero (log entry 3). -/
def Fuse.zero : Fuse := ⟨false, false, 0, 0, []⟩

/-- The machine right after reset: held by POR_N, every register at its reset value (R17, R528; log entry 3). -/
def State.reset : State :=
  { pending := [], ifc := Ifc.zero, regs := [], fuse := Fuse.zero, cells := [], clusters := [], res := Res.zero, mst := Mst.zero,
    dsp := Dsp.zero, flow := Flow.zero, noc := Noc.zero, cache := Cache.zero, spad := Spad.zero, garnet := Garnet.zero, ecc := Ecc.zero,
    ddr := Ddr.zero, pwr := Pwr.zero, pins := { Pins.zero with por := true }, flt := Flt.zero, strata := Strata.zero, snap := Snap.zero,
    bist := Bist.zero, flint := Flint.zero, pcie := Pcie.zero, hp := Hp.zero, smb := Smb.zero, gpio := Gpio.zero, cfg := Cfg.zero,
    sec := Sec.zero, therm := Therm.zero, age := Age.zero, lanes := Lanes.zero, halo := Halo.zero, freeCtr := 0 }

end Sys2Proof.Machine
end

