-- ==== Sys2Proof/Machine/Ops.lean ====
section
/-! DEFINITION. The shared operations: register words, saturating counters, free values, answers to interfaces,
Strata records and BOLT origins. Every meaning reaches these parts of the state through them. -/

namespace Sys2Proof.Machine

open Host (Outcome)

/-- The outcome of every meaning: a next state, a fault or a refusal. -/
abbrev Res' := Outcome State Fault Refusal

/-! Registers -/

/-- The stored word of a register (R10, R17). -/
def State.rd (s : State) (a : Nat) : Word := smGet (regReset s.fuse.gradeA a) s.regs a

/-- The interrupt source whose level a register carries (R478): a DMA channel's STAT, SYS_FLTSTAT, the register at offset 0 of a
block. -/
def irqSource (a : Nat) : Option Nat :=
  if a = SYS_FLTSTAT then some 64
  else if a < 0x2000100000 ∨ 0x2001D00000 ≤ a then none
  else if offsetOf a = 0 then some (64 + blockOf a)
  else if blockOf a = 22 ∧ 0x1014 ≤ offsetOf a ∧ offsetOf a < 0x2014 ∧ (offsetOf a - 0x1014) % 64 = 0 then
    some ((offsetOf a - 0x1014) / 64)
  else none

/-- The bits of a register that assert its source: its W1C bits. -/
def irqLevel (a : Nat) (v : Word) : Bool :=
  match regDesc a with
  | some d => decide (v &&& BitVec.ofNat 32 d.w1c ≠ 0)
  | none => false

/-- Word `i` of the MSI-X table entry of a vector (R475); a vector is masked after reset (log entry 16). -/
def State.msixWord (s : State) (v i : Nat) : Word := smGet (if i = 3 then 1 else 0) s.pcie.msix (4 * v + i)

/-- Send the message of a vector, or leave it pending while it is masked or the link is down (R478). -/
def State.msixFire (s : State) (v : Nat) : State :=
  if (s.msixWord v 3).getLsbD 0 ∨ !(s.rd PCIE_LINK).getLsbD 8 then
    { s with pcie := { s.pcie with pba := smSet false s.pcie.pba v true } }
  else
    { s with pcie := { s.pcie with
      pba := smDel s.pcie.pba v
      out := s.pcie.out ++ [.wr ((s.msixWord v 0).toNat + 2 ^ 32 * (s.msixWord v 1).toNat)
        ((List.range 4).map (fun i => BitVec.ofNat 8 ((s.msixWord v 2).toNat / 2 ^ (8 * i))))] } }

/-- A rising edge of a source (R478). -/
def State.irqRise (s : State) (n : Nat) : State :=
  let m := s.rd (PCIE_IRQMAP n)
  if m.getLsbD 31 then s.msixFire (m.toNat % 2048) else s

/-- Store a register word; a level of R478 that rises sends its interrupt. -/
def State.wr (s : State) (a : Nat) (v : Word) : State :=
  let old := s.rd a
  let t := { s with regs := smSet (regReset s.fuse.gradeA a) s.regs a v }
  match irqSource a with
  | none => t
  | some n => if !irqLevel a old && irqLevel a v then t.irqRise n else t

/-- Set bits of a register (events set W1C bits). -/
def State.setBits (s : State) (a : Nat) (mask : Word) : State := s.wr a (s.rd a ||| mask)

/-- Clear bits of a register. -/
def State.clrBits (s : State) (a : Nat) (mask : Word) : State := s.wr a (s.rd a &&& ~~~mask)

/-- A field of a word, bits [hi:lo], as a number. -/
def fld (w : Word) (hi lo : Nat) : Nat := w.toNat / 2 ^ lo % 2 ^ (hi + 1 - lo)

/-- Bit `i` of a word. -/
def tb (w : Word) (i : Nat) : Bool := w.getLsbD i

/-- Bit `i` as a mask. -/
def bitMask (i : Nat) : Word := BitVec.ofNat 32 (2 ^ i)

/-- A register pair as one number, low half at `lo` (R13). -/
def State.rd64 (s : State) (lo : Nat) : Nat := (s.rd lo).toNat + 2 ^ 32 * (s.rd (lo + 4)).toNat

/-- Store a register pair. -/
def State.wr64 (s : State) (lo : Nat) (n : Nat) : State :=
  (s.wr lo (BitVec.ofNat 32 n)).wr (lo + 4) (BitVec.ofNat 32 (n / 2 ^ 32))

/-- Add to a 32-bit statistics counter; at its largest value it holds and sets bit `b` of `flag` (R190). -/
def State.bumpN (s : State) (a flag b n : Nat) : State :=
  let v := (s.rd a).toNat + n
  if v ≥ 2 ^ 32 - 1 then (s.wr a (BitVec.ofNat 32 (2 ^ 32 - 1))).setBits flag (bitMask b)
  else s.wr a (BitVec.ofNat 32 v)

/-- Count one. -/
def State.bump (s : State) (a flag b : Nat) : State := s.bumpN a flag b 1

/-- Add to a 64-bit counter pair (R190). -/
def State.bump64N (s : State) (lo flag b n : Nat) : State :=
  let v := s.rd64 lo + n
  if v ≥ 2 ^ 64 - 1 then (s.wr64 lo (2 ^ 64 - 1)).setBits flag (bitMask b) else s.wr64 lo v

/-- Count one in a pair. -/
def State.bump64 (s : State) (lo flag b : Nat) : State := s.bump64N lo flag b 1

/-- Add to a counter of `w` bits that saturates (R190). -/
def State.bumpW (s : State) (w a flag b n : Nat) : State :=
  let v := (s.rd a).toNat + n
  if v ≥ 2 ^ w - 1 then (s.wr a (BitVec.ofNat 32 (2 ^ w - 1))).setBits flag (bitMask b)
  else s.wr a (BitVec.ofNat 32 v)

/-! Free values (log entry 4) -/

/-- The next free value. -/
def State.freeVal (s : State) : BitVec 64 := Config.freeValue s.freeCtr

/-- The state after a free value has been taken. -/
def State.drawn (s : State) : State := { s with freeCtr := s.freeCtr + 1 }

/-! Interfaces -/

/-- The number of an interface: each cluster is one of its own (R15, R16). -/
def ifCode : Iface → Nat
  | .pcie => 0
  | .hp => 1
  | .smb => 2
  | .supv => 3
  | .fabric c => 4 + c

/-- No answer yet. -/
def Answer.none : Answer := ⟨.none, []⟩

/-- Give an interface its answer. -/
def State.answer (s : State) (i : Iface) (k : AnsKind) (d : List Byte) : State :=
  { s with ifc := { s.ifc with ans := smSet Answer.none s.ifc.ans (ifCode i) ⟨k, d⟩ } }

/-- The place in the answers of a master of memory requests: that of its interface where it has one. -/
def masterKey : Master → Nat
  | .cluster c => 4 + c
  | .dma ch => 2000 + ch
  | .pcie => 0
  | .hp => 1
  | .lane g => 2100 + g
  | .agent => 2200
  | .strata => 2201

/-- Give a master the answer to its memory request. -/
def State.reply (s : State) (m : Master) (k : AnsKind) (d : List Byte) : State :=
  { s with ifc := { s.ifc with ans := smSet Answer.none s.ifc.ans (masterKey m) ⟨k, d⟩ } }

/-- The bytes of a word, little-endian (R8). -/
def wordBytes (w : Word) : List Byte := (List.range 4).map (fun i => BitVec.ofNat 8 (w.toNat / 2 ^ (8 * i)))

/-- The number spelled by bytes, little-endian. -/
def bytesNat : List Byte → Nat
  | [] => 0
  | b :: bs => b.toNat + 256 * bytesNat bs

/-- `n` bytes of a number, little-endian. -/
def natBytes (n x : Nat) : List Byte := (List.range n).map (fun i => BitVec.ofNat 8 (x / 2 ^ (8 * i)))

/-- The word spelled by bytes. -/
def bytesWord (bs : List Byte) : Word := BitVec.ofNat 32 (bytesNat bs)

/-- A select or staging register held per interface (R15). -/
def State.sel (s : State) (i : Iface) (a : Nat) : Word := smGet 0 s.ifc.sel (2 ^ 48 * ifCode i + a)

/-- Write one. -/
def State.setSel (s : State) (i : Iface) (a : Nat) (v : Word) : State :=
  { s with ifc := { s.ifc with sel := smSet 0 s.ifc.sel (2 ^ 48 * ifCode i + a) v } }

/-! Fabric parts -/

def State.cell (s : State) (c k : Nat) : Cell := smGet Cell.zero s.cells (32 * c + k)
def State.setCell (s : State) (c k : Nat) (x : Cell) : State :=
  { s with cells := smSet Cell.zero s.cells (32 * c + k) x }
def State.cluster (s : State) (c : Nat) : Cluster := smGet Cluster.zero s.clusters c
def State.setCluster (s : State) (c : Nat) (x : Cluster) : State :=
  { s with clusters := smSet Cluster.zero s.clusters c x }
def State.plane (s : State) (c p : Nat) : Plane := smGet Plane.zero s.res.planes (4 * c + p)
def State.setPlane (s : State) (c p : Nat) (x : Plane) : State :=
  { s with res := { s.res with planes := smSet Plane.zero s.res.planes (4 * c + p) x } }
/-- The active version slot as a number (CTX_STATUS.SLOT). -/
def State.slot (s : State) : Nat := if s.res.slotB then 1 else 0
/-- The directory entry of a context in the active slot (R97). -/
def State.dirEnt (s : State) (ctx : Nat) : DirEnt :=
  smGet DirEnt.zero s.res.dir (4096 * s.slot + ctx)
def State.ctxSt (s : State) (ctx : Nat) : CtxSt := smGet .available s.res.ctxSt (4096 * s.slot + ctx)

/-! Time and records -/

/-- The time word of now (R500). -/
def State.timeWord (s : State) : BitVec 64 :=
  if s.strata.tset then BitVec.ofNat 64 (s.strata.rtc.toNat % 2 ^ 63)
  else BitVec.ofNat 64 (2 ^ 63 + s.strata.uptime.toNat % 2 ^ 63)

/-- The lowest slot from `i` on that a record table does not list (R507). -/
def lowestFree : SMap Rec → Nat → Nat
  | [], i => i
  | (k, _) :: m, i => if k = i then lowestFree m (i + 1) else i

/-- How far a sequence number lies behind another, modulo 2^32 (R507). -/
def seqBehind (newest q : BitVec 32) : Nat := (newest - q).toNat

/-- The oldest record of those that satisfy `p`: the slot whose SEQ lies furthest behind (R507). -/
def oldestRec (newest : BitVec 32) (p : Rec → Bool) (m : SMap Rec) : Option Nat :=
  (m.foldl (fun (acc : Option (Nat × Nat)) e =>
    if p e.2 then
      let d := seqBehind newest e.2.seq
      match acc with
      | none => some (e.1, d)
      | some (_, d0) => if d > d0 then some (e.1, d) else acc
    else acc) none).map (fun x => x.1)

/-- The slot a record of a severity takes (R507). -/
def recSlot (m : SMap Rec) (newest : BitVec 32) (sev : BitVec 2) : Option Nat :=
  let i := lowestFree m 0
  if i < 28672 then some i
  else match oldestRec newest (fun r => decide (r.sev.toNat < sev.toNat)) m with
    | some j => some j
    | none => if sev = 3 then none else oldestRec newest (fun r => decide (r.sev = sev)) m

/-- A BOLT waits for its tick (R511): the same TICK counts once; a fifth pending one is missed. -/
def State.boltAdd (s : State) (tick : BitVec 64) (src : BitVec 3) : State :=
  if s.snap.pend.any (fun b => decide (b.tick = tick)) then s
  else if s.snap.pend.length ≥ 4 then
    (s.bump SNAP_MISSED SNAP_CNTOVF 0).setBits SNAP_STATUS 2
  else { s with snap := { s.snap with pend := s.snap.pend ++ [⟨tick, src⟩] } }

/-- The ring is open through this device (R466). -/
def State.haloOn (s : State) : Bool := tb (s.rd HALO_CTRL) 31 && !s.pins.por && !s.pins.sysRst && !s.pins.ioRst

/-- A ring frame with its CRC over TYPE through the payload (R467). -/
def haloFrameOf (typ dst src flags : Byte) (payload : List Byte) : HaloFrame :=
  { typ := typ, dst := dst, src := src, flags := flags, payload := payload, loopNs := 0
    crc := crc16 ([typ, dst, src, flags, BitVec.ofNat 8 payload.length] ++ payload) }

/-- Put a frame on RING_OUT. -/
def State.haloSend (s : State) (f : HaloFrame) : State :=
  if s.haloOn then { s with halo := { s.halo with out := s.halo.out ++ [f] } } else s

/-- The position of this device as a SRC (R468). -/
def State.haloPos (s : State) : Byte := BitVec.ofNat 8 (fld (s.rd HALO_POS) 5 0)

/-- RTC + LEAD, the TICK of a BOLT: `ring` takes the lead of R470, otherwise that of R509. -/
def State.localTick (s : State) (ring : Bool) : BitVec 64 :=
  s.strata.rtc + BitVec.ofNat 64 (fld (s.rd (if ring then HALO_CTRL else SNAP_CTRL)) 15 0)

/-- Send a BOLT on the ring and wait for its tick here (R470). -/
def State.ringBolt (s : State) (src : BitVec 3) : State :=
  let tick := s.localTick true
  (s.haloSend (haloFrameOf 3 0xFF#8 s.haloPos 0 ((List.range 8).map (fun i => BitVec.ofNat 8 (tick.toNat / 2 ^ (8 * i)))))).boltAdd tick src

/-- Originate a BOLT on this device (R509): while BOLTTX is 1 it is also sent on the ring. -/
def State.originBolt (s : State) (src : BitVec 3) : State :=
  if tb (s.rd HALO_CTRL) 28 then s.ringBolt src else s.boltAdd (s.localTick false) src

/-- The SYS_GUAR bit of a record kind that reports a fault outside the guarantee (R302, R317, R318). -/
def guarBit (kind : Nat) : Option Nat :=
  if kind = 0x31 then some 0 else if kind = 0x32 then some 1 else if kind = 0x13 then some 2 else if kind = 0x30 then some 3
  else if kind = 0x24 then some 4 else if kind = 0x26 then some 5 else if kind = 0x25 then some 6 else if kind = 0x42 then some 7
  else if kind = 0x33 then some 8 else none

/-- Set the SYS_GUAR bit of a record kind, with GBREAK_EV (R302). -/
def State.guard (s : State) (kind : Nat) : State :=
  match guarBit kind with
  | some b => (s.setBits SYS_GUAR (bitMask b)).setBits SYS_FLTSTAT 16
  | none => s

/-- Write a record (R505-R508) and set its SYS_GUAR bit: it takes the next SEQ, is stored or dropped, sets REC_EV at or above EVSEV and
originates a BOLT while BOLTEN is 1. -/
def State.record (s : State) (kind : Nat) (sev : BitVec 2) (detail : List Byte) : State :=
  let s := s.guard kind
  let q := s.strata.seq
  let r : Rec := ⟨s.timeWord, kind, sev, q, detail⟩
  let newestSeq := q - 1
  let s := { s with strata := { s.strata with seq := q + 1 }, cfg := { s.cfg with crit := s.cfg.crit || decide (sev = 3) } }
  let s := match recSlot s.strata.recs newestSeq sev with
    | some i =>
      let s := { s with strata := { s.strata with recs := smPut s.strata.recs i r, newest := some i } }
      if sev.toNat ≥ fld (s.rd STRATA_CTRL) 1 0 then s.setBits STRATA_STATUS 1 else s
    | none =>
      let s := if sev = 3 then s.bump STRATA_DROPCRIT STRATA_CNTOVF 0 else s.bump STRATA_DROPLOW STRATA_CNTOVF 1
      s.setBits STRATA_STATUS 2
  if tb (s.rd STRATA_CTRL) 8 && decide (sev.toNat ≥ fld (s.rd STRATA_CTRL) 5 4) then s.originBolt 2 else s

/-! Statistics (R502, R503) -/

/-- Bin of a value in a log2 histogram (R192, R502). -/
def log2Bin (v : Nat) : Nat := if v = 0 then 0 else Nat.min 15 (Nat.log2 v + 1)

/-- Bin of a sample of statistic `i` (R502): temperatures in 1/16 °C, powers in 1/16 W, log2 otherwise. -/
def statBin (i : Nat) (v : Int) : Nat :=
  if i ≤ 51 then
    let t := v / 16
    if t < 45 then 0 else if t ≥ 115 then 15 else ((t - 40) / 5).toNat
  else if i ≤ 56 then (if v < 0 then 0 else Nat.min 15 ((v / 160).toNat))
  else log2Bin v.toNat

/-- Take a sample (R503). -/
def State.statSample (s : State) (i : Nat) (v : Int) : State :=
  let st := smGet Stat.zero s.strata.stats i
  let b := statBin i v
  let n := smGet 0 st.bins b
  let full := decide (n.toNat + 1 ≥ 2 ^ 32 - 1)
  let bins := smSet 0 st.bins b (if n.toNat + 1 ≥ 2 ^ 32 - 1 then BitVec.ofNat 32 (2 ^ 32 - 1) else n + 1)
  let hi := !st.any || decide (v > st.max)
  let lo := !st.any || decide (v < st.min)
  let st' : Stat := { bins := bins, any := true, max := if hi then v else st.max, min := if lo then v else st.min,
                      maxT := if hi then s.timeWord else st.maxT, minT := if lo then s.timeWord else st.minT }
  let s := { s with strata := { s.strata with stats := smSet Stat.zero s.strata.stats i st' } }
  if full then s.setBits STRATA_STATUS 4 else s

/-- The native fabric is held by GSR: no start has completed (R384). -/
def State.gsr (s : State) : Bool :=
  match s.cfg.st with
  | .run => false
  | .loading => false
  | _ => true

/-- One RTCK edge (R498, R500): the RTC counts while its supply is there, uptime outside POR, powered time in minutes (R442). -/
def State.tick (s : State) : State :=
  let s := { s with strata := { s.strata with rtc := s.strata.rtc + 1 } }
  if s.pins.por then s
  else
    let s := { s with strata := { s.strata with uptime := s.strata.uptime + 1 } }
    if s.strata.uptime.toNat % (60 * 2 ^ 20) = 0 ∧ s.rd AGE_PTIME ≠ 0xFFFFFFFF#32 then s.wr AGE_PTIME (s.rd AGE_PTIME + 1) else s

end Sys2Proof.Machine
end

