-- ==== Sys2Proof/Machine/Ecc.lean ====
section
/-! DEFINITION. Error marks, captures and repair: unit codes (R251), counts and capture of errors (R258, R269), the
retirement table (R268), ranges of addresses. -/

namespace Sys2Proof.Machine

/-- Region index of a cluster, 32 x die + region (R27, R29). -/
def regionIdx (c : Nat) : Nat := 32 * (c / 512) + c / 32 % 16 / 4 * 8 + c % 32 / 4

/-! Unit codes (R251) -/
def unitCache (slice : Nat) : Nat := slice
def unitSpad (bank : Nat) : Nat := 0x1000 + bank
def unitCmem (c : Nat) : Nat := 0x5000 + c
def unitCb (c : Nat) : Nat := 0x6000 + c
/-- The sector of a row of a version slot: 2^18 rows of 64 bytes each. -/
def unitSlate (slot row : Nat) : Nat := 0x8000 + 8 * slot + row / 2 ^ 18
def unitGarnet (sector : Nat) : Nat := 0x9000 + sector
def unitDdr (ch : Nat) : Nat := 0xA000 + ch

/-- The unit has a remap table: kinds 0-7 (R251). -/
def unitRemap (u : Nat) : Bool := decide (u / 0x1000 ≤ 7)

/-- The number of units of a kind (R251). -/
def unitCount (kind : Nat) : Nat :=
  match kind with
  | 0 => 256
  | 1 => 128
  | 2 => 16
  | 3 => 8
  | 4 => 2
  | 5 => 1024
  | 6 => 1024
  | 7 => 80
  | 8 => 16
  | 9 => 8
  | 10 => 16
  | _ => 0

/-- A mark a consumer cannot use. -/
def Mark.bad : Mark → Bool
  | .ue => true
  | .poison => true
  | _ => false

/-- Note a UE or POISON word (R258, R269): counted, and captured when UE_EV was 0. `src` is ECC_EINFO.SOURCE. -/
def State.noteBad (s : State) (unit addr : Nat) (poison : Bool) (src : Nat) : State :=
  let s := s.bump ECC_UECNT ECC_CNTOVF 4
  if tb (s.rd ECC_STATUS) 1 then s
  else
    let s := s.wr64 ECC_EADDR_LO (addr % 2 ^ 48)
    let s := s.wr ECC_EINFO (BitVec.ofNat 32 (unit % 2 ^ 16 * 2 ^ 16 + 128 * Bool.bit poison + 16 * (src % 8)))
    s.setBits ECC_STATUS 2

/-- The statistic that counts the corrections of a unit (R502): one for each unit, one for each region's cluster memories and commit buffers. -/
def statOfUnit (unit : Nat) : Nat :=
  let i := unit % 0x1000
  match unit / 0x1000 with
  | 0 => 82 + i
  | 1 => 338 + i
  | 2 => 466 + i
  | 3 => 482 + i
  | 4 => 490 + i
  | 5 => 612 + regionIdx i
  | 6 => 612 + regionIdx i
  | 7 => 492 + i
  | 8 => 572 + i
  | 9 => 588 + i
  | _ => 596 + i

/-- `n` more for the next sample of a statistic (R502). -/
def State.statCount (s : State) (i n : Nat) : State :=
  { s with strata := { s.strata with acc := smSet 0 s.strata.acc i (smGet 0 s.strata.acc i + n) } }

/-- A correction in a unit is counted (R258). -/
def State.countCe (s : State) (unit : Nat) : State :=
  ((s.bump ECC_CECNT ECC_CNTOVF 3).setBits ECC_STATUS 1).statCount (statOfUnit unit) 1

/-- A correction in one of the `n` units of a kind whose words the spec does not place: which one is free (log entry 4). -/
def State.countCeIn (s : State) (kind n : Nat) : State := s.drawn.countCe (0x1000 * kind + s.freeVal.toNat % n)

/-- Note a correction (R257, R258): counted, and the corrected word queued for its write-back. -/
def State.noteCe (s : State) (unit addr : Nat) : State :=
  let s := s.countCe unit
  { s with ecc := { s.ecc with ceBack := s.ecc.ceBack ++ [⟨unit, addr⟩] } }

/-- Note what the code of one word reports to a consumer. -/
def State.noteMark (s : State) (m : Mark) (unit addr src : Nat) : State :=
  match m with
  | .clean => s
  | .ce => s.noteCe unit addr
  | .ue => s.noteBad unit addr false src
  | .poison => s.noteBad unit addr true src

/-! Retirement (R268) -/

/-- Some valid entry retires a page of a space (0 external, 1 scratchpad, 2 Garnet). -/
def State.retiredPage (s : State) (space page : Nat) : Bool :=
  s.ecc.retire.any (fun e => e.2.valid && decide (e.2.space.toNat = space) && decide (e.2.target.toNat = page))

/-- Some valid entry retires a unit. -/
def State.retiredUnit (s : State) (unit : Nat) : Bool :=
  s.ecc.retire.any (fun e => e.2.valid && decide (e.2.space = 3) && decide (e.2.target.toNat % 2 ^ 16 = unit))

/-- Make an automatic retirement in the lowest free entry; none free writes a further CRIT record (R267, R268). -/
def State.autoRetire (s : State) (unit word space target : Nat) : State :=
  match (List.range 256).find? (fun i => !(smGet Retire.zero s.ecc.retire i).valid) with
  | some i =>
    let s := { s with ecc := { s.ecc with
      retire := smSet Retire.zero s.ecc.retire i ⟨true, true, BitVec.ofNat 2 space, BitVec.ofNat 24 target⟩ } }
    s.setBits ECC_STATUS 64
  | none =>
    let s := { s with ecc := { s.ecc with heldPoison := smPut s.ecc.heldPoison (2 ^ 32 * unit + word) true } }
    s.record 0x20 3 (natBytes 2 unit ++ natBytes 4 word ++ [5])

/-- A word held as POISON for want of a spare or a retirement entry (R267, R268). -/
def State.heldBad (s : State) (unit word : Nat) : Bool := smGet false s.ecc.heldPoison (2 ^ 32 * unit + word)

/-- What the code of a word newly placed in a unit of kind `kind` will report: where such units hold words as POISON, the place is free (R267; log
entry 4). -/
def State.placeCode (s : State) (kind : Nat) : State × Mark :=
  if s.ecc.heldPoison.any (fun e => decide (e.1 / 2 ^ 44 = kind)) then (s.drawn, if s.freeVal.getLsbD 0 then .poison else .clean) else (s, .clean)

/-! Ranges -/

/-- An address lies in one of the ranges. -/
def inRanges (rs : List (Nat × Nat)) (a : Nat) : Bool := rs.any (fun r => decide (r.1 ≤ a) && decide (a < r.2))

/-- Take [lo, hi) out of the ranges. -/
def cutRange (lo hi : Nat) : List (Nat × Nat) → List (Nat × Nat)
  | [] => []
  | (a, b) :: rs =>
    (if a < Nat.min b lo then [(a, Nat.min b lo)] else []) ++
    (if Nat.max a hi < b then [(Nat.max a hi, b)] else []) ++ cutRange lo hi rs

/-- Domain indices (R418). -/
def domSlice (slice : Nat) : Nat := 1024 + slice
def domBank (bank : Nat) : Nat := 1280 + bank
def domLane (lane : Nat) : Nat := 1408 + lane
def domDdr (ch : Nat) : Nat := 1456 + ch
def domSector (k : Nat) : Nat := 1472 + k
def domTile (n : Nat) : Nat := 1480 + n
def domPcie : Nat := 1482

/-- State of a power domain. -/
def State.dom (s : State) (d : Nat) : DomSt := smGet .on s.pwr.dom d
def State.setDom (s : State) (d : Nat) (x : DomSt) : State :=
  { s with pwr := { s.pwr with dom := smSet .on s.pwr.dom d x } }

/-- A cluster is fenced (R315). -/
def State.fenced (s : State) (c : Nat) : Bool := smGet false s.flt.fence c

/-- A march on request holds a unit (R265). -/
def State.marching (s : State) (unit : Nat) : Bool :=
  match s.ecc.march with
  | some (_, u) => decide (u = unit) || (decide (u % 0x1000 = 0xFFF) && decide (u / 0x1000 = unit / 0x1000))
  | none => false

end Sys2Proof.Machine
end

