-- ==== Sys2Proof/Machine/Dram.lean ====
section
/-! DEFINITION. External memory behind the cache: physical layout and stored words (R275, R276), regions (R279-R281), encryption and tags (R283,
R286), counter blocks, the tree and the metadata cache (R285, R287, R288, R291, R292, R295, R296), reading and writing one line (R289), the re-key
(R294). -/

namespace Sys2Proof.Machine

/-! Physical layout (R275, R276) -/

/-- The channel of a physical address (R275). -/
def paChannel (pa : Nat) : Nat := pa / 512 % 16
/-- The offset within the channel: PA[35:13] and PA[8:0] (R275). -/
def paOffset (pa : Nat) : Nat := pa / 2 ^ 13 * 2 ^ 9 + pa % 2 ^ 9
/-- The column (R275). -/
def paColumn (pa : Nat) : Nat := paOffset pa % 2 ^ 11
/-- The bank (R275). -/
def paBank (pa : Nat) : Nat := (paOffset pa / 2 ^ 11 % 8) ^^^ (paOffset pa / 2 ^ 14 % 8)
/-- The row in a rank of `n` bytes (R275). -/
def paRow (n pa : Nat) : Nat := paOffset pa % n / 2 ^ 14
/-- The rank, of `n` bytes (R275; for a density that is no power of two log entry 99). -/
def paRank (n pa : Nat) : Nat := paOffset pa / n
/-- The line of its group. -/
def paSlot (pa : Nat) : Nat := pa % 512 / 64
/-- Where the check bytes of a line lie: bytes 8i to 8i + 7 of line 7 of its group (R276). -/
def chkAddr (pa : Nat) : Nat := pa / 512 * 512 + 448 + 8 * paSlot pa
/-- Where the tag of a line lies: bytes 7i to 7i + 6 of line 6 of its group (R280). -/
def tagAddr (pa : Nat) : Nat := pa / 512 * 512 + 384 + 7 * paSlot pa

/-- A word of a channel as R269 counts it. -/
def paWord (pa : Nat) : Nat := paOffset pa / 8
/-- The physical address of word `w` of a channel. -/
def wordPa (ch w : Nat) : Nat := 8 * w / 512 * 2 ^ 13 + 512 * ch + 8 * w % 512

/-! Stored words -/

/-- Eight bytes as a word, the lowest address in the lowest bits. -/
def bytesDword (bs : List Byte) : BitVec 64 := BitVec.ofNat 64 (bytesNat bs)

/-- Eight bytes of a word as they are stored: a poisoned word as zero (R249, R276). -/
def storedWord (m : Mark) (bs : List Byte) : List Byte := if m = .poison then List.replicate 8 0 else bs
/-- The check byte of a stored word: 0xFF with poison (R249, R276). -/
def checkByte (m : Mark) (bs : List Byte) : Byte := if m = .poison then 0xFF else Config.secded (bytesDword bs)

/-- Word `i` of a line's bytes. -/
def lineWord (bs : List Byte) (i : Nat) : List Byte := (bs.drop (8 * i)).take 8

/-- Store one word. -/
def State.wordStore (s : State) (w : Nat) (bs : List Byte) (m : Mark) : State :=
  let d := s.ddr
  { s with ddr := { d with
    dram := smSetList 0 d.dram (8 * w) (storedWord m bs)
    chk := smSet 0 d.chk (chkAddr (8 * w) + w % 8) (checkByte m bs)
    marks := smSet .clean d.marks w m
    scr := cutRange (8 * w) (8 * w + 8) d.scr } }

/-- Store a whole line: its words and their check bytes (R276). -/
def State.lineStore (s : State) (pa : Nat) (bs : List Byte) (ms : List Mark) : State :=
  let d := s.ddr
  { s with ddr := { d with
    dram := smSetList 0 d.dram pa ((List.range 8).flatMap (fun i => storedWord (ms.getD i .clean) (lineWord bs i)))
    chk := smSetList 0 d.chk (chkAddr pa) ((List.range 8).map (fun i => checkByte (ms.getD i .clean) (lineWord bs i)))
    marks := smSetList .clean d.marks (pa / 8) ms
    scr := cutRange pa (pa + 64) d.scr } }

/-- A stored byte: a free value where the contents were lost (log entry 4). -/
def State.dramAt (s : State) (a : Nat) : Byte :=
  if inRanges s.ddr.scr a then BitVec.ofNat 8 ((Config.lostMem s.ddr.epoch (2 ^ 33 + a / 8)).toNat / 2 ^ (8 * (a % 8)))
  else smGet 0 s.ddr.dram a

/-- `n` stored bytes. -/
def State.dramBytes (s : State) (a n : Nat) : List Byte := (List.range n).map (fun i => s.dramAt (a + i))

/-- What the code of a word whose contents were lost reports: free (log entry 4). -/
def lostMark (e w : Nat) : Mark :=
  match (Config.lostMem e (2 ^ 34 + w)).toNat % 4 with
  | 0 => .clean
  | 1 => .ce
  | 2 => .ue
  | _ => .poison

/-- What the code of stored word `w` (a physical address / 8) reports. -/
def State.dramMark (s : State) (w : Nat) : Mark :=
  if inRanges s.ddr.scr (8 * w) || inRanges s.ddr.scr (8 * w + 7) then lostMark s.ddr.epoch w else smGet .clean s.ddr.marks w

/-- What the codes of a stored line's words report. -/
def State.lineMarks (s : State) (pa : Nat) : List Mark := (List.range 8).map (fun i => s.dramMark (pa / 8 + i))

/-- A corrected word reads clean; UE and POISON read as poison in the fetched copy (R250, R257). -/
def fetchedMark : Mark → Mark
  | .ue => .poison
  | .poison => .poison
  | _ => .clean

/-- A request takes its channel out of power-down or self-refresh (R278). -/
def State.chanWake (s : State) (pa : Nat) : State :=
  { s with ddr := { s.ddr with pdown := smDel s.ddr.pdown (paChannel pa) } }

/-- Note what the code of a stored word reports to a consumer; `at` is the address captured for it (R269). A correction waits for its write-back under the
word's physical address. -/
def State.noteDram (s : State) (w a src : Nat) : State :=
  let unit := unitDdr (paChannel (8 * w))
  match s.dramMark w with
  | .clean => s
  | .ce => s.noteCe unit (8 * w)
  | .ue => s.noteBad unit a false src
  | .poison => s.noteBad unit a true src

/-- Note the words of a data line at a device address. -/
def State.noteLine (s : State) (pa addr : Nat) : State :=
  (List.range 8).foldl (fun s i => s.noteDram (pa / 8 + i) (addr + 8 * i) 0) s

/-- Note the words of a stored line that no device address names: counter blocks, tree nodes, tags. -/
def State.noteMeta (s : State) (pa n : Nat) : State :=
  (List.range n).foldl (fun s i => s.noteDram (pa / 8 + i) (paWord (pa + 8 * i)) 0) s

/-! Regions (R279-R281) -/

def State.region (s : State) (r : Nat) : Region := smGet Region.zero s.ddr.regions r
def State.setRegion (s : State) (r : Nat) (x : Region) : State :=
  { s with ddr := { s.ddr with regions := smSet Region.zero s.ddr.regions r x } }

/-- The device range of a valid region (R279). -/
def Region.covers (r : Region) (a : Nat) : Bool :=
  r.valid && decide (r.dbase.toNat * 2 ^ 20 ≤ a) && decide (a < (r.dbase.toNat + r.dsize.toNat) * 2 ^ 20)

/-- The region that maps a device address. -/
def State.regionOf (s : State) (a : Nat) : Option (Nat × Region) := s.ddr.regions.find? (fun e => e.2.covers a)

/-- Stored lines per 512-byte group (R280). -/
def Region.s (r : Region) : Nat := if r.prot = 2 then 6 else 7

/-- Physical address of line index `t` of a region (R280). -/
def Region.pa (r : Region) (t : Nat) : Nat := r.pbase.toNat * 2 ^ 20 + 512 * (t / r.s) + 64 * (t % r.s)

/-- Line index of a device address (R280). -/
def Region.line (r : Region) (a : Nat) : Nat := (a - r.dbase.toNat * 2 ^ 20) / 64

/-- Data lines of a region: L (R280). -/
def Region.lines (r : Region) : Nat := r.dsize.toNat * 2 ^ 14
/-- Pages of a region: n (R280). -/
def Region.pages (r : Region) : Nat := r.dsize.toNat * 256

/-- The device address of a physical one; none where no data line of a valid region lies. -/
def State.devAddr (s : State) (pa : Nat) : Option Nat :=
  s.ddr.regions.findSome? (fun e =>
    let r := e.2
    let lo := r.pbase.toNat * 2 ^ 20
    let t := (pa - lo) / 512 * r.s + paSlot pa
    if r.valid && decide (lo ≤ pa) && decide (paSlot pa < r.s) && decide (t < r.lines) then some (r.dbase.toNat * 2 ^ 20 + 64 * t + pa % 64) else none)

/-- Nodes of level `l` of a region's tree, level 0 being its counter blocks (R287). -/
def levelNodes (n0 : Nat) : Nat → Nat
  | 0 => n0
  | l + 1 => (levelNodes n0 l + 7) / 8

/-- The top level: the lowest with at most 16 nodes (R287). -/
def topLevel (n0 : Nat) : Nat :=
  ((List.range 10).find? (fun l => decide (levelNodes n0 l ≤ 16))).getD 10

/-- Nodes of the levels from 1 up to `l`. -/
def nodesUpTo (n0 l : Nat) : Nat := ((List.range l).map (fun i => levelNodes n0 (i + 1))).foldl (· + ·) 0

/-- Number of tree nodes N, levels 1 to the top (R287). -/
def treeNodes (n0 : Nat) : Nat := nodesUpTo n0 (topLevel n0)

/-- The 512-byte groups of a region's stored lines (R280, R281). -/
def groupsOf (prot : BitVec 2) (dsize : Nat) : Nat :=
  let l := dsize * 2 ^ 20 / 64
  let n := dsize * 256
  let t := l + (if prot = 0 then 0 else n) + (if prot = 2 then 96 * ((treeNodes n + 47) / 48) else 0)
  let s := if prot = 2 then 6 else 7
  (t + s - 1) / s

/-- PSIZE in MiB (R280, R281). -/
def psizeOf (prot : BitVec 2) (dsize : Nat) : Nat := (groupsOf prot dsize * 512 + 2 ^ 20 - 1) / 2 ^ 20

/-- Number k of a tree node: level 1 first, in order within each level (R287). -/
def Region.nodeNum (r : Region) (level node : Nat) : Nat := nodesUpTo r.pages (level - 1) + node

/-- The physical addresses at which a metadata line is stored: one for a counter block (R280), two copies for a tree node (R287). -/
def Region.mdPas (r : Region) (level node : Nat) : List Nat :=
  if level = 0 then [r.pa (r.lines + node)]
  else
    let k := r.nodeNum level node
    let t := r.lines + r.pages + 96 * (k / 48) + k % 48
    [r.pa t, r.pa (t + 48)]

/-! Encryption and tags (R283, R286) -/

/-- The key of a KID: draw number d of the entropy source (R293); draw 0 is never given and stands where there is no key. -/
def State.keyOf (s : State) (kid : BitVec 6) : BitVec 256 :=
  match smGet KidSt.free s.ddr.kids kid.toNat with
  | .active d => Config.entropy d
  | .draining d => Config.entropy d
  | .free => Config.entropy 0

/-- The block B_j: PA[35:6], counter, constant, j (R283). -/
def ctrBlock (pa ctr use j : Nat) : BitVec 128 :=
  BitVec.ofNat 128 (pa / 64 % 2 ^ 30 * 2 ^ 98 + ctr % 2 ^ 64 * 2 ^ 34 + use * 4 + j)

/-- Encrypt or decrypt the 64 bytes of a line (R283); a block's bytes lie lowest first (log entry 100). -/
def lineCrypt (key : BitVec 256) (pa ctr : Nat) (bs : List Byte) : List Byte :=
  List.zipWith (· ^^^ ·) bs ((List.range 4).flatMap (fun j => natBytes 16 (Config.aes256 key (ctrBlock pa ctr 1 j)).toNat))

/-- The tag of a line's stored bytes (R286). -/
def lineTag (key : BitVec 256) (pa ctr : Nat) (bs : List Byte) : BitVec 56 :=
  let x := BitVec.ofNat 128 (pa / 64 % 2 ^ 30) :: (List.range 4).map (fun j => BitVec.ofNat 128 (bytesNat ((bs.drop (16 * j)).take 16)))
  (Config.ghash (Config.aes256 key 0) x ^^^ Config.aes256 key (ctrBlock pa ctr 2 0)).truncate 56

/-- Write one byte of a stored word and its check byte; a poisoned word loses it (R249). -/
def State.bytePut (s : State) (a : Nat) (b : Byte) : State :=
  if (s.dramMark (a / 8)).bad then s
  else
    let s := { s with ddr := { s.ddr with dram := smSet 0 s.ddr.dram a b, scr := cutRange a (a + 1) s.ddr.scr } }
    { s with ddr := { s.ddr with chk := smSet 0 s.ddr.chk (chkAddr a + a % 64 / 8) (checkByte .clean (s.dramBytes (a / 8 * 8) 8)) } }

/-- Store the tag of a line (R280). -/
def State.tagPut (s : State) (pa : Nat) (t : BitVec 56) : State :=
  (List.range 7).foldl (fun s i => s.bytePut (tagAddr pa + i) (BitVec.ofNat 8 (t.toNat / 2 ^ (8 * i)))) s

/-- The stored tag of a line; none where a word that holds it is UE or POISON. -/
def State.tagGet (s : State) (pa : Nat) : Option (BitVec 56) :=
  let a := tagAddr pa
  if (s.dramMark (a / 8)).bad || (s.dramMark ((a + 6) / 8)).bad then none else some (BitVec.ofNat 56 (bytesNat (s.dramBytes a 7)))

/-- A stored line verifies: its stored tag is the tag of what is read (R286). -/
def State.tagOk (s : State) (key : BitVec 256) (pa ctr : Nat) : Bool :=
  decide (s.tagGet pa = some (lineTag key pa ctr (s.dramBytes pa 64)))

/-- Store the 64 stored bytes of a line of a region, with their tag where the region has tags. -/
def State.rawPut (s : State) (reg : Region) (key : BitVec 256) (pa ctr : Nat) (bs : List Byte) (ms : List Mark) : State :=
  let s := s.lineStore pa bs ms
  if reg.prot = 2 then s.tagPut pa (lineTag key pa ctr (s.dramBytes pa 64)) else s

/-- Encrypt and store a data line (R283, R286). -/
def State.linePut (s : State) (reg : Region) (key : BitVec 256) (pa ctr : Nat) (bs : List Byte) (ms : List Mark) : State :=
  s.rawPut reg key pa ctr (if reg.prot = 0 then bs else lineCrypt key pa ctr bs) ms

/-! Counter blocks and tree nodes (R285, R287) -/

/-- The major counter of a counter block: bits [504:448] (R285). -/
def blkMajor (v : BitVec 512) : Nat := (v.extractLsb' 448 57).toNat
/-- The minor counter of line `i`: bits [7i + 6 : 7i] (R285). -/
def blkMinor (v : BitVec 512) (i : Nat) : Nat := (v.extractLsb' (7 * i) 7).toNat
/-- The block with every minor counter zero. -/
def blkOf (major : Nat) : BitVec 512 := BitVec.ofNat 512 (major % 2 ^ 57 * 2 ^ 448)
/-- The counter {major, minor} of line `i` (R283). -/
def blkCtr (v : BitVec 512) (i : Nat) : Nat := blkMajor v * 2 ^ 7 + blkMinor v i
/-- Count one write of line `i`, whose minor counter is below 127. -/
def blkStep (v : BitVec 512) (i : Nat) : BitVec 512 := v + BitVec.ofNat 512 (2 ^ (7 * i))
/-- The counter of child `c`: bits [64c + 63 : 64c] (R287). -/
def nodeCtr (v : BitVec 512) (c : Nat) : Nat := (v.extractLsb' (64 * c) 64).toNat
/-- The node after its counter for child `c` counts one. -/
def nodeStep (v : BitVec 512) (c : Nat) : BitVec 512 :=
  let m := BitVec.ofNat 512 ((2 ^ 64 - 1) * 2 ^ (64 * c))
  (v &&& ~~~m) ||| BitVec.ofNat 512 ((nodeCtr v c + 1) % 2 ^ 64 * 2 ^ (64 * c))

/-! The metadata cache (R288) -/

/-- The line stands for this metadata line. -/
def MdLine.isFor (x : MdLine) (rid level node : Nat) : Bool := decide (x.region = rid) && decide (x.level = level) && decide (x.node = node)

/-- The held copy of a metadata line. -/
def mdFind (md : List MdLine) (rid level node : Nat) : Option MdLine := md.find? (fun x => x.isFor rid level node)

/-- Change the held copy of a metadata line. -/
def State.mdSet (s : State) (rid level node : Nat) (f : MdLine → MdLine) : State :=
  { s with ddr := { s.ddr with md := s.ddr.md.map (fun x => if x.isFor rid level node then f x else x) } }

/-- Take a metadata line out of the cache. -/
def State.mdDrop (s : State) (rid level node : Nat) : State :=
  { s with ddr := { s.ddr with md := s.ddr.md.filter (fun x => !x.isFor rid level node) } }

/-- The held value of a metadata line (it is held whenever it is used, R288). -/
def State.mdVal (s : State) (rid level node : Nat) : BitVec 512 := ((mdFind s.ddr.md rid level node).map (fun x => x.val)).getD 0

/-- The counter a metadata line's parent holds for it: the root for a top-level node (R287). -/
def State.parentCtr (s : State) (rid : Nat) (reg : Region) (level node : Nat) : Nat :=
  if level = topLevel reg.pages then (smGet 0 s.ddr.root (16 * rid + node)).toNat
  else nodeCtr (s.mdVal rid (level + 1) (node / 8)) (node % 8)

/-- The parent's counter counts one and the parent becomes dirty, or the root counter counts (R288). -/
def State.parentStep (s : State) (rid : Nat) (reg : Region) (level node : Nat) : State :=
  if level = topLevel reg.pages then
    { s with ddr := { s.ddr with root := smSet 0 s.ddr.root (16 * rid + node) (smGet 0 s.ddr.root (16 * rid + node) + 1) } }
  else s.mdSet rid (level + 1) (node / 8) (fun x => { x with val := nodeStep x.val (node % 8), dirty := true })

/-- Write a metadata line to its place: both copies of a tree node, each with its tag under the counter given (R286-R288). -/
def State.mdStore (s : State) (reg : Region) (key : BitVec 256) (level node : Nat) (v : BitVec 512) (ctr : Nat) : State :=
  (reg.mdPas level node).foldl (fun s pa => s.rawPut reg key pa ctr (natBytes 64 v.toNat) (List.replicate 8 .clean)) s

/-! Keys and the start of a re-key (R292-R294) -/

/-- Activate the lowest FREE KID with a fresh key (R293); 0 when none is FREE. -/
def State.allocKid (s : State) : State × Nat :=
  match (List.range 63).find? (fun i => decide (smGet KidSt.free s.ddr.kids (i + 1) = .free)) with
  | some i =>
    let s := { s with ddr := { s.ddr with
      kids := smPut s.ddr.kids (i + 1) (.active s.ddr.draws), draws := s.ddr.draws + 1 } }
    (s, i + 1)
  | none => (s.setBits MCE_STATUS 8, 0)

/-- The region's re-key is tried again later (R292). -/
def State.rekeyLater (s : State) (rid : Nat) : State :=
  { s with ddr := { s.ddr with retry := if s.ddr.retry.contains rid then s.ddr.retry else s.ddr.retry ++ [rid] } }

/-- Begin a re-key of a region (R294): a fresh KID, RKPTR 0. Without a FREE KID the retry is noted (R292). -/
def State.rekeyBegin (s : State) (rid : Nat) : State :=
  let (s, k) := s.allocKid
  if k = 0 then s.rekeyLater rid
  else
    let s := s.setRegion rid { s.region rid with st := .rekeying }
    { s with ddr := { s.ddr with rekey := some ⟨rid, BitVec.ofNat 6 k, 0⟩,
                                 retry := s.ddr.retry.filter (fun r => decide (r ≠ rid)) } }

/-- A counter of a region has reached its limit (R292): it is re-keyed, or tried again once the re-key that runs has ended (log entry 101). -/
def State.rekeyWant (s : State) (rid : Nat) : State :=
  match s.ddr.rekey with
  | none => s.rekeyBegin rid
  | some k => if k.region = rid then s else s.rekeyLater rid

/-- A counter at the limit of a node or root counter (R292). -/
def ctrAtLimit (n : Nat) : Bool := decide (n ≥ 2 ^ 64 - 2 ^ 20)

/-- Write a dirty metadata line back (R288): its parent's counter for it counts one, its tag is computed with the new value. -/
def State.mdWriteBack (s : State) (x : MdLine) : State :=
  let reg := s.region x.region
  if !x.dirty then s
  else if reg.prot = 2 then
    let s := s.parentStep x.region reg x.level x.node
    let c := s.parentCtr x.region reg x.level x.node
    let s := s.mdStore reg (s.keyOf reg.kid) x.level x.node x.val c
    if ctrAtLimit c then s.rekeyWant x.region else s
  else s.mdStore reg (s.keyOf reg.kid) x.level x.node x.val 0

/-- Keep at most 32,768 metadata lines: the oldest with no resident child leaves (R288; the choice is log entry 14). -/
def State.mdEvict (s : State) : State :=
  if s.ddr.md.length ≤ 32768 then s
  else
    let child (x : MdLine) : Bool := s.ddr.md.any (fun y =>
      decide (y.region = x.region) && decide (y.level + 1 = x.level) && decide (y.node / 8 = x.node))
    match s.ddr.md.find? (fun x => !child x) with
    | none => s
    | some x => (s.mdWriteBack x).mdDrop x.region x.level x.node

/-! Errors in the tree (R295, R296) -/

/-- The nodes of level `l` that lie under node `node` of `level`. -/
def nodesUnder (n0 level node l : Nat) : List Nat :=
  let w := 8 ^ (level - l)
  (List.range (Nat.min ((node + 1) * w) (levelNodes n0 l) - node * w)).map (fun i => node * w + i)

/-- Lose the range a metadata line covers (R295, R296): its data lines are written as poison, its counters are zero and their blocks, nodes and tags
rebuilt: the line itself under the counter its parent holds for it (log entry 102). -/
def State.loseRange (s : State) (rid : Nat) (reg : Region) (level node : Nat) : State :=
  let key := s.keyOf reg.kid
  let pages := nodesUnder reg.pages level node 0
  let s := if level = topLevel reg.pages && (smGet .clean s.ddr.rootMark (16 * rid + node)).bad then
      { s with ddr := { s.ddr with root := smDel s.ddr.root (16 * rid + node), rootMark := smDel s.ddr.rootMark (16 * rid + node) } }
    else s
  let s := pages.foldl (fun s j => (List.range 64).foldl (fun s i =>
    s.lineStore (reg.pa (64 * j + i)) (List.replicate 64 0) (List.replicate 8 .poison)) s) s
  let own := s.parentCtr rid reg level node
  let s := (List.range (level + 1)).foldl (fun s l => (nodesUnder reg.pages level node l).foldl (fun s i =>
    (s.mdStore reg key l i 0 (if l = level then own else 0)).mdDrop rid l i) s) s
  (s.setBits MCE_STATUS 2).record 0x24 3 (natBytes 1 rid ++ natBytes 4 (pages.headD 0) ++ natBytes 4 pages.length)

/-- Note an unusable word of the metadata cache or the root: which half and word hold it is free (log entry 4). -/
def State.mdBad (s : State) (m : Mark) : State :=
  let n := s.freeVal.toNat
  s.drawn.noteBad (0x4000 + n % 2) (n / 2 % 131072) (decide (m = .poison)) 0

/-- A stored copy of a metadata line can be used: no word is bad and, in a region with integrity, its tag verifies (R288). -/
def State.copyOk (s : State) (reg : Region) (pa ctr : Nat) : Bool :=
  !(s.lineMarks pa).any Mark.bad && (decide (reg.prot ≠ 2) || s.tagOk (s.keyOf reg.kid) pa ctr)

/-- The value of a stored metadata line. -/
def State.mdStored (s : State) (pa : Nat) : BitVec 512 := BitVec.ofNat 512 (bytesNat (s.dramBytes pa 64))

/-- The copies of a tree node: a bad one is rewritten from one that verifies, two bad ones lose the range (R295). Both are examined (log entry 103). -/
def State.judgeCopies (s : State) (rid : Nat) (reg : Region) (level node : Nat) : List Nat → State × BitVec 512
  | p :: ps =>
    let c := s.parentCtr rid reg level node
    match (p :: ps).find? (fun q => s.copyOk reg q c) with
    | none => (s.loseRange rid reg level node, 0)
    | some g =>
      let v := s.mdStored g
      let bad := (p :: ps).filter (fun q => !s.copyOk reg q c)
      let s := bad.foldl (fun s q =>
        let s := s.rawPut reg (s.keyOf reg.kid) q c (natBytes 64 v.toNat) (List.replicate 8 .clean)
        (s.bump MCE_TREEFIX MCE_CNTOVF 2).record 0x23 1 (natBytes 1 rid ++ natBytes 4 (reg.nodeNum level node))) s
      (s, v)
  | [] => (s, 0)

/-- Fetch a metadata line, its parent held, and verify it (R288, R295, R296). -/
def State.mdLoad (s : State) (rid : Nat) (reg : Region) (level node : Nat) : State × BitVec 512 :=
  let pas := reg.mdPas level node
  let s := pas.foldl (fun s pa => (s.chanWake pa).noteMeta pa 8) s
  let m := if reg.prot = 2 && decide (level = topLevel reg.pages) then smGet Mark.clean s.ddr.rootMark (16 * rid + node) else .clean
  match m with
  | .clean => s.judgeCopies rid reg level node pas
  | .ce => ({ s with ddr := { s.ddr with rootMark := smDel s.ddr.rootMark (16 * rid + node) } }.countCeIn 4 2).judgeCopies rid reg level node pas
  | b => ((s.mdBad b).loseRange rid reg level node, 0)

/-- A held line is used: a correctable code is corrected; an unusable one is fetched again where it was clean, else its range is lost, for no stored
copy holds its counters (R256, R295; log entry 104). -/
def State.mdHit (s : State) (rid : Nat) (reg : Region) (x : MdLine) : State :=
  let put (s : State) (v : BitVec 512) : State := s.mdSet rid x.level x.node (fun y => { y with val := v, dirty := false, code := .clean })
  match x.code with
  | .clean => s
  | .ce => (s.mdSet rid x.level x.node (fun y => { y with code := .clean })).countCeIn 4 2
  | b =>
    let s := s.mdBad b
    if x.dirty then
      let t := s.loseRange rid reg x.level x.node
      { t with ddr := { t.ddr with md := t.ddr.md ++ [{ x with val := 0, dirty := false, code := .clean }] } }
    else
      let t := s.mdLoad rid reg x.level x.node
      put t.1 t.2

/-- Bring a metadata line into the cache, its parents first (R288), counting hits and misses. -/
def State.mdTouch (s : State) (rid : Nat) (reg : Region) : Nat → Nat → Nat → State
  | 0, _, _ => s
  | f + 1, level, node =>
    match mdFind s.ddr.md rid level node with
    | some x => (s.bump MCE_MDHITS MCE_CNTOVF 3).mdHit rid reg x
    | none =>
      let s := s.bump MCE_MDMISSES MCE_CNTOVF 4
      let s := if reg.prot = 2 ∧ level < topLevel reg.pages then s.mdTouch rid reg f (level + 1) (node / 8) else s
      let x := s.mdLoad rid reg level node
      let p := x.1.placeCode 4
      let s := p.1
      let s := { s with ddr := { s.ddr with
        md := s.ddr.md ++ [({ region := rid, level := level, node := node, val := x.2, dirty := false, code := p.2 } : MdLine)] } }
      s.mdEvict

/-- The counter block of a page is brought in. -/
def State.mdPage (s : State) (rid : Nat) (reg : Region) (j : Nat) : State :=
  if reg.prot = 0 then s else s.mdTouch rid reg 12 0 j

/-! Reading and writing a data line (R289-R291) -/

/-- The KID whose key a page is stored under: the new one once the re-key has passed it (R294). -/
def State.pageKid (s : State) (rid : Nat) (reg : Region) (j : Nat) : BitVec 6 :=
  match s.ddr.rekey with
  | some k => if k.region = rid ∧ j < k.ptr then k.newKid else reg.kid
  | none => reg.kid

/-- The KID a cache line allocated now carries (R217, R294). -/
def State.allocTag (s : State) (rid : Nat) (reg : Region) : BitVec 6 :=
  match s.ddr.rekey with
  | some k => if k.region = rid then k.newKid else reg.kid
  | none => reg.kid

/-- The counter of data line `t`, whose counter block is held (R283). -/
def State.lineCtr (s : State) (rid t : Nat) : Nat := blkCtr (s.mdVal rid 0 (t / 64)) (t % 64)

/-- A stored tag does not verify (R289): the line is written as poison, the failure captured, counted and recorded (R269, R290). -/
def State.tagFail (s : State) (pa addr : Nat) : State :=
  let s := s.lineStore pa (List.replicate 64 0) (List.replicate 8 .poison)
  let s := s.noteBad (unitDdr (paChannel pa)) addr true 0
  let s := if tb (s.rd MCE_STATUS) 0 then s else s.wr64 MCE_FADDR_LO pa
  let s := (s.bump MCE_TAGFAIL MCE_CNTOVF 0).setBits MCE_STATUS 1
  s.record 0x22 3 (natBytes 8 pa)

/-- Read, check and decrypt data line `t`, its counter block held, under a key (R289): the codes of its words first, then its tag, then decryption. Answers
the bytes and the marks the copy carries. -/
def State.lineCheck (s : State) (rid : Nat) (reg : Region) (key : BitVec 256) (t : Nat) : State × List Byte × List Mark :=
  let pa := reg.pa t
  let addr := reg.dbase.toNat * 2 ^ 20 + 64 * t
  let c := s.lineCtr rid t
  let ms := s.lineMarks pa
  let s := s.noteLine pa addr
  let plain := if reg.prot = 0 then s.dramBytes pa 64 else lineCrypt key pa c (s.dramBytes pa 64)
  if ms.any Mark.bad || decide (reg.prot ≠ 2) then (s, plain, ms.map fetchedMark)
  else
    let s := (s.noteMeta (tagAddr pa) 1).noteMeta (tagAddr pa + 6) (if (tagAddr pa + 6) / 8 = tagAddr pa / 8 then 0 else 1)
    if s.tagOk key pa c then (s, plain, List.replicate 8 .clean)
    else (s.tagFail pa addr, List.replicate 64 0, List.replicate 8 .poison)

/-- Fetch a stored data line (R289): the bytes and the marks the fetched copy carries. -/
def State.lineFetch (s : State) (rid : Nat) (reg : Region) (addr : Nat) : State × List Byte × List Mark :=
  let t := reg.line addr
  let s := (s.chanWake (reg.pa t)).mdPage rid reg (t / 64)
  s.lineCheck rid reg (s.keyOf (s.pageKid rid reg (t / 64))) t

/-- Read, check and decrypt the 64 lines of a page (R291, R294). -/
def State.pageRead (s : State) (rid : Nat) (reg : Region) (key : BitVec 256) (j : Nat) : State × List (List Byte × List Mark) :=
  (List.range 64).foldl (fun (acc : State × List (List Byte × List Mark)) i =>
    let x := acc.1.lineCheck rid reg key (64 * j + i)
    (x.1, acc.2 ++ [x.2])) (s, [])

/-- Write the 64 lines of a page under one counter; a line that failed its check is written as poison (R291, R294). -/
def State.pageWrite (s : State) (reg : Region) (key : BitVec 256) (j ctr : Nat) (xs : List (List Byte × List Mark)) : State :=
  (List.range 64).foldl (fun s i =>
    let x := xs.getD i ([], [])
    s.linePut reg key (reg.pa (64 * j + i)) ctr x.1 (if x.2.any Mark.bad then List.replicate 8 .poison else x.2)) s

/-- A write past the last minor value re-encrypts its page under the next major value (R291); the written line has its new data. -/
def State.pageAgain (s : State) (rid : Nat) (reg : Region) (t : Nat) (bs : List Byte) (ms : List Mark) : State :=
  let j := t / 64
  let key := s.keyOf (s.pageKid rid reg j)
  let r := s.pageRead rid reg key j
  let v := blkOf (blkMajor (r.1.mdVal rid 0 j) + 1)
  let s := r.1.mdSet rid 0 j (fun x => { x with val := v, dirty := true })
  let s := s.pageWrite reg key j (blkCtr v 0) r.2
  (s.linePut reg key (reg.pa t) (blkCtr v 0) bs ms).bump MCE_PGREENC MCE_CNTOVF 1

/-- A write of this line would pass the last major value and waits (R292). -/
def State.ctrFull (s : State) (rid : Nat) (reg : Region) (t : Nat) : Bool :=
  let v := (s.mdPage rid reg (t / 64)).mdVal rid 0 (t / 64)
  decide (reg.prot ≠ 0) && decide (blkMajor v = 2 ^ 57 - 1) && decide (blkMinor v (t % 64) = 127)

/-- Write a sector back to its stored line (R283, R288, R289: a whole-sector write-back replaces a poisoned line; R291, R292). -/
def State.lineWrite (s : State) (rid : Nat) (reg : Region) (addr : Nat) (bs : List Byte) (ms : List Mark) : State :=
  let t := reg.line addr
  let j := t / 64
  let s := (s.chanWake (reg.pa t)).mdPage rid reg j
  if reg.prot = 0 then s.linePut reg (s.keyOf reg.kid) (reg.pa t) 0 bs ms
  else
    let v := s.mdVal rid 0 j
    let s := if blkMinor v (t % 64) < 127 then
        let w := blkStep v (t % 64)
        (s.mdSet rid 0 j (fun x => { x with val := w, dirty := true })).linePut reg (s.keyOf (s.pageKid rid reg j)) (reg.pa t) (blkCtr w (t % 64)) bs ms
      else s.pageAgain rid reg t bs ms
    if blkMajor (s.mdVal rid 0 j) ≥ 2 ^ 57 - 2 ^ 20 then s.rekeyWant rid else s

/-! The sweep of a re-key (R294) -/

/-- One page: every line is read and checked under the old key and written under the new one with major and minor counters 0; RKPTR passes the page. -/
def State.rekeyPage (s : State) : State :=
  match s.ddr.rekey with
  | none => s
  | some k =>
    let reg := s.region k.region
    if s.pins.ioRst ∨ reg.pages ≤ k.ptr then s
    else
      let s := s.mdPage k.region reg k.ptr
      let r := s.pageRead k.region reg (s.keyOf reg.kid) k.ptr
      let s := r.1.mdSet k.region 0 k.ptr (fun x => { x with val := 0, dirty := true })
      let s := s.pageWrite reg (s.keyOf k.newKid) k.ptr 0 r.2
      { s with ddr := { s.ddr with rekey := some { k with ptr := k.ptr + 1 } } }

/-- Every page that the sweep has not passed. -/
def State.rekeyRest (s : State) : State :=
  match s.ddr.rekey with
  | none => s
  | some k => (List.range ((s.region k.region).pages - k.ptr)).foldl (fun s _ => s.rekeyPage) s

/-- The metadata lines held for a region and its root counters go. -/
def State.dropMeta (s : State) (rid : Nat) : State :=
  { s with ddr := { s.ddr with
    md := s.ddr.md.filter (fun x => decide (x.region ≠ rid))
    root := smDrop (fun k => decide (k / 16 = rid)) s.ddr.root
    rootMark := smDrop (fun k => decide (k / 16 = rid)) s.ddr.rootMark } }

/-- Every tree node of a region is written as zero under a key, its root counters are zero (R282, R294). -/
def State.treeZero (s : State) (rid : Nat) (reg : Region) (key : BitVec 256) : State :=
  let s := s.dropMeta rid
  if reg.prot = 2 then
    (List.range (topLevel reg.pages)).foldl (fun s l => (List.range (levelNodes reg.pages (l + 1))).foldl (fun s i =>
      s.mdStore reg key (l + 1) i 0 0) s) s
  else s

/-- The counter blocks of a region are written as they stand under a key, its tree above them is rebuilt with counters 0 (R294). -/
def State.rebuildTree (s : State) (rid : Nat) (reg : Region) (key : BitVec 256) : State :=
  ((List.range reg.pages).foldl (fun s j =>
    let s := s.mdPage rid reg j
    (s.mdStore reg key 0 j (s.mdVal rid 0 j) 0).mdDrop rid 0 j) s).treeZero rid reg key

/-! Initialization (R282) -/

/-- Every line of a region as its initialization leaves it: tag lines zero before their tags, every data line zero with counter 0, counter blocks and nodes
zero. -/
def State.regionFill (s : State) (rid : Nat) (reg : Region) (key : BitVec 256) : State :=
  let zero (s : State) (pa : Nat) : State := s.lineStore pa (List.replicate 64 0) (List.replicate 8 .clean)
  let s := if reg.prot = 2 then
      (List.range (groupsOf reg.prot reg.dsize.toNat)).foldl (fun s g => zero s (reg.pbase.toNat * 2 ^ 20 + 512 * g + 384)) s
    else s
  let s := (List.range reg.lines).foldl (fun s t => s.linePut reg key (reg.pa t) 0 (List.replicate 64 0) (List.replicate 8 .clean)) s
  let s := if reg.prot = 0 then s else (List.range reg.pages).foldl (fun s j => s.mdStore reg key 0 j 0 0) s
  s.treeZero rid reg key

end Sys2Proof.Machine
end

