-- ==== Sys2Proof/Machine/NocRoute.lean ====
section
/-! DEFINITION. The map of the on-stack network (R196-R202): ports, headers, fixed routing; the crossing of the network by accesses that are one
step, and the flits a port is given (R200, R205, R212, R215). -/

namespace Sys2Proof.Machine

/-- A port: network, node, endpoint port (R196, R197). -/
structure PortId where
  net : Nat
  node : Nat
  port : Nat
deriving DecidableEq, Repr

/-! Endpoints (R30, R197, R198) -/

/-- The Granite port of a cluster. -/
def clusterPort (c : Nat) : PortId :=
  ⟨c / 512, c / 32 % 16 / 2 * 16 + c % 32 / 2, c / 32 % 2 * 2 + c % 2⟩
/-- The dispatcher issue port under the router of a cluster (R535). -/
def issuePort (c : Nat) : PortId := ⟨2, c / 32 % 16 / 2 * 16 + c % 32 / 2, 5⟩
def slicePort (sl : Nat) : PortId := ⟨2, sl / 2, sl % 2⟩
def bankPort (n : Nat) : PortId := ⟨2, n, 2⟩
def sectorPort (k : Nat) : PortId := ⟨2, 16 * k + 8, 7⟩
/-- Matching-store input of a flow, queue-engine input of a queue (R198). -/
def mstPort (flow : Nat) : PortId := ⟨2, 8 * (flow % 16) + 6, 3⟩
def queuePort (q : Nat) : PortId := ⟨2, 8 * (q % 16) + 6, 4⟩
/-- The ports on Bedrock: lane groups, PCIe, HP, GPIO, SMBus, the mailboxes of a Flint tile, the supervisor. -/
def lanePort (l : Nat) : PortId := ⟨3, l / 4, 2⟩
def pciePort : PortId := ⟨3, 12, 2⟩
def hpPort : PortId := ⟨3, 13, 2⟩
def gpioPort : PortId := ⟨3, 14, 2⟩
def smbPort : PortId := ⟨3, 15, 2⟩
def tilePort (t : Nat) : PortId := ⟨3, 16 + t, 3⟩
def supvPort : PortId := ⟨3, 18, 3⟩

/-- Grid coordinates (R196). -/
def nodeX (net n : Nat) : Nat := if net = 3 then n % 8 else n % 16
def nodeY (net n : Nat) : Nat := if net = 3 then n / 8 else n / 16
def nodeAt (net x y : Nat) : Nat := if net = 3 then y * 8 + x else y * 16 + x
/-- The network has the node. -/
def nodeOk (net n : Nat) : Bool := (decide (net ≤ 2) && decide (n < 128)) || (decide (net = 3) && decide (n < 32))

/-- The port exists (R197). -/
def portOk (q : PortId) : Bool :=
  nodeOk q.net q.node &&
  (match q.net with
   | 2 => match q.port with
     | 3 => decide (q.node % 8 = 6)
     | 4 => decide (q.node % 8 = 6)
     | 6 => decide (q.node % 4 = 0)
     | 7 => decide (q.node % 16 = 8)
     | p => decide (p < 8)
   | 3 => match q.port with
     | 0 => true
     | 1 => decide (q.node % 2 = 0)
     | 2 => decide (q.node ≤ 15)
     | 3 => decide (16 ≤ q.node) && decide (q.node ≤ 19)
     | _ => false
   | _ => decide (q.port < 4))

def portKey (q : PortId) : Nat := 2048 * q.net + 16 * q.node + q.port
def routerKey (net node : Nat) : Nat := 128 * net + node
def State.portSt (s : State) (q : PortId) : PortSt := smGet .ready s.noc.port (portKey q)
def State.setPort (s : State) (q : PortId) (x : PortSt) : State :=
  { s with noc := { s.noc with port := smSet .ready s.noc.port (portKey q) x } }
def State.rcfg (s : State) (net node : Nat) : BitVec 9 := smGet 0x108 s.noc.rcfg (routerKey net node)
def State.freezing (s : State) (net node : Nat) : Bool := smGet false s.noc.freeze (routerKey net node)

/-! Headers (R199, R200) -/

/-- The 64 bits of a header. -/
def Hdr.word (h : Hdr) : BitVec 64 :=
  BitVec.ofNat 64 (h.typ.toNat * 2 ^ 60 + h.urg.toNat * 2 ^ 56 + h.nflit.toNat * 2 ^ 53 + Bool.bit h.bnc * 2 ^ 52 + h.dnet.toNat * 2 ^ 50 +
    h.dx.toNat * 2 ^ 46 + h.dy.toNat * 2 ^ 43 + h.dport.toNat * 2 ^ 40 + h.snet.toNat * 2 ^ 38 + h.sx.toNat * 2 ^ 34 +
    h.sy.toNat * 2 ^ 31 + h.sport.toNat * 2 ^ 28 + h.tag.toNat * 2 ^ 16 + h.wcnt.toNat * 2 ^ 4 + h.pri.toNat)

/-- The header a source makes (R206: URG = 2 x PRI, WCNT = 0). -/
def mkHdr (typ nflit pri : Nat) (src dst : PortId) : Hdr :=
  { typ := BitVec.ofNat 4 typ, urg := BitVec.ofNat 4 (2 * pri), nflit := BitVec.ofNat 3 nflit, bnc := false
    dnet := BitVec.ofNat 2 dst.net, dx := BitVec.ofNat 4 (nodeX dst.net dst.node), dy := BitVec.ofNat 3 (nodeY dst.net dst.node)
    dport := BitVec.ofNat 3 dst.port, snet := BitVec.ofNat 2 src.net, sx := BitVec.ofNat 4 (nodeX src.net src.node)
    sy := BitVec.ofNat 3 (nodeY src.net src.node), sport := BitVec.ofNat 3 src.port, tag := 0, wcnt := 0, pri := BitVec.ofNat 3 pri }

def Hdr.dst (h : Hdr) : PortId := ⟨h.dnet.toNat, nodeAt h.dnet.toNat h.dx.toNat h.dy.toNat, h.dport.toNat⟩
def Hdr.src (h : Hdr) : PortId := ⟨h.snet.toNat, nodeAt h.snet.toNat h.sx.toNat h.sy.toNat, h.sport.toNat⟩
/-- The virtual channel of a type (R200). -/
def Hdr.vc (h : Hdr) : Nat :=
  match h.typ.toNat with
  | 0 => 2
  | 1 => 2
  | 2 => 0
  | 3 => 0
  | 6 => 0
  | _ => 1
def Hdr.flits (h : Hdr) : Nat := h.nflit.toNat + 1
/-- Flits minus 1 of a bundle of `k` tokens (R200). -/
def bundleFlits (k : Nat) : Nat := if k ≤ 3 then 0 else (k - 3 + 3) / 4

/-! Routing (R201, R202) -/

/-- The planar target of a packet in a network. -/
def planarTarget (h : Hdr) (net : Nat) : Nat × Nat :=
  if net = 3 ∧ h.dnet = 3 then (h.dx.toNat, h.dy.toNat)
  else if net = 3 then
    let g := 4 * h.dy.toNat + h.dx.toNat / 4
    (g % 8, g / 8)
  else if h.dnet = 3 then (4 * (h.sx.toNat / 4), h.sy.toNat)
  else (h.dx.toNat, h.dy.toNat)

/-- The link pair a packet uses: that of its cache slice, else SPORT[0] (R202). -/
def downLink (h : Hdr) : Nat := if h.dnet = 2 ∧ h.dport.toNat ≤ 1 then h.dport.toNat else h.sport.toNat % 2

/-- The output a packet requests at a router: 0 east, 1 west, 2 north, 3 south, 4 + p endpoint port p, 12 + l Z link l, 14 + l
down-port l. -/
def nextOut (h : Hdr) (net node : Nat) : Nat :=
  let t := planarTarget h net
  let x := nodeX net node
  let y := nodeY net node
  if x < t.1 then 0
  else if t.1 < x then 1
  else if y < t.2 then 2
  else if t.2 < y then 3
  else if h.dnet.toNat = net then 4 + h.dport.toNat
  else match net with
    | 0 => if h.dnet = 1 then 12 + h.sport.toNat % 2 else 14 + downLink h
    | 1 => 12 + h.sport.toNat % 2
    | 2 => if h.dnet = 3 then 10 else 14 + downLink h
    | _ => 4

/-- Where an output leads: network, node and input of the next router; none for an ejection at the packet's own port. -/
def nextHop (h : Hdr) (net node out : Nat) : Option (Nat × Nat × Nat) :=
  let w := if net = 3 then 8 else 16
  if out = 0 then some (net, node + 1, 1)
  else if out = 1 then some (net, node - 1, 0)
  else if out = 2 then some (net, node + w, 3)
  else if out = 3 then some (net, node - w, 2)
  else if out ≥ 14 then some (if net = 0 then 2 else 0, node, out)
  else if out ≥ 12 then some (1 - net, node, out)
  else if h.dnet.toNat = net then none
  else if net = 2 then some (3, node / 4, 4)
  else some (2, 4 * node, 10)

/-- The hop crosses the spine (R196, R204). -/
def crossesSpine (net node out : Nat) : Bool :=
  decide (net ≠ 3) && ((decide (out = 0) && decide (nodeX net node = 7)) || (decide (out = 1) && decide (nodeX net node = 8)))

/-! Accesses that are one step (R24, R200, R535) -/

/-- The routers a packet visits from a node on. -/
def pathFrom (h : Hdr) : Nat → Nat → Nat → List (Nat × Nat)
  | 0, _, _ => []
  | f + 1, net, node => (net, node) :: (match nextHop h net node (nextOut h net node) with
    | some (n, d, _) => pathFrom h f n d
    | none => [])

/-- The routers from a source port to a destination port (R201, R202). -/
def routersTo (src dst : PortId) : List (Nat × Nat) := pathFrom (mkHdr 2 0 0 src dst) 64 src.net src.node

/-- A packet can cross the network: no router on its way withholds its credit (R212). -/
def State.oneWay (s : State) (src dst : PortId) : Bool := (routersTo src dst).all (fun r => !s.freezing r.1 r.2)

/-- A request and its answer can cross the network. -/
def State.crossing (s : State) (src dst : PortId) : Bool := s.oneWay src dst && s.oneWay dst src

/-! Counters of a port (R190, R215) -/

/-- Add to a 64-bit counter that saturates; true when it does. -/
def addSat (v : BitVec 64) (n : Nat) : BitVec 64 × Bool :=
  if v.toNat + n ≥ 2 ^ 64 - 1 then (BitVec.ofNat 64 (2 ^ 64 - 1), true) else (BitVec.ofNat 64 (v.toNat + n), false)

/-- Flits delivered to a port. -/
def State.countFlits (s : State) (q : PortId) (n : Nat) : State :=
  let x := addSat (smGet 0 s.noc.pflits (portKey q)) n
  let t := { s with noc := { s.noc with pflits := smSet 0 s.noc.pflits (portKey q) x.1 } }
  if x.2 then t.setBits NOC_CNTOVF 2 else t

/-- Waiting cycles of packets for a port (R206). -/
def State.countWait (s : State) (q : PortId) (n : Nat) : State :=
  let x := addSat (smGet 0 s.noc.pwait (portKey q)) n
  let t := { s with noc := { s.noc with pwait := smSet 0 s.noc.pwait (portKey q) x.1 } }
  if x.2 then t.setBits NOC_CNTOVF 4 else t

/-- A request of `req` flits reaches its endpoint and an answer of `rsp` flits its source (R200, R215). -/
def State.exchanged (s : State) (src dst : PortId) (req rsp : Nat) : State := (s.countFlits dst req).countFlits src rsp

/-- Flits of a packet that carries `n` bytes, of which `head` fit its head flit (R200). -/
def dataFlits (head n : Nat) : Nat := if n ≤ head then 1 else 5

end Sys2Proof.Machine
end

