-- ==== Sys2Proof/Machine/CacheOps.lean ====
section
/-! DEFINITION. The shared cache, the scratch-lock window and the merge buffers (R217-R225, R252-R255): where a word
lies, merge-buffer writes and flushes, allocation, eviction and write-back, serving a request. -/

namespace Sys2Proof.Machine

/-- What serving a request gives: the state, how it is answered, the bytes read. -/
abbrev Served := State × AnsKind × List Byte

/-! Addresses (R217, R223) -/
def cSlice (a : Nat) : Nat := (a / 2 ^ 8 % 256) ^^^ (a / 2 ^ 16 % 256) ^^^ (a / 2 ^ 24 % 256) ^^^ (a / 2 ^ 32 % 16)
def cSet (a : Nat) : Nat := a / 2 ^ 16 % 256
def cTag (a : Nat) : BitVec 12 := BitVec.ofNat 12 (a / 2 ^ 24)
def cSector (a : Nat) : Nat := a / 64 % 4
def lineKey (slice way set : Nat) : Nat := (16 * slice + way) * 256 + set
/-- The external address of the line at (slice, set) with a tag: slice and set together recover A[15:8] (R217). -/
def lineAddr (slice set : Nat) (tag : BitVec 12) : Nat :=
  tag.toNat * 2 ^ 24 + set * 2 ^ 16 + (slice ^^^ set ^^^ (tag.toNat % 256) ^^^ (tag.toNat / 256)) * 2 ^ 8

def isExternal (a : Nat) : Bool := decide (a < 0x1000000000)
def isLockWin (a : Nat) : Bool := decide (0x1200000000 ≤ a) && decide (a < 0x1210000000)
def isSpadPlain (a : Nat) : Bool := decide (0x1000000000 ≤ a) && decide (a < 0x1004000000)
def isSpad (a : Nat) : Bool := decide (0x1000000000 ≤ a) && decide (a < 0x100C000000)
def isGarnet (a : Nat) : Bool := decide (0x1100000000 ≤ a) && decide (a < 0x1104000000)

def State.cline (s : State) (k : Nat) : CLine := smGet CLine.zero s.cache.lines k
def State.setCline (s : State) (k : Nat) (x : CLine) : State :=
  { s with cache := { s.cache with lines := smSet CLine.zero s.cache.lines k x } }
def State.lockMask (s : State) (slice : Nat) : BitVec 15 := smGet 0 s.cache.lock slice
/-- The mask of ways usable for caching: unlocked in the old and, during a transition, the new mask (R224). -/
def State.lockedNow (s : State) (slice : Nat) : BitVec 15 :=
  match smFind s.cache.trans slice with
  | some m => s.lockMask slice ||| m.truncate 15
  | none => s.lockMask slice

/-- The way that holds the line of an address. -/
def State.cFind (s : State) (a : Nat) : Option Nat :=
  (List.range 16).find? (fun w =>
    let x := s.cline (lineKey (cSlice a) w (cSet a))
    decide (x.v ≠ 0) && decide (x.tag = cTag a))

/-- A way may hold cache lines of a set: unlocked and not excluded (R222, R267). -/
def State.wayOk (s : State) (slice set w : Nat) : Bool :=
  !((s.lockedNow slice).getLsbD w) && !(smGet false s.cache.excl (lineKey slice w set))

/-- The endpoint port of the channel that holds an external address (R198, R275). -/
def State.ddrPort (s : State) (a : Nat) : PortId :=
  ⟨3, (match s.regionOf a with
    | some (_, reg) => 2 * paChannel (reg.pa (reg.line a))
    | none => 0), 1⟩

/-- The way between a slice and the channel of an address is open (R24, R212), and the channels have their clock: without DCLK requests wait (R410). -/
def State.ddrReach (s : State) (a : Nat) : Bool := !s.pwr.dclkBad && s.crossing (slicePort (cSlice a)) (s.ddrPort a)

/-- A fetch or a write-back crosses between a slice and its channel: a 1-flit and a 5-flit packet (R200). -/
def State.ddrFlits (s : State) (a : Nat) (write : Bool) : State :=
  s.exchanged (slicePort (cSlice a)) (s.ddrPort a) (if write then 5 else 1) (if write then 1 else 5)

/-! Word locations -/

/-- Where a 64-bit word of a merge-buffered unit lies: in a cache array or in the scratchpad (byte key). -/
inductive WLoc where
  | cache (k : Nat)
  | spad (k : Nat)
deriving DecidableEq, Repr

/-- The location of the word at a device address; none for an external address whose line is not held. -/
def State.wLoc (s : State) (a : Nat) : Option WLoc :=
  if isExternal a then (s.cFind a).map (fun w => .cache (lineKey (cSlice a) w (cSet a) * 256 + a % 256 / 8 * 8))
  else if isLockWin a then some (.cache ((a - 0x1200000000) / 8 * 8))
  else if isSpadPlain a then some (.spad ((a - 0x1000000000) / 8 * 8))
  else none

/-- What a byte of the scratchpad that nothing is listed for reads as: zero, or a free value where its bank lost its contents. -/
def Spad.dflt (x : Spad) (o : Nat) : Byte :=
  match smGet 0 x.lost (o / 2 ^ 19) with
  | 0 => 0
  | e + 1 => BitVec.ofNat 8 ((Config.lostMem e (o / 8)).toNat / 2 ^ (8 * (o % 8)))

/-- The eight bytes of a scratchpad word. -/
def Spad.word (x : Spad) (k : Nat) : List Byte := (List.range 8).map (fun i => smGet (x.dflt (k + i)) x.arr (k + i))

/-- Write the bytes of a scratchpad array that are given. -/
def Spad.putBytes (x : Spad) (m : SMap Byte) (k : Nat) : List (Option Byte) → SMap Byte
  | [] => m
  | none :: bs => x.putBytes m (k + 1) bs
  | some b :: bs => x.putBytes (smSet (x.dflt k) m k b) (k + 1) bs

/-- The bytes of a word. -/
def State.wGet (s : State) : WLoc → List Byte
  | .cache k => smGetList 0 s.cache.arr k 8
  | .spad k => s.spad.word k
/-- What the code of a word reports; a scratchpad word held as POISON for want of a retirement entry always reports POISON (R268). -/
def State.wMark (s : State) : WLoc → Mark
  | .cache k => smGet .clean s.cache.marks (k / 8)
  | .spad k => if s.heldBad (unitSpad (k / 2 ^ 19)) (k % 2 ^ 19 / 8) then .poison else smGet .clean s.spad.marks (k / 8)
def State.wPut (s : State) (l : WLoc) (bs : List (Option Byte)) (m : Mark) : State :=
  match l with
  | .cache k => { s with cache := { s.cache with arr := smSetMasked 0 s.cache.arr k bs
                                                 marks := smSet .clean s.cache.marks (k / 8) m } }
  | .spad k => { s with spad := { s.spad with arr := s.spad.putBytes s.spad.arr k bs
                                              marks := smSet .clean s.spad.marks (k / 8) m } }

/-! Merge buffers (R252-R255) -/

/-- Later bytes replace earlier ones. -/
def mergeBytes : List (Option Byte) → List (Option Byte) → List (Option Byte)
  | o :: os, n :: ns => (match n with | some b => some b | none => o) :: mergeBytes os ns
  | os, [] => os
  | [], ns => ns

def allGiven (bs : List (Option Byte)) : Bool := bs.all Option.isSome

/-- Put an entry's bytes into the array (R253, R255). -/
def State.flushInto (s : State) (e : MergeEnt) : State :=
  match s.wLoc e.addr with
  | none => s
  | some l =>
    if allGiven e.bytes then s.wPut l e.bytes .clean
    else match s.wMark l with
      | .ue => s.noteBad e.unit e.addr false 3
      | .poison => s.noteBad e.unit e.addr true 3
      | .ce => (s.wPut l e.bytes .clean).noteCe e.unit e.addr
      | .clean => s.wPut l e.bytes .clean

/-- The entries that leave when those that satisfy `p` must: the older ones of their units leave before them (R253). -/
def dueEntries (p : MergeEnt → Bool) : List MergeEnt → List MergeEnt
  | [] => []
  | e :: es => if p e || es.any (fun x => decide (x.unit = e.unit) && p x) then e :: dueEntries p es else dueEntries p es

/-- Flush every entry that satisfies `p`: entries of one unit flush in the order in which they were allocated (R253). -/
def State.flushWhere (s : State) (p : MergeEnt → Bool) : State :=
  let out := dueEntries p s.ecc.merge
  let s := { s with ecc := { s.ecc with merge := s.ecc.merge.filter (fun e => !out.contains e) } }
  out.foldl (fun s e => s.flushInto e) s

/-- Flush the entry of a word. -/
def State.flushWord (s : State) (a : Nat) : State := s.flushWhere (fun e => decide (e.addr = a / 8 * 8))

/-- Flush the entries of a byte range. -/
def State.flushRange (s : State) (lo hi : Nat) : State :=
  s.flushWhere (fun e => decide (lo ≤ e.addr) && decide (e.addr < hi))

/-- Place a write in the unit's merge buffer (R252, R253). -/
def State.mergeWrite (s : State) (unit a : Nat) (bs : List (Option Byte)) : State :=
  let a := a / 8 * 8
  match s.ecc.merge.find? (fun e => decide (e.unit = unit) && decide (e.addr = a)) with
  | some e =>
    let e' : MergeEnt := { e with bytes := mergeBytes e.bytes bs }
    let s := { s with ecc := { s.ecc with merge := s.ecc.merge.map (fun x => if x = e then e' else x) } }
    if allGiven e'.bytes then s.flushWord a else s
  | none =>
    let mine := s.ecc.merge.filter (fun e => decide (e.unit = unit))
    let s := match mine with
      | [] => s
      | o :: _ => if mine.length ≥ 8 then s.flushWhere (fun e => decide (e = o)) else s
    { s with ecc := { s.ecc with merge := s.ecc.merge ++ [⟨unit, a, bs⟩] } }

/-- Write the given bytes of one 64-bit word of a unit (R252). -/
def State.wordWrite (s : State) (unit a : Nat) (bs : List (Option Byte)) : State :=
  if bs.all Option.isNone then s
  else if allGiven bs && !(s.ecc.merge.any (fun e => decide (e.addr = a / 8 * 8))) then
    match s.wLoc a with
    | some l => s.wPut l bs .clean
    | none => s
  else s.mergeWrite unit a bs

/-- Read one 64-bit word of a unit: the merge entry is flushed by the same operation (R254); errors are noted. -/
def State.wordRead (s : State) (unit a : Nat) : State × List Byte × Bool :=
  let s := s.flushWord a
  match s.wLoc a with
  | some l =>
    let m := s.wMark l
    (s.noteMark m unit (a / 8 * 8) 0, if m.bad then List.replicate 8 0 else s.wGet l, m.bad)
  | none => (s, List.replicate 8 0, false)

/-- The bytes a request gives to the word at `w` (a multiple of 8). -/
def reqWord (r : MemReq) (w : Nat) : List (Option Byte) :=
  (List.range 8).map (fun i =>
    if r.addr ≤ w + i ∧ w + i < r.addr + r.len then (r.bytes.getD (w + i - r.addr) none) else none)

/-- The word addresses a request touches. -/
def reqWords (r : MemReq) : List Nat :=
  (List.range ((r.addr + r.len + 7) / 8 - r.addr / 8)).map (fun i => 8 * (r.addr / 8 + i))

/-- Write every word of a request. -/
def State.writeWords (s : State) (unit : Nat) (r : MemReq) : State :=
  (reqWords r).foldl (fun s w => s.wordWrite unit w (reqWord r w)) s

/-- Read every word of a request: the bytes asked for, and whether any word was bad. -/
def State.readWords (s : State) (unit : Nat) (r : MemReq) : State × List Byte × Bool :=
  let out := (reqWords r).foldl (fun (acc : State × List Byte × Bool) w =>
    let x := acc.1.wordRead unit w
    (x.1, acc.2.1 ++ x.2.1, acc.2.2 || x.2.2)) (s, [], false)
  (out.1, (out.2.1.drop (r.addr % 8)).take r.len, out.2.2)

/-! Lines -/

/-- Bump a counter of a slice; saturation sets its flag in the slice's CACHE_CNTOVF (R190, R245). -/
def bumpSlice (m : SMap (BitVec 32)) (slice : Nat) : SMap (BitVec 32) :=
  let v := smGet 0 m slice
  if v.toNat ≥ 2 ^ 32 - 1 then m else smSet 0 m slice (v + 1)
def sliceFull (m : SMap (BitVec 32)) (slice : Nat) : Bool := decide ((smGet 0 m slice).toNat ≥ 2 ^ 32 - 1)
def State.sliceFlag (s : State) (slice bit : Nat) (full : Bool) : State :=
  if full then { s with cache := { s.cache with
    ovf := smSet 0 s.cache.ovf slice (smGet 0 s.cache.ovf slice ||| BitVec.ofNat 3 (2 ^ bit)) } } else s
def State.cntHit (s : State) (slice : Nat) : State :=
  let m := bumpSlice s.cache.hits slice
  ({ s with cache := { s.cache with hits := m } }).sliceFlag slice 0 (sliceFull m slice)
def State.cntMiss (s : State) (slice : Nat) : State :=
  let m := bumpSlice s.cache.misses slice
  ({ s with cache := { s.cache with misses := m } }).sliceFlag slice 1 (sliceFull m slice)
def State.cntWback (s : State) (slice : Nat) : State :=
  let m := bumpSlice s.cache.wbacks slice
  ({ s with cache := { s.cache with wbacks := m } }).sliceFlag slice 2 (sliceFull m slice)

/-- Point the tree pseudo-LRU bits of a set away from a way (R218; the polarity is log entry 13). -/
def plruTouch (b : BitVec 15) (w : Nat) : BitVec 15 :=
  (List.range 4).foldl (fun b d =>
    let node := 2 ^ d - 1 + w / 2 ^ (4 - d)
    let right := w / 2 ^ (3 - d) % 2
    if right = 1 then b &&& ~~~(BitVec.ofNat 15 (2 ^ node)) else b ||| BitVec.ofNat 15 (2 ^ node)) b

/-- The way the tree points at, among the ways allowed. -/
def plruPick (b : BitVec 15) (ok : Nat → Bool) : Option Nat :=
  let any (d pre : Nat) : Bool := (List.range (2 ^ (4 - d))).any (fun i => ok (pre * 2 ^ (4 - d) + i))
  if !any 0 0 then none
  else some ((List.range 4).foldl (fun pre d =>
    let right := b.getLsbD (2 ^ d - 1 + pre)
    if right then (if any (d + 1) (2 * pre + 1) then 2 * pre + 1 else 2 * pre)
    else (if any (d + 1) (2 * pre) then 2 * pre else 2 * pre + 1)) 0)

def State.plruUse (s : State) (slice set w : Nat) : State :=
  let k := 256 * slice + set
  { s with cache := { s.cache with plru := smSet 0 s.cache.plru k (plruTouch (smGet 0 s.cache.plru k) w) } }

/-- The write of an external sector cannot be made now: halted (R220), its node frozen (R24), or past the last major value (R292). -/
def State.extBlocked (s : State) (a : Nat) : Bool :=
  s.pins.ioRst || !s.ddrReach a ||
  (match s.regionOf a with
   | some (rid, reg) => s.ctrFull rid reg (reg.line a)
   | none => false)

/-- Write back one sector of a line if it is dirty (R218, R220): while it cannot be sent it stays dirty. The write travels as a 5-flit WR_REQ and is
acknowledged (R200). -/
def State.sectorBack (s : State) (slice way set sec : Nat) : State :=
  let k := lineKey slice way set
  let x := s.cline k
  let a := lineAddr slice set x.tag + 64 * sec
  if !(x.v.getLsbD sec && x.d.getLsbD sec) || s.extBlocked a then s
  else
    let s := s.flushRange a (a + 64)
    let base := k * 256 + 64 * sec
    let s := (List.range 8).foldl (fun s i =>
      if smGet Mark.clean s.cache.marks (base / 8 + i) = .ce then s.countCe (unitCache slice) else s) s
    let s := match s.regionOf a with
      | some (rid, reg) =>
        (s.ddrFlits a true).lineWrite rid reg a (smGetList 0 s.cache.arr base 64)
          ((smGetList Mark.clean s.cache.marks (base / 8) 8).map fetchedMark)
      | none => s
    (s.setCline k { s.cline k with d := (s.cline k).d &&& ~~~(BitVec.ofNat 4 (2 ^ sec)) }).cntWback slice

/-- Write back every dirty sector of a line. -/
def State.lineBack (s : State) (slice way set : Nat) : State :=
  (List.range 4).foldl (fun s sec => s.sectorBack slice way set sec) s

/-- Discard a line without write-back. -/
def State.lineDrop (s : State) (slice way set : Nat) : State :=
  let k := lineKey slice way set
  let x := s.cline k
  if x.v = 0 then s
  else
    let a := lineAddr slice set x.tag
    let s := { s with ecc := { s.ecc with merge := s.ecc.merge.filter (fun e => !(decide (a ≤ e.addr) && decide (e.addr < a + 256))) } }
    let s := { s with cache := { s.cache with
      arr := smDrop (fun i => decide (i / 256 = k)) s.cache.arr
      marks := smDrop (fun i => decide (i / 32 = k)) s.cache.marks } }
    s.setCline k CLine.zero

/-- A line that lies in a way being locked is not used (R224): it is written back and invalidated now; while it cannot be, it stays. -/
def State.vacate (s : State) (a : Nat) : State :=
  match s.cFind a with
  | some w =>
    if (s.lockedNow (cSlice a)).getLsbD w then
      let s := s.lineBack (cSlice a) w (cSet a)
      if (s.cline (lineKey (cSlice a) w (cSet a))).d ≠ 0 then s else s.lineDrop (cSlice a) w (cSet a)
    else s
  | none => s

/-- The line of an address is held in a way that may not be used (R224). -/
def State.stuckLine (s : State) (a : Nat) : Bool :=
  match s.cFind a with
  | some w => (s.lockedNow (cSlice a)).getLsbD w
  | none => false

/-- Make room for the line of an address: its own way, or the pseudo-LRU victim evicted (R218). None where no way may be
used or the victim cannot be written back now. -/
def State.cAlloc (s : State) (a : Nat) : State × Option Nat :=
  let sl := cSlice a
  let st := cSet a
  match s.cFind a with
  | some w => (s.plruUse sl st w, some w)
  | none =>
    match plruPick (smGet 0 s.cache.plru (256 * sl + st)) (s.wayOk sl st) with
    | none => (s, none)
    | some w =>
      let s := s.lineBack sl w st
      if (s.cline (lineKey sl w st)).d ≠ 0 then (s, none)
      else
        let s := s.lineDrop sl w st
        let kid : BitVec 6 := match s.regionOf a with
          | some (rid, reg) => s.allocTag rid reg
          | none => 0
        let s := s.setCline (lineKey sl w st) ⟨cTag a, kid, 0, 0⟩
        (s.plruUse sl st w, some w)

/-- Make a sector valid with given bytes and marks. -/
def State.sectorFill (s : State) (a w : Nat) (bs : List Byte) (ms : List Mark) : State :=
  let k := lineKey (cSlice a) w (cSet a)
  let base := k * 256 + 64 * cSector a
  let s := { s with cache := { s.cache with
    arr := smSetList 0 s.cache.arr base bs
    marks := smSetList .clean s.cache.marks (base / 8) ms } }
  s.setCline k { s.cline k with v := (s.cline k).v ||| BitVec.ofNat 4 (2 ^ cSector a) }

/-- The sector of an address is valid in the cache. -/
def State.sectorValid (s : State) (a : Nat) : Bool :=
  match s.cFind a with
  | some w => (s.cline (lineKey (cSlice a) w (cSet a))).v.getLsbD (cSector a)
  | none => false

/-- Fetch the sector of an address into way `w` of its line (R218): a 1-flit RD_REQ and its 5-flit RD_RSP (R200). -/
def State.sectorFetch (s : State) (a w : Nat) : State :=
  match s.regionOf a with
  | none => s
  | some (rid, reg) =>
    let x := (s.ddrFlits a false).lineFetch rid reg a
    (x.1.cntMiss (cSlice a)).sectorFill a w x.2.1 x.2.2

/-- The sectors a request touches, by address. -/
def reqSectors (r : MemReq) : List Nat :=
  (List.range ((r.addr + r.len + 63) / 64 - r.addr / 64)).map (fun i => 64 * (r.addr / 64 + i))

/-- The request writes every byte of the sector. -/
def reqCovers (r : MemReq) (sec : Nat) : Bool :=
  r.write && (List.range 8).all (fun i => allGiven (reqWord r (sec + 8 * i)))

/-- A sector of the request must be fetched before it can be served (R218). -/
def State.mustFetch (s : State) (r : MemReq) (sec : Nat) : Bool := !(s.sectorValid sec) && !(reqCovers r sec)

/-- The slice passes requests straight to external memory: off, retired or under march (R221, R265, R268). -/
def State.sliceBypass (s : State) (slice : Nat) : Bool :=
  decide (s.dom (domSlice slice) ≠ .on) || s.retiredUnit (unitCache slice) || s.marching (unitCache slice)

/-- Mark a sector valid and dirty. -/
def State.sectorDirty (s : State) (a : Nat) : State :=
  match s.cFind a with
  | some w =>
    let k := lineKey (cSlice a) w (cSet a)
    s.setCline k { s.cline k with v := (s.cline k).v ||| BitVec.ofNat 4 (2 ^ cSector a)
                                  d := (s.cline k).d ||| BitVec.ofNat 4 (2 ^ cSector a) }
  | none => s

/-- Some word of a held sector is bad. -/
def State.sectorBad (s : State) (sec : Nat) : Bool :=
  match s.cFind sec with
  | some w =>
    (smGetList Mark.clean s.cache.marks ((lineKey (cSlice sec) w (cSet sec) * 256 + 64 * cSector sec) / 8) 8).any Mark.bad
  | none => false

/-- Fetch every sector of a request that must be fetched, into way `w` of its line: whether a partial write fetched poison (R218, R290). -/
def State.fetchAll (s : State) (r : MemReq) (w : Nat) : State × Bool :=
  ((reqSectors r).filter (fun sec => s.mustFetch r sec)).foldl (fun (acc : State × Bool) sec =>
    let t := acc.1.sectorFetch sec w
    (t, acc.2 || (r.write && t.sectorBad sec))) (s, false)

/-- A sector that the write covers becomes valid without a fetch (R218). -/
def State.coverAll (s : State) (r : MemReq) (w : Nat) : State :=
  ((reqSectors r).filter (fun sec => !s.sectorValid sec)).foldl (fun s sec =>
    s.sectorFill sec w (List.replicate 64 0) (List.replicate 8 .clean)) s

/-- A sector that is not dirty and holds a UE is invalidated (R306). -/
def State.dropCleanUe (s : State) (sec : Nat) : State :=
  match s.cFind sec with
  | some w =>
    let k := lineKey (cSlice sec) w (cSet sec)
    let ms := smGetList Mark.clean s.cache.marks ((k * 256 + 64 * cSector sec) / 8) 8
    let bit := BitVec.ofNat 4 (2 ^ cSector sec)
    let x := s.cline k
    if !x.d.getLsbD (cSector sec) && ms.any (fun m => decide (m = .ue)) then
      if x.v &&& ~~~bit = 0 then s.lineDrop (cSlice sec) w (cSet sec) else s.setCline k { x with v := x.v &&& ~~~bit }
    else s
  | none => s

/-- Serve a request to the cache whose sectors are held (R218): hits update the pseudo-LRU. -/
def State.serveHeld (s : State) (r : MemReq) : Served :=
  let sl := cSlice r.addr
  let s := match s.cFind r.addr with
    | some w => s.plruUse sl (cSet r.addr) w
    | none => s
  if r.write then
    let s := (reqSectors r).foldl (fun s sec => s.sectorDirty sec) s
    (s.writeWords (unitCache sl) r, .ok, [])
  else
    let x := s.readWords (unitCache sl) r
    (if x.2.2 then (reqSectors r).foldl (fun s sec => s.dropCleanUe sec) x.1 else x.1, if x.2.2 then .poisoned else .ok, x.2.1)

/-- The bytes of a sector after a write request. -/
def writtenOver (r : MemReq) (sec : Nat) (old : List Byte) : List Byte :=
  (List.range 64).map (fun i =>
    if r.addr ≤ sec + i ∧ sec + i < r.addr + r.len then (r.bytes.getD (sec + i - r.addr) none).getD (old.getD i 0) else old.getD i 0)

/-- Serve one sector of a request straight from external memory (R221): a partial write that meets poison is refused (R290). -/
def State.bypassSector (s : State) (r : MemReq) (sec : Nat) : Served :=
  match s.regionOf sec with
  | none => (s, .error, [])
  | some (rid, reg) =>
    if r.write && reqCovers r sec then ((s.ddrFlits sec true).lineWrite rid reg sec (writtenOver r sec []) (List.replicate 8 .clean), .ok, [])
    else
      let x := (s.ddrFlits sec false).lineFetch rid reg sec
      if r.write then
        if x.2.2.any Mark.bad then (x.1, .error, []) else ((x.1.ddrFlits sec true).lineWrite rid reg sec (writtenOver r sec x.2.1) x.2.2, .ok, [])
      else
        let lo := Nat.max r.addr sec
        let hi := Nat.min (r.addr + r.len) (sec + 64)
        (x.1, if x.2.2.any Mark.bad then .poisoned else .ok, (x.2.1.drop (lo - sec)).take (hi - lo))

/-- The worse of two answers. -/
def worse (a b : AnsKind) : AnsKind := if a = .ok then b else a

/-- Serve a request past a slice that is off (R221): halted while IO_RESET_N is low (R220). -/
def State.serveBypass (s : State) (r : MemReq) : Served :=
  if s.pins.ioRst then (s, .halted, [])
  else if r.write && (reqSectors r).any (fun sec => s.extBlocked sec) then (s, .waits, [])
  else if !s.ddrReach r.addr then (s, .waits, [])
  else (reqSectors r).foldl (fun (acc : Served) sec =>
      let x := acc.1.bypassSector r sec
      (x.1, worse acc.2.1 x.2.1, acc.2.2 ++ x.2.2)) (s, .ok, [])

/-- An external address that no endpoint backs: not READY, outside every region, or on a retired page (R33, R268). -/
def State.extAbsent (s : State) (a : Nat) : Bool :=
  !s.ddr.ready || (s.regionOf a).isNone || s.retiredPage 0 (a / 4096)

/-- The region of an address is being initialized: accesses wait (R282). -/
def State.extWaits (s : State) (a : Nat) : Bool :=
  match s.regionOf a with
  | some (_, reg) => decide (reg.st = .initializing)
  | none => false

/-- Serve a request for an external line that may be served now, fetching what it needs (R218, R220, R221, R224, R290): a fetch that would be halted
allocates nothing; without a way to use, the request waits. -/
def State.serveLine (s : State) (r : MemReq) : Served :=
  if s.sliceBypass (cSlice r.addr) then s.serveBypass r
  else
    let fetch := (reqSectors r).any (fun sec => s.mustFetch r sec)
    if fetch && s.pins.ioRst then (s, .halted, [])
    else if fetch && !s.ddrReach r.addr then (s, .waits, [])
    else match s.cAlloc r.addr with
      | (s, none) => (s, .waits, [])
      | (s, some w) =>
        let x := s.fetchAll r w
        if x.2 then (x.1, .error, []) else (x.1.coverAll r w).serveHeld r

/-- A request to the same line waits ahead (R219). -/
def State.lineWaits (s : State) (r : MemReq) : Bool := s.cache.waiting.any (fun w => decide (w.addr / 256 = r.addr / 256))

/-- Serve a request for external memory (R218, R219, R282): it waits behind an earlier request to its line and for a region that is being initialized; one
whose sectors are all held is a hit. -/
def State.serveExt (s : State) (r : MemReq) : Served :=
  if s.extAbsent r.addr then (s, .error, [])
  else if s.extWaits r.addr || s.lineWaits r then (s, .waits, [])
  else
    let s := s.vacate r.addr
    if s.stuckLine r.addr then (s, .waits, [])
    else if !s.sliceBypass (cSlice r.addr) && (reqSectors r).all (fun sec => s.sectorValid sec) then (s.cntHit (cSlice r.addr)).serveLine r
    else s.serveLine r

/-- Serve a scratch-lock request (R223, R224): only locked ways of a powered slice are backed; a way that is changing
waits. -/
def State.serveLockWin (s : State) (r : MemReq) : Served :=
  let o := r.addr - 0x1200000000
  let sl := o / 2 ^ 20
  let w := o / 2 ^ 16 % 16
  let set := o / 2 ^ 8 % 256
  if s.dom (domSlice sl) ≠ .on || s.retiredUnit (unitCache sl) || decide (w = 15) || smGet false s.cache.excl (lineKey sl w set) then
    (s, .error, [])
  else if (match smFind s.cache.trans sl with
      | some m => (m.getLsbD w) != ((s.lockMask sl).getLsbD w)
      | none => false) || s.marching (unitCache sl) then (s, .waits, [])
  else if !(s.lockMask sl).getLsbD w then (s, .error, [])
  else if r.write then (s.writeWords (unitCache sl) r, .ok, [])
  else
    let x := s.readWords (unitCache sl) r
    (x.1, if x.2.2 then .poisoned else .ok, x.2.1)

end Sys2Proof.Machine
end

