-- ==== Sys2Proof/Machine/Operands.lean ====
section
/-! DEFINITION. The operand forms of a cell's microinstruction: its fields, lane forms, and the pure results of the
operations of R52 and R53 on operand values. Nothing here reads the state. -/

namespace Sys2Proof.Machine

/-- A source code R41 defines: 0-26. -/
def srcOk (c : BitVec 5) : Bool := decide (c.toNat ≤ 26)

/-- A destination code R42 defines: 0-19. -/
def dstOk (c : BitVec 5) : Bool := decide (c.toNat ≤ 19)

/-- A destination a wide operation allows (R43): L0-L14 or Y. -/
def wideDstOk (c : BitVec 5) : Bool := decide (c.toNat ≤ 14) || decide (c.toNat = 16)

/-- A sequencing action R54 defines: 0-5. -/
def seqOk (c : BitVec 3) : Bool := decide (c.toNat ≤ 5)

/-- The roles of XT (R52). `field` carries which bits of it must be zero. -/
inductive XtRole where
  | lane | imm | src3
  | field (mask : BitVec 5)
deriving DecidableEq, Repr

/-- A microinstruction of a given XT role is one the loader accepts (R66), apart from checks that need the context. -/
def Micro.ok (m : Micro) (role : XtRole) (wide : Bool) : Bool :=
  let src (c : BitVec 5) : Bool := srcOk c && (decide (c.toNat ≠ 22) || decide (role = .imm))
  src m.sa && src m.sb && dstOk m.dst && (!wide || wideDstOk m.dst) && seqOk m.seq &&
  (match role with
   | .lane => decide (m.xt.toNat ≤ 2)
   | .imm => true
   | .src3 => srcOk m.xt && decide (m.xt.toNat ≠ 22)
   | .field mask => decide (m.xt &&& ~~~mask = 0))

/-- The 32 bits of a microinstruction (R40). -/
def Micro.word (op : Nat) (m : Micro) : Word :=
  BitVec.ofNat 32 (op * 2 ^ 26 + m.sa.toNat * 2 ^ 21 + m.sb.toNat * 2 ^ 16 + m.dst.toNat * 2 ^ 11 +
    m.xt.toNat * 2 ^ 6 + m.pred.toNat * 2 ^ 3 + m.seq.toNat)

/-- Width of a lane of a lane form (R52). -/
def laneWidth (form : BitVec 5) : Nat :=
  if form = 1 then 16 else if form = 2 then 8 else 32

/-- Lane `i`, `w` bits wide, of a word as a number (R53). -/
def laneU (w i : Nat) (a : Word) : Nat := a.toNat / 2 ^ (w * i) % 2 ^ w

/-- A `w`-bit number read as signed. -/
def toSigned (w n : Nat) : Int := if n < 2 ^ (w - 1) then (n : Int) else (n : Int) - (2 ^ w : Nat)

/-- A number narrowed to `w` bits. -/
def narrow (w : Nat) (x : Int) : Nat := (x % ((2 ^ w : Nat) : Int)).toNat

/-- Apply `f` to the numbers of each lane, lane 0 first. -/
def laneList (w : Nat) (f : Nat → Nat → Nat) (a b : Word) : List Nat :=
  (List.range (32 / w)).map (fun i => f (laneU w i a) (laneU w i b))

/-- Put lanes together, lane 0 first. -/
def laneJoin (w : Nat) : List Nat → Nat
  | [] => 0
  | x :: xs => x % 2 ^ w + 2 ^ w * laneJoin w xs

/-- A lane-wise operation (R53). -/
def laneMap (form : BitVec 5) (f : Nat → Nat → Nat → Nat) (a b : Word) : Word :=
  let w := laneWidth form
  BitVec.ofNat 32 (laneJoin w (laneList w (f w) a b))

/-- Some lane satisfies a condition. -/
def laneAny (form : BitVec 5) (f : Nat → Nat → Nat → Bool) (a b : Word) : Bool :=
  let w := laneWidth form
  (List.range (32 / w)).any (fun i => f w (laneU w i a) (laneU w i b))

/-- Clamp to the signed range of `w` bits. -/
def satS (w : Nat) (x : Int) : Int :=
  if x < -(2 ^ (w - 1) : Nat) then -(2 ^ (w - 1) : Nat)
  else if x > (2 ^ (w - 1) : Nat) - 1 then (2 ^ (w - 1) : Nat) - 1 else x

/-- Clamp to the unsigned range of `w` bits, with a floor of 0. -/
def satU (w : Nat) (x : Int) : Int :=
  if x < 0 then 0 else if x > (2 ^ w : Nat) - 1 then (2 ^ w : Nat) - 1 else x

/-- The exact sum or difference of two lanes, signed or unsigned. -/
def exactAS (signed sub : Bool) (w a b : Nat) : Int :=
  let x : Int := if signed then toSigned w a else a
  let y : Int := if signed then toSigned w b else b
  if sub then x - y else x + y

/-- One lane of a saturating operation (R53). -/
def satLane (signed sub : Bool) (w a b : Nat) : Nat :=
  let e := exactAS signed sub w a b
  narrow w (if signed then satS w e else satU w e)

/-- A lane of a saturating operation saturates (R53). -/
def satLaneHit (signed sub : Bool) (w a b : Nat) : Bool :=
  let e := exactAS signed sub w a b
  decide ((if signed then satS w e else satU w e) ≠ e)

/-- Wrapping lane sum and difference. -/
def addLane (w a b : Nat) : Nat := (a + b) % 2 ^ w
def subLane (w a b : Nat) : Nat := (a + 2 ^ w - b) % 2 ^ w

/-- Byte `i` of a word (R53). -/
def byteOf (i : Nat) (a : Word) : Nat := a.toNat / 2 ^ (8 * i) % 256

/-- DOT4: the exact sum of the byte products and the accumulator, wrapped to 32 bits (R53). -/
def dot4 (sgnA sgnB : Bool) (a b x : Word) : Word :=
  let term (i : Nat) : Int :=
    (if sgnA then toSigned 8 (byteOf i a) else (byteOf i a : Int)) *
    (if sgnB then toSigned 8 (byteOf i b) else (byteOf i b : Int))
  BitVec.ofNat 32 (narrow 32 ((x.toNat : Int) + term 0 + term 1 + term 2 + term 3))

/-- The carry-less product of two words as a 64-bit number (R52). -/
def clmul (a b : Word) : BitVec 64 :=
  (List.range 32).foldl (fun acc i => if b.getLsbD i then acc ^^^ (a.zeroExtend 64 <<< i) else acc) 0

/-- CRCR8 (R53): reflected CRC over one byte. -/
def crcR8 (a b x : Word) : Word :=
  (List.range 8).foldl (fun r _ => if r.getLsbD 0 then (r >>> 1) ^^^ x else r >>> 1)
    (a ^^^ (b &&& 0xFF#32))

/-- CRCN8 (R53): normal CRC over one byte. -/
def crcN8 (a b x : Word) : Word :=
  (List.range 8).foldl (fun r _ => if r.getLsbD 31 then (r <<< 1) ^^^ x else r <<< 1)
    (a ^^^ ((b &&& 0xFF#32) <<< 24))

/-- The number of one bits. -/
def popCount (a : Word) : Nat := (List.range 32).countP (fun i => a.getLsbD i)

/-- The number of leading zeros, 32 for zero. -/
def leadZeros (a : Word) : Nat :=
  ((List.range 32).takeWhile (fun i => !a.getLsbD (31 - i))).length

/-- BFX (R53): position X[4:0], width X[9:5] + 1. -/
def bfPos (x : Word) : Nat := x.toNat % 32
def bfWid (x : Word) : Nat := x.toNat / 32 % 32 + 1
def bfx (a x : Word) : Word := BitVec.ofNat 32 (a.toNat / 2 ^ bfPos x % 2 ^ bfWid x)
def bfxs (a x : Word) : Word :=
  BitVec.ofNat 32 (narrow 32 (toSigned (bfWid x) (a.toNat / 2 ^ bfPos x % 2 ^ bfWid x)))
/-- BFI (R53): bits of the field above bit 31 are dropped. -/
def bfi (a b x : Word) : Word :=
  let mask : Word := BitVec.ofNat 32 ((2 ^ bfWid x - 1) * 2 ^ bfPos x)
  let fld : Word := BitVec.ofNat 32 (b.toNat % 2 ^ bfWid x * 2 ^ bfPos x)
  (a &&& ~~~mask) ||| (fld &&& mask)

/-- PERM (R53): each byte selected by a nibble of X. -/
def perm (a b x : Word) : Word :=
  let pick (i : Nat) : Nat :=
    let n := x.toNat / 2 ^ (4 * i) % 16
    if n < 4 then byteOf n a else if n < 8 then byteOf (n - 4) b else 0
  BitVec.ofNat 32 (laneJoin 8 [pick 0, pick 1, pick 2, pick 3])

/-- FSHL and FSHR (R52): a word of the pair {SA, SB} shifted by X[4:0]. -/
def fshl (a b x : Word) : Word :=
  BitVec.ofNat 32 ((a.toNat * 2 ^ 32 + b.toNat) * 2 ^ (x.toNat % 32) / 2 ^ 32)
def fshr (a b x : Word) : Word :=
  BitVec.ofNat 32 ((a.toNat * 2 ^ 32 + b.toNat) / 2 ^ (x.toNat % 32))

/-- Rotate right by SB[4:0]. -/
def ror (a b : Word) : Word :=
  let k := b.toNat % 32
  BitVec.ofNat 32 (a.toNat / 2 ^ k + a.toNat * 2 ^ (32 - k))

/-- All ones or zero in a lane, for compares (R52). -/
def cmpLane (f : Nat → Nat → Nat → Bool) (w a b : Nat) : Nat := if f w a b then 2 ^ w - 1 else 0

end Sys2Proof.Machine
end

