-- ==== Sys2Proof/WellFormed.lean ====
section
/-! DEFINITION. Well-formed commands: every unit, slot and index named is one the spec's numbering has, every microinstruction code one the spec
defines, every request within one aligned 256-byte block (R27, R28, R40-R43, R54, R216, R418, R467). -/

namespace Sys2Proof

/-- The codes of a microinstruction are defined (R41, R42, R54). -/
def Micro.wf (m : Micro) : Bool :=
  Machine.srcOk m.sa && Machine.srcOk m.sb && Machine.dstOk m.dst && Machine.seqOk m.seq

/-- A cluster that is an interface exists (R16, R27). -/
def Iface.wf : Iface → Bool
  | .fabric c => decide (c < 1024)
  | _ => true

/-- The master of a request exists (R227). -/
def Master.wf : Master → Bool
  | .cluster c => decide (c < 1024)
  | .dma ch => decide (ch < 64)
  | .lane g => decide (g < 12)
  | _ => true

/-- A memory request covers at least one byte of one aligned 256-byte block, and a write gives as many bytes as it is long (R216). -/
def MemReq.wf (r : MemReq) : Bool :=
  r.master.wf && decide (r.addr < 2 ^ 48) && decide (0 < r.len) && decide (r.addr % 256 + r.len ≤ 256) &&
  (!r.write || decide (r.bytes.length = r.len))

/-- A register whose write takes a grant (R401): those of the SEC block, and DDR_RENT0. -/
def grantReg (a : Nat) : Bool :=
  [Machine.SEC_KEYPROG, Machine.SEC_AUTH, Machine.SEC_FPOL, Machine.SEC_ARBSET, Machine.SEC_RPOL, Machine.SEC_DBG, Machine.DDR_RENT 0].contains a

/-- The well-formedness of every command. -/
def Instr.wf : Instr → Bool
  | .nop c k m => decide (c < 1024) && decide (k < 32) && m.wf
  | .mov c k m => decide (c < 1024) && decide (k < 32) && m.wf
  | .add c k m => decide (c < 1024) && decide (k < 32) && m.wf
  | .adc c k m => decide (c < 1024) && decide (k < 32) && m.wf
  | .sub c k m => decide (c < 1024) && decide (k < 32) && m.wf
  | .sbc c k m => decide (c < 1024) && decide (k < 32) && m.wf
  | .sadd c k m => decide (c < 1024) && decide (k < 32) && m.wf
  | .ssub c k m => decide (c < 1024) && decide (k < 32) && m.wf
  | .uadd c k m => decide (c < 1024) && decide (k < 32) && m.wf
  | .usub c k m => decide (c < 1024) && decide (k < 32) && m.wf
  | .and c k m => decide (c < 1024) && decide (k < 32) && m.wf
  | .or c k m => decide (c < 1024) && decide (k < 32) && m.wf
  | .xor c k m => decide (c < 1024) && decide (k < 32) && m.wf
  | .andn c k m => decide (c < 1024) && decide (k < 32) && m.wf
  | .shl c k m => decide (c < 1024) && decide (k < 32) && m.wf
  | .shr c k m => decide (c < 1024) && decide (k < 32) && m.wf
  | .sar c k m => decide (c < 1024) && decide (k < 32) && m.wf
  | .ror c k m => decide (c < 1024) && decide (k < 32) && m.wf
  | .fshl c k m => decide (c < 1024) && decide (k < 32) && m.wf
  | .fshr c k m => decide (c < 1024) && decide (k < 32) && m.wf
  | .cmpeq c k m => decide (c < 1024) && decide (k < 32) && m.wf
  | .cmplt c k m => decide (c < 1024) && decide (k < 32) && m.wf
  | .cmpltu c k m => decide (c < 1024) && decide (k < 32) && m.wf
  | .min c k m => decide (c < 1024) && decide (k < 32) && m.wf
  | .max c k m => decide (c < 1024) && decide (k < 32) && m.wf
  | .minu c k m => decide (c < 1024) && decide (k < 32) && m.wf
  | .maxu c k m => decide (c < 1024) && decide (k < 32) && m.wf
  | .sel c k m => decide (c < 1024) && decide (k < 32) && m.wf
  | .bsel c k m => decide (c < 1024) && decide (k < 32) && m.wf
  | .tst c k m => decide (c < 1024) && decide (k < 32) && m.wf
  | .mul c k m => decide (c < 1024) && decide (k < 32) && m.wf
  | .mulw c k m => decide (c < 1024) && decide (k < 32) && m.wf
  | .mulwu c k m => decide (c < 1024) && decide (k < 32) && m.wf
  | .dot4ss c k m => decide (c < 1024) && decide (k < 32) && m.wf
  | .dot4uu c k m => decide (c < 1024) && decide (k < 32) && m.wf
  | .dot4su c k m => decide (c < 1024) && decide (k < 32) && m.wf
  | .clmull c k m => decide (c < 1024) && decide (k < 32) && m.wf
  | .clmulh c k m => decide (c < 1024) && decide (k < 32) && m.wf
  | .crcr8 c k m => decide (c < 1024) && decide (k < 32) && m.wf
  | .crcn8 c k m => decide (c < 1024) && decide (k < 32) && m.wf
  | .clz c k m => decide (c < 1024) && decide (k < 32) && m.wf
  | .popc c k m => decide (c < 1024) && decide (k < 32) && m.wf
  | .bfx c k m => decide (c < 1024) && decide (k < 32) && m.wf
  | .bfxs c k m => decide (c < 1024) && decide (k < 32) && m.wf
  | .bfi c k m => decide (c < 1024) && decide (k < 32) && m.wf
  | .perm c k m => decide (c < 1024) && decide (k < 32) && m.wf
  | .tcon c k m => decide (c < 1024) && decide (k < 32) && m.wf
  | .temit c k m => decide (c < 1024) && decide (k < 32) && m.wf
  | .ldc c k m => decide (c < 1024) && decide (k < 32) && m.wf
  | .stc c k m => decide (c < 1024) && decide (k < 32) && m.wf
  | .rld c k m => decide (c < 1024) && decide (k < 32) && m.wf
  | .rst c k m => decide (c < 1024) && decide (k < 32) && m.wf
  | .rsp c k m => decide (c < 1024) && decide (k < 32) && m.wf
  | .ldlc c k m => decide (c < 1024) && decide (k < 32) && m.wf
  | .getf c k m => decide (c < 1024) && decide (k < 32) && m.wf
  | .setf c k m => decide (c < 1024) && decide (k < 32) && m.wf
  | .psw c k m => decide (c < 1024) && decide (k = 0) && m.wf
  | .tend c k m => decide (c < 1024) && decide (k < 32) && m.wf
  | .rldResponse c slot => decide (c < 1024) && decide (slot < 16)
  | .taskStart _ => true
  | .taskWatchdog _ => true
  | .commitPoint _ => true
  | .drainStoreAck _ => true
  | .drainTokenAccept _ _ => true
  | .tokenArrival _ => true
  | .clrSticky _ => true
  | .clrFlow _ => true
  | .cancelToken _ => true
  | .errholdRelease => true
  | .mstSizeWrite p _ => decide (p.getD 0 < 8)
  | .dispatchCycle => true
  | .loadUpdate => true
  | .fillGrant bus => decide (bus < 64)
  | .fillComplete bus => decide (bus < 64)
  | .contextRestoreEnd ctx _ => decide (ctx < 4096)
  | .planeAgeStep => true
  | .pinEnable c e _ => decide (c < 1024) && decide (e < 2)
  | .pinRelease c e _ => decide (c < 1024) && decide (e < 2)
  | .planeSweep region => decide (region < 64)
  | .enqueue q _ => decide (q < 262144)
  | .dequeue q => decide (q < 262144)
  | .queueRecordWrite i _ => i.wf
  | .flowPush i _ => i.wf
  | .flowPop i => i.wf
  | .flowOrdWrite i _ => i.wf
  | .flowWmqRead i => i.wf
  | .packetHop net node x => Machine.nodeOk net node && decide (x.out < 16)
  | .urgencyStep _ => true
  | .bounceResend _ => true
  | .regAccess i addr _ _ => i.wf && decide (addr < 2 ^ 48)
  | .portDrainRequest i => i.wf
  | .portDrainCancel i => i.wf
  | .portDrained net node port => Machine.portOk ⟨net, node, port⟩
  | .portDrainTo net node port => Machine.portOk ⟨net, node, port⟩
  | .portWake net node port => Machine.portOk ⟨net, node, port⟩
  | .portReady net node port => Machine.portOk ⟨net, node, port⟩
  | .routerFreeze i => i.wf
  | .routerFrozen net node => Machine.nodeOk net node
  | .routerUnfreeze i => i.wf
  | .nocRcfgWrite i _ => i.wf
  | .cacheRequest r => r.wf
  | .sectorFetchResponse addr => decide (addr < 2 ^ 48)
  | .cacheLockWrite i _ => i.wf
  | .lockTransitionEnd slice => decide (slice < 256)
  | .cacheClean _ => true
  | .cacheInval _ => true
  | .cacheCleanInv _ => true
  | .mopDone => true
  | .spadRequest r => r.wf && Machine.isSpadPlain r.addr
  | .spadAliasWrite r => r.wf && Machine.isSpad r.addr && !Machine.isSpadPlain r.addr
  | .spadBankWrite n _ => decide (n < 128)
  | .mergeFlushTimeout _ addr => decide (addr < 2 ^ 48)
  | .ceWriteback _ => true
  | .garnetRead r => r.wf && Machine.isGarnet r.addr
  | .garnetWrite r => r.wf && Machine.isGarnet r.addr
  | .garnetRowWriteout sector _ _ => decide (sector < 8)
  | .garnetFence i => i.wf
  | .fenceComplete => true
  | .pwrFailFall => true
  | .pfDone => true
  | .pwrFailRise => true
  | .scrubStart _ => true
  | .scrubStop => true
  | .scrubBlock => true
  | .backgroundScrub _ _ => true
  | .eccMbflush i => i.wf
  | .retireEntryWrite i _ => i.wf
  | .marchStart _ => true
  | .marchDone _ => true
  | .ddrTrain => true
  | .trainDone _ => true
  | .mr4Poll _ => true
  | .ddrPowerDown ch => decide (ch < 16)
  | .ddrSelfRefresh ch => decide (ch < 16)
  | .regionCommit i _ => i.wf
  | .regionInitDone r => decide (r < 32)
  | .kidAlloc i => i.wf
  | .kidRetire _ => true
  | .kidFree kid => decide (kid < 64)
  | .rekeyStart _ => true
  | .rekeyDone => true
  | .nokidRetry r => decide (r < 32)
  | .sysInj _ => true
  | .checkerReadback _ => true
  | .supvRestart => true
  | .flintFix tile frame => decide (tile < 2) && decide (frame < 131072)
  | .mzNop part cell _ => decide (part < 4) && decide (cell < 640)
  | .mzPass part cell _ => decide (part < 4) && decide (cell < 640)
  | .mzAdd part cell _ => decide (part < 4) && decide (cell < 640)
  | .mzAdc part cell _ => decide (part < 4) && decide (cell < 640)
  | .mzSub part cell _ => decide (part < 4) && decide (cell < 640)
  | .mzSbc part cell _ => decide (part < 4) && decide (cell < 640)
  | .mzAnd part cell _ => decide (part < 4) && decide (cell < 640)
  | .mzOr part cell _ => decide (part < 4) && decide (cell < 640)
  | .mzXor part cell _ => decide (part < 4) && decide (cell < 640)
  | .mzShl part cell _ => decide (part < 4) && decide (cell < 640)
  | .mzShr part cell _ => decide (part < 4) && decide (cell < 640)
  | .mzSar part cell _ => decide (part < 4) && decide (cell < 640)
  | .mzMul part cell _ => decide (part < 4) && decide (cell < 640)
  | .mzMulh part cell _ => decide (part < 4) && decide (cell < 640)
  | .mzCmpeq part cell _ => decide (part < 4) && decide (cell < 640)
  | .mzCmplt part cell _ => decide (part < 4) && decide (cell < 640)
  | .mzSel part cell _ => decide (part < 4) && decide (cell < 640)
  | .mzMin part cell _ => decide (part < 4) && decide (cell < 640)
  | .mzMax part cell _ => decide (part < 4) && decide (cell < 640)
  | .hostBusRead part _ => decide (part < 6)
  | .hostBusWrite part _ _ => decide (part < 6)
  | .cfgdWrite part _ => decide (part < 6)
  | .mzPad part _ => decide (part < 4)
  | .mzIdent part _ => decide (part < 4)
  | .mzSeek part _ => decide (part < 4)
  | .mzFill part _ => decide (part < 4)
  | .mzMode part _ => decide (part < 4)
  | .mzIv part _ => decide (part < 4)
  | .mzCheck part _ => decide (part < 4)
  | .mzRestart part _ => decide (part < 4)
  | .mzGo part _ => decide (part < 4)
  | .mzFinish part _ => decide (part < 4)
  | .mzGsrRelease part => decide (part < 4)
  | .mzProg part => decide (part < 6)
  | .mailboxFormToken tile m => decide (tile < 2) && decide (m < 16)
  | .mailboxPresent tile m => decide (tile < 2) && decide (m < 16)
  | .mailboxTake tile m => decide (tile < 2) && decide (m < 16)
  | .mailboxDiscard tile m => decide (tile < 2) && decide (m < 16)
  | .flintClkWrite tile _ => decide (tile < 2)
  | .mailboxConfigWrite tile _ _ => decide (tile < 2)
  | .porRelease st => decide (st.pulls.length ≤ 20)
  | .sysResetRelease => true
  | .presetWait _ => true
  | .startStepDone _ => true
  | .cfgLoad area _ => decide (area < 2)
  | .loadCommit _ => true
  | .cfgActivate slot => decide (slot < 2)
  | .cfgRollback => true
  | .cfgRestart _ => true
  | .cfgAbort => true
  | .cfgClrrej => true
  | .cfgConfirm i => i.wf
  | .confirmTimeout => true
  | .sessionOpen i _ => i.wf
  | .sessionSubmit i => i.wf
  | .sessionCancel i => i.wf
  | .sessionExpired => true
  | .grantedWrite i addr _ => i.wf && grantReg addr
  | .programImageKeyE i _ => i.wf
  | .programImageKeyB i _ => i.wf
  | .programMzKey i _ => i.wf
  | .programSigningHash i _ => i.wf
  | .revokeSigningHash i _ => i.wf
  | .secGenesis i _ => i.wf
  | .enrolAuthority i _ => i.wf
  | .revokeAuthority i _ => i.wf
  | .fusePolicyWrite i _ => i.wf
  | .arbsetWrite i _ => i.wf
  | .rpolWrite i _ => i.wf
  | .secScanen i _ => i.wf
  | .clockMonitorWindow _ => true
  | .clockNoEdge clk => decide (clk < 76)
  | .dawnCalibration _ => true
  | .zenithReady => true
  | .clkReturn => true
  | .clockGateClose dom => decide (dom < 1483)
  | .cgTimeout dom => decide (dom < 1483)
  | .clkObsWrite _ => true
  | .pwrReqAuto i => i.wf
  | .pwrReqOn i => i.wf
  | .pwrReqOff i => i.wf
  | .pwrDselWrite i _ => i.wf
  | .domainSwitchOff dom => decide (dom < 1483)
  | .cirrusEntry c => decide (c < 1024)
  | .stratusEntry c => decide (c < 1024)
  | .nimbusEntry c => decide (c < 1024)
  | .clusterWake c => decide (c < 1024)
  | .pwrOppWrite r _ => decide (r < 64)
  | .oppTransition r => decide (r < 64)
  | .pwrCpolWrite _ => true
  | .thermalSample _ _ _ => true
  | .thermResume => true
  | .brokenClear sensor => decide (sensor < 52)
  | .thermtrip => true
  | .ageMeasurement _ => true
  | .ageMeasure _ => true
  | .dataBlock lane _ _ => decide (lane < 48)
  | .laneIdle lane => decide (lane < 48)
  | .laneSleep lane => decide (lane < 48)
  | .laneStart lane _ => decide (lane < 48)
  | .laneTerm lane _ => decide (lane < 48)
  | .laneXoff lane => decide (lane < 48)
  | .laneXon lane => decide (lane < 48)
  | .laneDframe lane _ => decide (lane < 48)
  | .laneDend lane _ => decide (lane < 48)
  | .laneMarker lane _ => decide (lane < 48)
  | .rawEgressFrame lane => decide (lane < 48)
  | .dalyelTransmit lane => decide (lane < 48)
  | .dalyelResendTimeout lane => decide (lane < 48)
  | .dalyelAckFrame lane => decide (lane < 48)
  | .hazeEntry lane => decide (lane < 48)
  | .duskEntry lane => decide (lane < 48)
  | .laneLcfgWrite i _ => i.wf
  | .laneGrateWrite g _ => decide (g < 12)
  | .laneInj lane => decide (lane < 48)
  | .haloFrame f => decide (f.payload.length ≤ 64)
  | .haloEnum => true
  | .haloTime => true
  | .haloNomst => true
  | .haloTxGo _ => true
  | .haloLost => true
  | .haloRxPop => true
  | .haloBoltGo => true
  | .pcieMemRead bar _ _ => decide (bar < 6)
  | .pcieMemWrite bar _ _ _ => decide (bar < 6)
  | .hostTimeout i addr _ => i.wf && decide (addr < 2 ^ 48)
  | .perst => true
  | .functionLevelReset => true
  | .dmaTailWrite ch _ => decide (ch < 64)
  | .dmaCopy ch => decide (ch < 64)
  | .dmaTokin ch => decide (ch < 64)
  | .dmaTokout ch => decide (ch < 64)
  | .dmaDescriptorDone ch => decide (ch < 64)
  | .dmaResume ch => decide (ch < 64)
  | .dmaSkip ch => decide (ch < 64)
  | .dmaStop ch => decide (ch < 64)
  | .hpNativeRead _ => true
  | .hpNativeWrite _ _ => true
  | .hpWindowComplete => true
  | .hpWindowTimeout => true
  | .mirrorUpdate => true
  | .hpPush i _ => i.wf
  | .smbSetAddress _ _ => true
  | .smbRead _ => true
  | .smbWrite _ _ => true
  | .smbStatus => true
  | .gpioDataWrite b _ => decide (b < 20)
  | .gpioSet b _ => decide (b < 20)
  | .gpioClr b _ => decide (b < 20)
  | .gpioFoutWrite b _ => decide (b < 20)
  | .gpioFset b _ => decide (b < 20)
  | .gpioFclr b _ => decide (b < 20)
  | .gpioFselWrite b _ => decide (b < 20)
  | .gpioEventEdge b _ => decide (b < 20)
  | .gpioHoldWrite _ => true
  | .strataRtcWrite i _ => i.wf
  | .statisticSample idx _ => decide (idx < 724)
  | .checkpointTimer => true
  | .strataCkpt => true
  | .strataClrrec _ => true
  | .strataClrstat idx => decide (idx < 1024)
  | .boltIn => true
  | .snapBolt => true
  | .boltLatch _ => true
  | .snapRearm => true
  | .bistTestStart die _ => decide (die < 2)
  | .bistSignatureCheck die _ => decide (die < 2)
  | .bistInterrupt die => decide (die < 2)
  | .bistUnfence c _ => decide (c < 1024)
  | .bistTest c => decide (c < 1024)
  | .porAssert => true
  | .sysResetAssert => true
  | .ioResetAssert => true
  | .ioResetRelease => true
  | .supplyMonitorDrop _ => true
  | .clusterReset _ => true
  | .clwMdataRead i c => i.wf && decide (c < 1024)
  | .mdataTimeout i c => i.wf && decide (c < 1024)
  | .pairLowRead i addr => i.wf && decide (addr < 2 ^ 48)
  | .pairLowWrite i addr _ => i.wf && decide (addr < 2 ^ 48)
  | .pairHighWrite i addr _ => i.wf && decide (addr < 2 ^ 48)
  | .registerWrite i addr _ => i.wf && decide (addr < 2 ^ 48)
  | .vppSlateReturn => true
  | .aonSupplyLoss => true
  | .pcieLinkChange _ _ _ => true
  | .hostCompletion ch _ _ => decide (ch < 64)
  | .completionTimeout ch => decide (ch < 64)
  | .prbsReceive lane _ => decide (lane < 48)
  | .rawEgressEmptyTimeout lane => decide (lane < 48)
  | .supvRestartDone => true
  | .jtagInstruction _ => true
  | .refreshInterval ch => decide (ch < 16)

end Sys2Proof
end

