-- ==== Sys2Proof/Decode.lean ====
section
/-! DEFINITION. Commands spelled by words: no row of spec/opcode_table.json gives bits, so no word spells a command. Beside it stand the words
whose bits the spec does give: a microinstruction (R40), an MZ entry (R324), read back into their fields. -/

namespace Sys2Proof

/-- The command a word spells by the table's bits: none, since no row gives bits. -/
def decodeTableWord (_nbits _w : Nat) : Option Instr := none

/-- The OP and the fields of a microinstruction word (R40). -/
def microOf (w : Word) : Nat × Micro :=
  (w.toNat / 2 ^ 26,
   { sa := BitVec.ofNat 5 (w.toNat / 2 ^ 21), sb := BitVec.ofNat 5 (w.toNat / 2 ^ 16), dst := BitVec.ofNat 5 (w.toNat / 2 ^ 11)
     xt := BitVec.ofNat 5 (w.toNat / 2 ^ 6), pred := BitVec.ofNat 3 (w.toNat / 2 ^ 3), seq := BitVec.ofNat 3 w.toNat })

/-- The OP and the fields of an MZ entry word (R324: bit 16 is ignored). -/
def mzEntryOf (w : Word) : Nat × MzEntry :=
  (w.toNat / 2 ^ 27,
   { sa := BitVec.ofNat 3 (w.toNat / 2 ^ 24), sb := BitVec.ofNat 3 (w.toNat / 2 ^ 21), wacc := w.getLsbD 20, lde := w.getLsbD 19
     next := BitVec.ofNat 2 (w.toNat / 2 ^ 17), imm := BitVec.ofNat 16 w.toNat })

/-- The word of an MZ entry, bit 16 zero (R324). -/
def mzEntryWord (op : Nat) (e : MzEntry) : Word :=
  BitVec.ofNat 32 (op * 2 ^ 27 + e.sa.toNat * 2 ^ 24 + e.sb.toNat * 2 ^ 21 + Bool.bit e.wacc * 2 ^ 20 + Bool.bit e.lde * 2 ^ 19 +
    e.next.toNat * 2 ^ 17 + e.imm.toNat)

end Sys2Proof
end

