-- ==== Sys2Proof/Machine/Flags.lean ====
section
/-! DEFINITION. The flag computations of R52 and R53, as updates: a flag an operation does not list is unchanged. -/

namespace Sys2Proof.Machine

/-- What an operation does to each flag: `none` leaves it. -/
structure FlagUpd where
  c : Option Bool := none
  v : Option Bool := none
  n : Option Bool := none
  z : Option Bool := none
  p : Option Bool := none
  s : Option Bool := none
deriving DecidableEq, Repr

/-- Apply an update. -/
def FlagUpd.apply (u : FlagUpd) (f : Flags) : Flags :=
  { c := u.c.getD f.c, v := u.v.getD f.v, n := u.n.getD f.n, z := u.z.getD f.z, p := u.p.getD f.p,
    s := u.s.getD f.s }

/-- No flag changes. -/
def FlagUpd.none : FlagUpd := {}

/-- N and Z of a whole 32-bit result (R53). -/
def flagsNZ (r : Word) : FlagUpd := { n := some (r.getLsbD 31), z := some (decide (r = 0)) }

/-- N and Z of a 64-bit product (R53). -/
def flagsNZ64 (r : BitVec 64) : FlagUpd := { n := some (r.getLsbD 63), z := some (decide (r = 0)) }

/-- Z only. -/
def flagsZ (r : Word) : FlagUpd := { z := some (decide (r = 0)) }

/-- C, V, N, Z of the sum SA + SB + cin; a subtraction passes NOT SB (R53: C = 1 means no borrow). -/
def flagsAdd (a b : Word) (cin : Bool) : FlagUpd :=
  let r : Word := a + b + BitVec.ofNat 32 (Bool.bit cin)
  { c := some (decide (a.toNat + b.toNat + Bool.bit cin ≥ 2 ^ 32))
    v := some (decide (a.getLsbD 31 = b.getLsbD 31) && decide (r.getLsbD 31 ≠ a.getLsbD 31))
    n := some (r.getLsbD 31)
    z := some (decide (r = 0)) }

/-- The flags of ADD and SUB: with several lanes only N and Z (R53). -/
def flagsLaneAdd (form : BitVec 5) (a b : Word) (cin : Bool) (r : Word) : FlagUpd :=
  if form = 0 then flagsAdd a b cin else flagsNZ r

/-- S, N, Z of a saturating operation: S is set, never cleared (R53). -/
def flagsSat (hit : Bool) (r : Word) : FlagUpd :=
  { n := some (r.getLsbD 31), z := some (decide (r = 0)), s := if hit then some true else none }

/-- C, N, Z of a shift: a shift by 0 leaves C (R53). -/
def flagsShift (k : Nat) (out : Bool) (r : Word) : FlagUpd :=
  { c := if k = 0 then none else some out, n := some (r.getLsbD 31), z := some (decide (r = 0)) }

/-- The flags word of GETF and SETF (R53). -/
def Flags.word (f : Flags) : Word :=
  BitVec.ofNat 32 (Bool.bit f.c + 2 * Bool.bit f.v + 4 * Bool.bit f.n + 8 * Bool.bit f.z +
    16 * Bool.bit f.p + 32 * Bool.bit f.s)

/-- The flags a flags word sets (R53, R64 FLAGINIT). -/
def Flags.ofWord (w : Word) : Flags :=
  ⟨w.getLsbD 0, w.getLsbD 1, w.getLsbD 2, w.getLsbD 3, w.getLsbD 4, w.getLsbD 5⟩

/-- All flags replaced. -/
def flagsAll (f : Flags) : FlagUpd :=
  { c := some f.c, v := some f.v, n := some f.n, z := some f.z, p := some f.p, s := some f.s }

/-- A predicate holds on the flags at the start of the issue cycle (R44). -/
def predHolds (p : BitVec 3) (f : Flags) : Bool :=
  match p.toNat with
  | 0 => true
  | 1 => f.p
  | 2 => !f.p
  | 3 => f.c
  | 4 => !f.c
  | 5 => f.z
  | 6 => !f.z
  | _ => f.n

end Sys2Proof.Machine
end

