-- ==== Sys2Proof/Machine/SpadOps.lean ====
section
/-! DEFINITION. The scratchpad banks (R226-R236): ownership, plain accesses, alias writes. -/

namespace Sys2Proof.Machine

/-- The master code of a requester (R227); none for a device agent. -/
def masterCode : Master → Option Nat
  | .cluster c => some (regionIdx c)
  | .dma ch => some (0x40 + ch)
  | .pcie => some 0x80
  | .hp => some 0x81
  | .lane g => some (0x90 + g)
  | .agent => none
  | .strata => none

/-- A request is allowed by owner and sharing (R228). -/
def spadAllowed (bank : Word) (m : Master) (write : Bool) : Bool :=
  match masterCode m with
  | none => true
  | some code => decide (fld bank 7 0 = code) || (!write && tb bank 8 && decide (fld bank 7 0 ≠ 0xFF))

/-- Plain offset of a scratchpad address. -/
def spadOff (a : Nat) : Nat := (a - 0x1000000000) % 0x4000000

/-- Count and capture a refusal (R231). -/
def State.spadRefuse (s : State) (r : MemReq) (bank : Nat) (write : Bool) : State :=
  let s := s.bump SPAD_VCOUNT SPAD_CNTOVF 0
  let s := if tb (s.rd SPAD_STATUS) 0 then s
    else (s.wr64 SPAD_VADDR_LO r.addr).wr SPAD_VINFO
      (BitVec.ofNat 32 (bank * 2 ^ 16 + (masterCode r.master).getD 0 * 2 ^ 8 + Bool.bit write))
  s.setBits SPAD_STATUS 1

/-- Wake requests for a domain (R236). -/
def State.wakeDom (s : State) (d : Nat) : State :=
  if s.pwr.waking.contains d then s else { s with pwr := { s.pwr with waking := s.pwr.waking ++ [d] } }

/-- Apply OR or AND NOT to the given bytes of a word. -/
def aliasBytes (clear : Bool) (old : List Byte) (bs : List (Option Byte)) : List (Option Byte) :=
  (List.range 8).map (fun i =>
    match bs.getD i none with
    | some d => some (if clear then old.getD i 0 &&& ~~~d else old.getD i 0 ||| d)
    | none => none)

/-- One row of an alias write (R232-R234): merge entries flushed, every word corrected and written again; a row with an unusable word is not written. -/
def State.aliasRow (s : State) (clear : Bool) (unit : Nat) (r : MemReq) (row : Nat) : State × Bool :=
  let plain := 0x1000000000 + row
  let s := s.flushRange plain (plain + 32)
  let ms := (List.range 4).map (fun i => s.wMark (.spad (row + 8 * i)))
  let s := (List.range 4).foldl (fun s i => s.noteMark (ms.getD i .clean) unit (plain + 8 * i) 0) s
  if ms.any Mark.bad then (s, false)
  else
    ((List.range 4).foldl (fun s i =>
      let w := r.addr / 32 * 32 - spadOff r.addr / 32 * 32 + row + 8 * i
      s.wPut (.spad (row + 8 * i)) (aliasBytes clear (s.spad.word (row + 8 * i)) (reqWord r w)) .clean) s, true)

/-- An alias write, row by row (R232); it ends at the first row that cannot be written. -/
def State.aliasWrite (s : State) (clear : Bool) (unit : Nat) (r : MemReq) : Served :=
  let o := spadOff r.addr
  let rows := (List.range ((o + r.len + 31) / 32 - o / 32)).map (fun i => 32 * (o / 32 + i))
  let out := rows.foldl (fun (acc : State × Bool) row =>
    if acc.2 then acc.1.aliasRow clear unit r row else acc) (s, true)
  (out.1, if out.2 then .ok else .error, [])

/-- Serve a scratchpad request (R226, R228, R232, R236, R268). -/
def State.serveSpad (s : State) (r : MemReq) : Served :=
  let o := spadOff r.addr
  let n := o / 2 ^ 19
  let win := (r.addr - 0x1000000000) / 0x4000000
  let unit := unitSpad n
  if s.retiredPage 1 (o / 4096) || s.retiredUnit unit then (s, .error, [])
  else if s.dom (domBank n) ≠ .on then (s.wakeDom (domBank n), .waits, [])
  else if s.marching unit then (s, .waits, [])
  else if !spadAllowed (s.rd (SPAD_BANK n)) r.master r.write then (s.spadRefuse r n r.write, .error, [])
  else if r.write then
    if win = 0 then (s.writeWords unit r, .ok, [])
    else s.aliasWrite (decide (win = 2)) unit r
  else
    let x := s.readWords unit { r with addr := 0x1000000000 + o }
    (x.1, if x.2.2 then .poisoned else .ok, x.2.1)

end Sys2Proof.Machine
end

