-- ==== Sys2Proof/Machine/GarnetOps.lean ====
section
/-! DEFINITION. The Garnet bank (R237-R244): reads, buffered writes, row write-out, wear, fences; and the one way in
for a memory request of any range (R216, R32, R33). -/

namespace Sys2Proof.Machine

def garnetOff (a : Nat) : Nat := a - 0x1100000000
def garnetSector (off : Nat) : Nat := off / 256 % 8
/-- The recorder's MiB (R501). -/
def inStrataRegion (off : Nat) : Bool := decide (0x3F00000 ≤ off)

/-- The 64 bytes a reader of a row sees, and whether the row is unusable. -/
def State.garnetRow (s : State) (row : Nat) : List Byte × Mark :=
  match s.garnet.wbuf.find? (fun x => decide (x.row = row)) with
  | some x => (x.bytes, if x.bad then .poison else .clean)
  | none => (smGetList 0 s.garnet.arr (64 * row) 64, smGet Mark.clean s.garnet.marks row)

/-- Rows of a sector in the write buffer (R238). -/
def State.sectorRows (s : State) (sector : Nat) : List WbRow :=
  s.garnet.wbuf.filter (fun x => decide (garnetSector (64 * x.row) = sector))

/-- Garnet writes are refused now (R241, R527). -/
def State.garnetShut (s : State) : Bool := s.garnet.pf || s.pins.vppLost

/-- Merge the bytes of a request into one row of the write buffer (R238, R249): a row the buffer holds takes them, another enters it. -/
def State.garnetMerge (s : State) (r : MemReq) (row : Nat) : State :=
  let base := 0x1100000000 + 64 * row
  let given (i : Nat) : Option Byte :=
    if r.addr ≤ base + i ∧ base + i < r.addr + r.len then r.bytes.getD (base + i - r.addr) none else none
  let x := s.garnetRow row
  let bs := (List.range 64).map (fun i => (given i).getD (x.1.getD i 0))
  let whole := (List.range 64).all (fun i => (given i).isSome)
  let new : WbRow := ⟨row, bs, x.2.bad && !whole⟩
  if s.garnet.wbuf.any (fun y => decide (y.row = row)) then
    { s with garnet := { s.garnet with wbuf := s.garnet.wbuf.map (fun y => if y.row = row then new else y) } }
  else { s with garnet := { s.garnet with wbuf := s.garnet.wbuf ++ [new] } }

/-- The rows a request touches. -/
def garnetRows (r : MemReq) : List Nat :=
  let o := garnetOff r.addr
  (List.range ((o + r.len + 63) / 64 - o / 64)).map (fun i => o / 64 + i)

/-- The buffer rows of the sector take the request: those it holds already take their bytes at once, also while all 64 are taken (R238; log entry 43). -/
def State.garnetRoom (s : State) (r : MemReq) : Bool :=
  let new := (garnetRows r).filter (fun row => !s.garnet.wbuf.any (fun y => decide (y.row = row)))
  decide ((s.sectorRows (garnetSector (garnetOff r.addr))).length + new.length ≤ 64)

/-- An earlier write to the sector waits: its credit is withheld (R238). -/
def State.garnetQueued (s : State) (r : MemReq) : Bool :=
  s.garnet.waiting.any (fun w => decide (garnetSector (garnetOff w.addr) = garnetSector (garnetOff r.addr)))

/-- A write that may enter the buffer, or is refused (R238, R241, R244). -/
def State.garnetWrite (s : State) (r : MemReq) : Served :=
  if s.garnetShut || (garnetRows r).any (fun row => smGet false s.garnet.dead row) then (s, .error, [])
  else if s.garnetRoom r then ((garnetRows r).foldl (fun s row => s.garnetMerge r row) s, .ok, [])
  else (s, .waits, [])

/-- Serve a Garnet request (R237, R238, R241, R244, R268, R501). -/
def State.serveGarnet (s : State) (r : MemReq) : Served :=
  let o := garnetOff r.addr
  let sec := garnetSector o
  if s.retiredPage 2 (o / 4096) || (inStrataRegion o && decide (r.master ≠ .strata)) then (s, .error, [])
  else if s.dom (domSector sec) ≠ .on then (s.wakeDom (domSector sec), .waits, [])
  else if r.write then (if s.garnetQueued r then (s, .waits, []) else s.garnetWrite r)
  else
    let out := (garnetRows r).foldl (fun (acc : State × List Byte × Bool) row =>
      let x := acc.1.garnetRow row
      (acc.1.noteMark x.2 (unitGarnet sec) (0x1100000000 + 64 * row) 0, acc.2.1 ++ x.1, acc.2.2 || x.2.bad))
      (s, [], false)
    (out.1, if out.2.2 then .poisoned else .ok, (out.2.1.drop (o % 64)).take r.len)

/-! Row write-out and wear (R238, R243, R244) -/

/-- Wear of the most-written group (GARNET_WEARMAX). -/
def State.wearMax (s : State) : Nat :=
  (s.garnet.total.foldl (fun m e => Nat.max m e.2) 0) / 1025

/-- Count row writes of a group (R243, R247): WEAR_EV is set when the wear passes 8 x 10^7. -/
def State.countRow (s : State) (g n : Nat) : State :=
  let before := s.wearMax
  let s := { s with garnet := { s.garnet with total := smSet 0 s.garnet.total g (smGet 0 s.garnet.total g + n) } }
  let s := s.bump64N GARNET_WRITES_LO GARNET_CNTOVF 0 n
  if before ≤ 80000000 ∧ 80000000 < s.wearMax then s.setBits GARNET_STATUS 16 else s

/-- Move the gap after every 2^WLSHIFT row writes into a group (R243). -/
def State.moveGap (s : State) (g : Nat) : State :=
  let n := smGet 0 s.garnet.since g + 1
  if n ≥ 2 ^ fld (s.rd GARNET_WLCFG) 3 0 then
    let s := { s with garnet := { s.garnet with
      since := smDel s.garnet.since g, gap := smSet 0 s.garnet.gap g ((smGet 0 s.garnet.gap g + 1) % 1025) } }
    s.countRow g 1
  else { s with garnet := { s.garnet with since := smSet 0 s.garnet.since g n } }

/-- Write one buffered row to the array. `ok` says whether a verify passed; a row that fails twice takes a spare, or is
poisoned when the pool is empty (R244). -/
def State.rowOut (s : State) (x : WbRow) (ok : Bool) : State :=
  let g := x.row / 1024
  let s := { s with garnet := { s.garnet with
    wbuf := s.garnet.wbuf.filter (fun y => decide (y.row ≠ x.row))
    fences := s.garnet.fences.map (fun (f : Fence) => { f with rows := f.rows.filter (fun r => decide (r ≠ x.row)) }) } }
  let dead := !ok && decide (s.res.spare.toNat = 0)
  let s := if ok then s
    else if s.res.spare.toNat = 0 then
      let s := { s with garnet := { s.garnet with dead := smPut s.garnet.dead x.row true
                                                  marks := smPut s.garnet.marks x.row .poison } }
      (s.setBits GARNET_STATUS 8).record 0x21 3 (natBytes 4 (64 * x.row))
    else ({ s with res := { s.res with spare := s.res.spare - 1 } }).setBits GARNET_STATUS 8
  let s := if dead then s
    else { s with garnet := { s.garnet with arr := smSetList 0 s.garnet.arr (64 * x.row) x.bytes
                                            marks := smSet .clean s.garnet.marks x.row (if x.bad then .poison else .clean) } }
  (s.countRow g 1).moveGap g

/-- The writes that wait enter the buffer in order while their sectors have room (R238); each is answered. -/
def State.garnetServe (s : State) : List MemReq → List MemReq → State
  | kept, [] => { s with garnet := { s.garnet with waiting := kept } }
  | kept, r :: rs =>
    if kept.any (fun w => decide (garnetSector (garnetOff w.addr) = garnetSector (garnetOff r.addr))) then s.garnetServe (kept ++ [r]) rs
    else
      let x := s.garnetWrite r
      if x.2.1 = .waits then x.1.garnetServe (kept ++ [r]) rs else (x.1.reply r.master x.2.1 []).garnetServe kept rs

/-- Write every buffered row out (R242, R241): every verify of these passes (DESIGN CHOICE, log entry 97). -/
def State.garnetFlush (s : State) : State := s.garnet.wbuf.foldl (fun s x => s.rowOut x true) s

/-- Request a fence over the rows held now (R239). -/
def State.fenceAsk (s : State) (i : Iface) : State :=
  { s with garnet := { s.garnet with fences := s.garnet.fences ++ [⟨i, s.garnet.wbuf.map (fun x => x.row)⟩] } }

/-- A fence completes: GARNET_FSEQ steps, modulo 2^32 (R239). -/
def State.fenceCount (s : State) : State := s.wr GARNET_FSEQ (s.rd GARNET_FSEQ + 1)

/-! Any memory request -/

/-- Serve a memory request at the endpoint of its address (R216); an address of no range gives a decode error (R33). -/
def State.memServe (s : State) (r : MemReq) : Served :=
  if isExternal r.addr then s.serveExt r
  else if isSpad r.addr then s.serveSpad r
  else if isGarnet r.addr then s.serveGarnet r
  else if isLockWin r.addr then s.serveLockWin r
  else (s, .error, [])

/-- An address of a memory range of R32. -/
def isMem (a : Nat) : Bool := isExternal a || isSpad a || isGarnet a || isLockWin a

/-- A request may not cross a 256-byte block: longer transfers are split (R216). -/
def splitReq (r : MemReq) : List MemReq :=
  (List.range ((r.addr + r.len + 255) / 256 - r.addr / 256)).map (fun i =>
    let lo := Nat.max r.addr (256 * (r.addr / 256 + i))
    let hi := Nat.min (r.addr + r.len) (256 * (r.addr / 256 + i) + 256)
    { r with addr := lo, len := hi - lo, bytes := (r.bytes.drop (lo - r.addr)).take (hi - lo) })

/-- Serve a transfer of any length block by block; it ends at the first answer that is not `ok` or `poisoned`. -/
def State.xferBy (s : State) (serve : State → MemReq → Served) (r : MemReq) : Served :=
  (splitReq r).foldl (fun (acc : Served) q =>
    if acc.2.1 = .ok ∨ acc.2.1 = .poisoned then
      let x := serve acc.1 q
      (x.1, worse acc.2.1 x.2.1, acc.2.2 ++ x.2.2)
    else acc) (s, .ok, [])

/-- A transfer served at the endpoints. -/
def State.memXfer (s : State) (r : MemReq) : Served := s.xferBy State.memServe r

/-- Write whole bytes as a master. -/
def State.memWrite (s : State) (m : Master) (a : Nat) (bs : List Byte) : Served :=
  s.memXfer ⟨m, a, bs.length, true, bs.map some⟩

/-- Read `n` bytes as a master. -/
def State.memRead (s : State) (m : Master) (a n : Nat) : Served := s.memXfer ⟨m, a, n, false, []⟩

end Sys2Proof.Machine
end

