-- ==== Sys2Proof/Machine/Noc.lean ====
section
/-! DEFINITION. The on-stack network (R196-R215): addresses and their ports, injection, arrival at a port by its state, bounces, sinks. What an ejected packet does stands in NocHop.lean. -/

namespace Sys2Proof.Machine

/-! Response slots (R60) -/

/-- A slot at the start of the open cycle. -/
def Cluster.slotAt (x : Cluster) (i : Nat) : Slot := smGet .empty x.slots i
/-- A slot with the changes of the open cycle. -/
def Cluster.slotOf (x : Cluster) (i : Nat) : Slot :=
  match x.slotUpd.find? (fun u => decide (u.1 = i)) with
  | some u => u.2
  | none => x.slotAt i
/-- Loads without their response yet. -/
def Cluster.loadsOut (x : Cluster) : Bool := x.rlds.any (fun r => decide (x.slotOf r.slot = .pending))

/-! Endpoints (R30, R197, R198, R535) -/

/-- The endpoint of a register block (R535). -/
def blockPort (n : Nat) : PortId :=
  if (9 ≤ n ∧ n ≤ 17) ∨ n = 28 then ⟨2, 0, 5⟩ else ⟨3, 18, 3⟩
/-- The endpoint of a device address. -/
def addrPort (a : Nat) : PortId :=
  if isExternal a then slicePort (cSlice a)
  else if isSpad a then bankPort (spadOff a / 2 ^ 19)
  else if isGarnet a then sectorPort (garnetSector (garnetOff a))
  else if isLockWin a then slicePort ((a - 0x1200000000) / 2 ^ 20)
  else if inWindows a then clusterPort ((a - 0x2100000000) / 0x1000)
  else blockPort (blockOf a)

/-- The address lies in a range of R32: a requester answers any other itself (R33). -/
def addrKnown (a : Nat) : Bool := isMem a || inBlocks a || inWindows a

/-- The endpoint port of a power domain, where it has one of its own (R418). The request ports of a slice stay powered and serve while it is
off (R221, log entry 29). -/
def domPort (d : Nat) : Option PortId :=
  if d < 1024 then some (clusterPort d)
  else if d < 1280 then none
  else if d < 1408 then some (bankPort (d - 1280))
  else if d < 1456 then none
  else if d < 1472 then some ⟨3, 2 * (d - 1456), 1⟩
  else if d < 1480 then some (sectorPort (d - 1472))
  else if d < 1482 then some ⟨3, 16 + (d - 1480), 3⟩
  else if d = 1482 then some ⟨3, 12, 2⟩
  else none

/-- Flits held in an input buffer for a channel. -/
def State.heldFlits (s : State) (net node inp vc : Nat) : Nat :=
  ((s.noc.pkts.filter (fun p => !p.inj && decide (p.net = net) && decide (p.node = node) && decide (p.inp = inp) && decide (p.h.vc = vc))).map
    (fun p => p.h.flits)).foldl (· + ·) 0

/-- Room for a whole packet in a buffer of `cap` flits whose router grants credit (R205, R212); a source's own buffer holds 6 (R205). -/
def State.roomFor (s : State) (p : Pkt) (net node inp cap : Nat) : Bool :=
  !s.freezing net node && decide (s.heldFlits net node inp p.h.vc + p.h.flits ≤ cap)

/-! Packets -/

def State.pkt (s : State) (id : Nat) : Option Pkt := s.noc.pkts.find? (fun p => decide (p.pid = id))
def State.dropPkt (s : State) (id : Nat) : State :=
  { s with noc := { s.noc with pkts := s.noc.pkts.filter (fun p => decide (p.pid ≠ id))
                               kept := s.noc.kept.filter (fun k => decide (k.p.pid ≠ id)) } }
/-- A packet takes its place at the tail of its buffer. -/
def State.putPkt (s : State) (p : Pkt) : State :=
  { s with noc := { s.noc with pkts := s.noc.pkts.filter (fun q => decide (q.pid ≠ p.pid)) ++ [p] } }

/-- A copy takes its place among those its sources keep, in the order of first sending (R211). -/
def keepIn (k : Kept) : List Kept → List Kept
  | [] => [k]
  | x :: xs => if k.p.pid < x.p.pid then k :: x :: xs else x :: keepIn k xs

/-- A bounce counts (R211). -/
def State.countBounce (s : State) : State := (s.bump NOC_BOUNCES NOC_CNTOVF 0).setBits NOC_STATUS 2

/-- Bounce a packet where it stands (R211, R316): a one-flit BOUNCE on VC1 goes back to its source, which keeps the copy. -/
def State.bounce (s : State) (p : Pkt) : State :=
  let b : Pkt := { pid := s.noc.nextId, h := { mkHdr 8 0 p.h.pri.toNat p.h.dst p.h.src with bnc := true, tag := p.h.tag }, what := .bounce p.pid,
                   net := p.net, node := p.node, inp := p.inp, inj := true, ue := .none }
  let s := { s with noc := { s.noc with
    nextId := s.noc.nextId + 1
    pkts := s.noc.pkts.filter (fun (q : Pkt) => decide (q.pid ≠ p.pid)) ++ [b]
    kept := keepIn { p := { p with ue := .none }, back := false, held := false } s.noc.kept } }
  s.countBounce

/-- A request wakes the scratchpad bank or the Slate sector whose port it finds off or draining (R236, R418). -/
def State.wakeBank (s : State) (q : PortId) : State :=
  if q.net ≠ 2 ∨ s.portSt q = .ready then s
  else if q.port = 2 then s.wakeDom (domBank q.node)
  else if q.port = 7 then s.wakeDom (domSector (q.node / 16))
  else s

/-! Transfers of the masters on Bedrock (R24, R200, R209, R236) -/

/-- The port from which an interface sends its accesses; those of a cluster are packets of their own. -/
def ifacePort : Iface → Option PortId
  | .pcie => some pciePort
  | .hp => some hpPort
  | .smb => some smbPort
  | .supv => some supvPort
  | .fabric _ => none

/-- Flits of a memory request and of its answer (R200). -/
def reqFlits (r : MemReq) : Nat := if r.write then dataFlits 48 r.len else 1
def rspFlits (r : MemReq) : Nat := if r.write then 1 else dataFlits 56 r.len

/-- One block of a transfer sent from a port and served by its endpoint: it waits while the network cannot carry it or the endpoint's port takes no request;
a port in DRAIN, DRAINED or OFF bounces it. -/
def State.sendReq (s : State) (src : Option PortId) (serve : State → MemReq → Served) (r : MemReq) : Served :=
  match src with
  | none => serve s r
  | some q =>
    let d := addrPort r.addr
    if !isMem r.addr then (s, .error, [])
    else if !s.crossing q d then (s, .waits, [])
    else match s.portSt d with
      | .ready =>
        let x := serve s r
        if x.2.1 = .waits then x else (x.1.exchanged q d (reqFlits r) (rspFlits r), x.2)
      | .waking => (s, .waits, [])
      | _ => (s.countBounce.wakeBank d, .waits, [])

/-- A transfer of any length sent from a port. -/
def State.memXferFrom (s : State) (src : Option PortId) (r : MemReq) : Served := s.xferBy (fun s q => s.sendReq src State.memServe q) r

/-! Arrival -/

/-- A packet enters the buffer it stands at; at the router of its port the port's state applies (R209). -/
def State.enter (s : State) (p : Pkt) : State :=
  let p : Pkt := { p with inj := false }
  if p.h.dnet.toNat = p.net ∧ p.h.dst.node = p.node then
    match s.portSt p.h.dst with
    | .ready => s.putPkt p
    | .waking => s.putPkt p
    | .drain => if p.h.vc = 1 ∨ p.h.typ = 6 then s.putPkt p else (s.bounce p).wakeBank p.h.dst
    | .drained => if p.h.vc = 1 ∨ p.h.typ = 6 then s.putPkt p else (s.bounce p).wakeBank p.h.dst
    | .off => if p.h.typ = 6 then s.putPkt p else if p.h.vc = 1 then s.dropPkt p.pid else (s.bounce p).wakeBank p.h.dst
  else s.putPkt p

/-- A packet that waits at its source may enter the first buffer: it has room, and no earlier packet waits for the same buffer and channel (R203,
R205). -/
def State.mayEnter (s : State) (p : Pkt) : Bool :=
  s.roomFor p p.net p.node p.inp 6 &&
  (s.noc.pkts.takeWhile (fun q => decide (q.pid ≠ p.pid))).all (fun q =>
    !(q.inj && decide (q.net = p.net) && decide (q.node = p.node) && decide (q.inp = p.inp) && decide (q.h.vc = p.h.vc)))

/-- Packets that wait at their source enter the first buffer where it has room, in order. -/
def State.settle (s : State) : State :=
  (s.noc.pkts.filter (fun p => p.inj)).foldl (fun s p => if s.mayEnter p then s.enter p else s) s

/-- A packet as its source makes it. -/
def State.newPkt (s : State) (typ nflit pri : Nat) (src dst : PortId) (w : PktWhat) : Pkt :=
  { pid := s.noc.nextId, h := mkHdr typ nflit pri src dst, what := w, net := src.net, node := src.node, inp := 4 + src.port, inj := true, ue := .none }

/-- The network has credit for a new packet of a source (R144). -/
def State.credit (s : State) (typ nflit : Nat) (src dst : PortId) : Bool := s.mayEnter (s.newPkt typ nflit 0 src dst (.bounce 0))

/-- The source holds a bounced packet to the same address (R211): `same` tells which of its packets go there. -/
def State.holdsBack (s : State) (src : PortId) (same : Pkt → Bool) : Bool :=
  s.noc.kept.any (fun k => k.back && decide (k.p.h.src = src) && same k.p)

/-- A source sends a packet; behind a bounced one to the same address it is held (R211). -/
def State.inject (s : State) (typ nflit pri : Nat) (src dst : PortId) (w : PktWhat) (same : Pkt → Bool) : State :=
  let p := s.newPkt typ nflit pri src dst w
  let s := { s with noc := { s.noc with nextId := s.noc.nextId + 1 } }
  if s.holdsBack src same then
    { s with noc := { s.noc with kept := keepIn { p := p, back := true, held := true } s.noc.kept } }
  else
    let s := s.putPkt p
    if s.mayEnter p then s.enter p else s

/-- No two packets of the kind share an address (R211). -/
def noAddr (_ : Pkt) : Bool := false

/-- An earlier packet from the same source port to the same port on the same channel is still under way (R203): the packet does not arrive
before it. -/
def State.overtakes (s : State) (n : Nat) : Bool :=
  match s.noc.pkts.find? (fun p => decide (p.pid = n)) with
  | none => false
  | some p => s.noc.pkts.any (fun q => decide (q.pid < n) && decide (q.h.src = p.h.src) && decide (q.h.dst = p.h.dst) && decide (q.h.vc = p.h.vc))

/-! Sinks (R149, R205) -/

/-- A token waits at an input of the matching store or the queue engine, or at the mirror sink: the input grants no credit. -/
def State.sinkBusy (s : State) (q : PortId) : Bool := s.noc.pkts.any (fun p => decide (p.inp = 16) && decide (p.h.dst = q))

/-- The bundle of an instance is still on its way to a cluster of it (R169). -/
def State.bundleComing (s : State) (iid : Nat) : Bool :=
  let isB (w : PktWhat) : Bool := match w with
    | .bundle i _ => decide (i = iid)
    | _ => false
  s.noc.pkts.any (fun p => isB p.what) || s.noc.kept.any (fun k => isB k.p.what)

/-- Bundles of an instance that are still on their way are dropped: its placement ended. -/
def State.dropBundles (s : State) (iid : Nat) : State :=
  let isB (w : PktWhat) : Bool := match w with
    | .bundle i _ => decide (i = iid)
    | _ => false
  { s with noc := { s.noc with pkts := s.noc.pkts.filter (fun p => !isB p.what), kept := s.noc.kept.filter (fun k => !isB k.p.what) } }

/-! Port transitions (R210) -/

/-- DRAIN is requested for a port. -/
def State.portDrain (s : State) (q : PortId) : State := if s.portSt q = .ready then s.setPort q .drain else s
/-- A wake request reaches a port. -/
def State.portWake (s : State) (q : PortId) : State :=
  match s.portSt q with
  | .drain => s.setPort q .ready
  | .drained => s.setPort q .ready
  | .off => s.setPort q .waking
  | _ => s
/-- Take a domain out of the sequence of R419. -/
def State.seqOver (s : State) (d : Nat) : State :=
  { s with pwr := { s.pwr with leaving := s.pwr.leaving.filter (fun x => decide (x ≠ d)), gating := s.pwr.gating.filter (fun x => decide (x ≠ d)) } }

/-- A cluster is asked to wake (R168, R210, R421): an entry under way is abandoned (R420) and its port takes packets again. -/
def State.clusterWakeReq (s : State) (c : Nat) : State :=
  let s := (s.seqOver c).portWake (clusterPort c)
  match s.dom c with
  | .on => s
  | .cirrus => s.setDom c .on
  | _ => s.wakeDom c

/-- The endpoint of a waking port is powered and initialized. -/
def State.portUp (s : State) (q : PortId) : State := if s.portSt q = .waking then s.setPort q .ready else s

end Sys2Proof.Machine
end

