-- ==== Sys2Proof/Machine/Queues.lean ====
section
/-! DEFINITION. Tokens as words (R123), queues in device memory (R177-R182), ordered release (R184-R188), error tokens
(R156-R158). -/

namespace Sys2Proof.Machine

/-! Tokens as 128-bit numbers (R123) -/

def kindCode : TokKind → Nat
  | .data => 0
  | .sticky => 1
  | .error => 2
  | .control => 3
def kindOf (n : Nat) : TokKind :=
  match n % 4 with
  | 0 => .data
  | 1 => .sticky
  | 2 => .error
  | _ => .control
def tokenNat (t : Token) : Nat :=
  t.value.toNat + 2 ^ 64 * Bool.bit t.poison + 2 ^ 65 * t.flow.toNat + 2 ^ 83 * t.pri.toNat + 2 ^ 86 * kindCode t.kind +
    2 ^ 88 * t.port.toNat + 2 ^ 92 * t.inst.toNat + 2 ^ 116 * t.ctx.toNat
def tokenOf (n : Nat) : Token :=
  { ctx := BitVec.ofNat 12 (n / 2 ^ 116), inst := BitVec.ofNat 24 (n / 2 ^ 92), port := BitVec.ofNat 4 (n / 2 ^ 88),
    kind := kindOf (n / 2 ^ 86), pri := BitVec.ofNat 3 (n / 2 ^ 83), flow := BitVec.ofNat 18 (n / 2 ^ 65),
    poison := decide (n / 2 ^ 64 % 2 = 1), value := BitVec.ofNat 64 n }

/-! Queue records -/

def State.qrec (s : State) (q : Nat) : QRec := smGet QRec.zero s.flow.recs q
def State.setQrec (s : State) (q : Nat) (r : QRec) : State :=
  { s with flow := { s.flow with recs := smSet QRec.zero s.flow.recs q r } }
/-- The unit u of a record (R177). -/
def QRec.u (r : QRec) : Nat := 2 ^ r.log2sz.toNat
def QRec.atLimit (r : QRec) : Bool := decide (r.depth ≥ (r.limit.toNat + 1) * r.u)
/-- Address of entry `i` counted from the head (R177). -/
def QRec.entry (r : QRec) (i : Nat) : Nat :=
  r.base.toNat * 0x1000 + ((r.head.toNat + i) % 2 ^ (r.log2sz.toNat + 8)) * 16
/-- The record as a 128-bit number (R177). -/
def qrecNat (r : QRec) : Nat :=
  128 * 0 + 2 ^ 9 * Bool.bit r.errseen + 2 ^ 10 * Bool.bit r.wmev + 2 ^ 11 * Bool.bit r.wmie + 2 ^ 12 * r.cons.toNat +
    2 ^ 14 * Bool.bit r.ord + 2 ^ 15 * Bool.bit r.en + 2 ^ 16 * (r.hwm % 2 ^ 9) + 2 ^ 25 * r.wmark.toNat +
    2 ^ 33 * r.limit.toNat + 2 ^ 41 * (r.depth % 2 ^ 24) + 2 ^ 65 * r.head.toNat + 2 ^ 88 * r.log2sz.toNat +
    2 ^ 92 * r.base.toNat

/-- A word of the queue engine's state memory that is UE or POISON is met (R256, R258): which segment and word hold it is free (log entry 4). -/
def State.queueBad (s : State) (m : Mark) : State :=
  let n := s.freeVal.toNat
  s.drawn.noteBad (0x3000 + n % 8) (n / 8 % 131072) (decide (m = .poison)) 0

/-- The queue engine reads a record (R256-R258): a correctable word is corrected; an unusable one costs the queue its head entry, which is removed without
delivery, and is written anew. -/
def State.qMeet (s : State) (q : Nat) : State :=
  let r := s.qrec q
  match r.code with
  | .clean => s
  | .ce => (s.setQrec q { r with code := .clean }).countCeIn 3 8
  | m =>
    let h := if r.depth = 0 then r.head else BitVec.ofNat 23 ((r.head.toNat + 1) % 2 ^ (r.log2sz.toNat + 8))
    let s := s.setQrec q { r with code := .clean, depth := r.depth - 1, head := h }
    (s.queueBad m).record 0x25 2 (natBytes 4 q)

/-- Append a token to a queue's ring (R177, R180). None where the ring has no backing now (log entry 15). -/
def State.qAppend (s : State) (q : Nat) (t : Token) : Option State :=
  let r := s.qrec q
  match s.memWrite .agent (r.entry r.depth) (natBytes 16 (tokenNat t)) with
  | (s, .ok, _) =>
    let d := r.depth + 1
    let mark := (r.wmark.toNat + 1) * r.u
    let hit := decide (r.depth < mark) && decide (mark ≤ d)
    let s := s.setQrec q { r with depth := d, hwm := Nat.max r.hwm (d / r.u), wmev := r.wmev || hit,
                                  errseen := r.errseen || decide (t.kind = .error) }
    some (if hit && r.wmie then
        if s.flow.wmq.length < 64 then
          ({ s with flow := { s.flow with wmq := s.flow.wmq ++ [q] } }).setBits FLOW_STATUS 1
        else s.setBits FLOW_STATUS 2
      else s)
  | _ => none

/-- A token other than an error token is judged and appended (R179); a refusal is counted. -/
def State.qEnqueue (s : State) (q : Nat) (t : Token) : State × Bool :=
  let s := s.qMeet q
  let r := s.qrec q
  if !r.en || r.atLimit then (s.bump FLOW_ENQREF FLOW_STATUS 3, false)
  else match s.qAppend q t with
    | some s' => (s', true)
    | none => (s.bump FLOW_ENQREF FLOW_STATUS 3, false)

/-! Ordered flows (R184-R188) -/

def State.order (s : State) (f : Nat) : Order := smGet Order.zero s.flow.order f
def State.setOrder (s : State) (f : Nat) (o : Order) : State :=
  { s with flow := { s.flow with order := smSet Order.zero s.flow.order f o } }
/-- D = (INST - NEXT) mod 2^24 (R186). -/
def State.orderD (s : State) (f : Nat) (inst : BitVec 24) : Nat := (inst - (s.order f).next).toNat
/-- An instance that NEXT has passed or skipped: its outputs go straight to the queue (R188). -/
def State.skipped (s : State) (f : Nat) (inst : BitVec 24) : Bool := decide (s.orderD f inst ≥ 2 ^ 23)
/-- Free reorder entries (FLOW_RFREE). -/
def State.rfree (s : State) : Nat := 1048576 - s.flow.parked.length
/-- The flow is ordered. -/
def State.isOrd (s : State) (f : Nat) : Bool := (s.qrec f).ord

/-- The queue an error token for queue `q` is appended to (R182). -/
def State.errTarget (s : State) (q : Nat) : Nat :=
  if (s.qrec q).cons = 3 then fld (s.rd FLOW_ERRQ) 17 0 else q

/-- Append an error token to the queue itself, whatever its consumer (R158, R182). -/
def State.errEnter (s : State) (q : Nat) (t : Token) : State × Bool :=
  let s := s.qMeet q
  let r := s.qrec q
  if !r.en || r.atLimit then (s, false)
  else match s.qAppend q t with
    | some s' => (s', true)
    | none => (s, false)

/-- Append an error token to its queue now, or not at all (R158, R182). ERRSEEN is set in the queue it was bound for. -/
def State.errAppend (s : State) (q : Nat) (t : Token) : State × Bool :=
  let s := if (s.qrec q).cons = 3 then s.setQrec q { s.qrec q with errseen := true } else s
  let g := s.errTarget q
  if (s.qrec g).cons = 3 then (s.setBits FLOW_STATUS 4, false) else s.errEnter g t

/-- Append a parked or ordered token to queue `f` (error tokens by their own rule). -/
def State.outAppend (s : State) (f : Nat) (t : Token) : State × Bool :=
  if t.kind = .error then s.errAppend f t else s.qEnqueue f t

/-- The parked entry of a skipped instance with the lowest INST, in order of release within it (R188). -/
def State.parkedSkipped (s : State) (f : Nat) : Option Parked :=
  s.flow.parked.foldl (fun (acc : Option Parked) p =>
    if p.flow.toNat = f ∧ s.skipped f p.inst then
      match acc with
      | some b => if s.orderD f p.inst < s.orderD f b.inst then some p else some b
      | none => some p
    else acc) none

/-- The parked entry of a flow that may leave next: one of a skipped instance, or the first of NEXT (R185, R188). -/
def State.parkedReady (s : State) (f : Nat) : Option Parked :=
  match s.parkedSkipped f with
  | some p => some p
  | none => s.flow.parked.find? (fun p => decide (p.flow.toNat = f) && decide (p.inst = (s.order f).next))

/-- Remove the entry of an index. -/
def dropParked (i : Nat) (m : List Parked) : List Parked := m.filter (fun (x : Parked) => decide (x.idx ≠ i))

/-- Where a reorder entry lies in the park area (R185). -/
def State.parkAddr (s : State) (i : Nat) : Nat := s.rd64 FLOW_PARK_LO + 16 * i

/-- A free entry index: which one of them is taken is free (log entry 4). -/
def State.parkIdx (s : State) : Nat :=
  let start := s.freeVal.toNat % 1048576
  (((List.range (s.flow.parked.length + 1)).map (fun i => (start + i) % 1048576)).find?
    (fun i => s.flow.parked.all (fun (x : Parked) => decide (x.idx ≠ i)))).getD start

/-- Take a reorder entry: of an output, which is written to the park area, or a marker. False where the park area has no backing (log entry
15). -/
def State.park (s : State) (f : Nat) (inst : BitVec 24) (tok : Option Token) : State × Bool :=
  let i := s.parkIdx
  let c := s.drawn.placeCode 3
  let s := c.1
  let p : Parked := { idx := i, flow := BitVec.ofNat 18 f, inst := inst, marker := tok.isNone, fin := tok.isNone, code := c.2 }
  match tok with
  | none => ({ s with flow := { s.flow with parked := s.flow.parked ++ [p] } }, true)
  | some t => match s.memWrite .agent (s.parkAddr i) (natBytes 16 (tokenNat t)) with
    | (s, .ok, _) => ({ s with flow := { s.flow with parked := s.flow.parked ++ [p] } }, true)
    | (s, _, _) => (s, false)

/-- What a parked entry gives when its turn comes: a marker nothing, an output its token at the queue; an entry or output whose word is UE or
POISON is lost and counts as appended (R256). -/
def State.unpark (s : State) (f : Nat) (p : Parked) : State × Bool :=
  let s := if p.code = .ce then s.countCeIn 3 8 else s
  if p.code.bad then ((s.queueBad p.code).record 0x25 2 (natBytes 4 f), true)
  else if p.marker then (s, true)
  else match s.memRead .agent (s.parkAddr p.idx) 16 with
    | (s, .ok, bs) => s.outAppend f (tokenOf (bytesNat bs))
    | (s, .poisoned, _) => (s.record 0x25 2 (natBytes 4 f), true)
    | (s, _, _) => (s, false)

/-- A marker that waited for an entry is over, and so is its instance (R185). -/
def State.waitOver (s : State) (w : WaitMark) : State :=
  { s with
    flow := { s.flow with waits := s.flow.waits.filter (fun (x : WaitMark) => decide (x.iid ≠ w.iid)) }
    dsp := { s.dsp with insts := s.dsp.insts.filter (fun i => decide (i.iid ≠ w.iid)) } }

/-- A freed entry goes to the marker that has waited longest (R185). -/
def State.markWaiting (s : State) : State :=
  match s.flow.waits with
  | w :: _ => if s.rfree > 0 then (s.park w.flow.toNat w.inst none).1.waitOver w else s
  | [] => s

/-- NEXT of a flow advances by one. -/
def State.nextUp (s : State) (f : Nat) : State := s.setOrder f { s.order f with next := (s.order f).next + 1 }

/-- Append parked outputs for as long as they may leave (R184): NEXT advances past an instance that is done, one whose marker waits for an
entry among them (R185). -/
def State.release (s : State) (f : Nat) : Nat → State
  | 0 => s
  | fuel + 1 =>
    match s.parkedReady f with
    | none =>
      (match s.flow.waits.find? (fun w => decide (w.flow.toNat = f) && decide (w.inst = (s.order f).next)) with
       | some w => ((s.waitOver w).nextUp f).release f fuel
       | none => s)
    | some p =>
      let out := s.unpark f p
      if !out.2 then out.1
      else
        let s := out.1
        let rest := dropParked p.idx s.flow.parked
        let more := rest.any (fun x => decide (x.flow = p.flow) && decide (x.inst = p.inst))
        let s := { s with flow := { s.flow with parked := rest } }
        let s := if p.fin && !more && decide (p.inst = (s.order f).next) then s.nextUp f else s
        s.markWaiting.release f fuel

/-- Enough steps for every parked entry and every waiting marker. -/
def State.releaseAll (s : State) (f : Nat) : State := s.release f (s.flow.parked.length + s.flow.waits.length + 1)

/-- The outputs of NEXT that are parked still come before its later ones (R184): the order of their release. -/
def State.parkedOf (s : State) (f : Nat) (inst : BitVec 24) : Bool :=
  s.flow.parked.any (fun p => decide (p.flow.toNat = f) && decide (p.inst = inst))

/-- An ordered output of an instance (R184, R185): appended at NEXT, behind those of it that are parked; parked otherwise. False: presented
again later. -/
def State.orderedOut (s : State) (f : Nat) (inst : BitVec 24) (t : Token) : State × Bool :=
  if inst = (s.order f).next ∨ s.skipped f inst then
    (if s.parkedOf f inst then
      let s := s.releaseAll f
      if s.parkedOf f inst then (s, false) else s.outAppend f t
     else s.outAppend f t)
  else if s.rfree > 0 then s.park f inst (some t)
  else (s, false)

/-- An instance of an ordered flow is done (R184, R185): NEXT advances, or its parked entries are closed, or it takes a
marker. False when no entry is free for the marker. -/
def State.orderedDone (s : State) (f : Nat) (inst : BitVec 24) : State × Bool :=
  if !s.isOrd f then (s, true)
  else if inst = (s.order f).next then
    (if s.parkedOf f inst then
      ({ s with flow := { s.flow with parked := s.flow.parked.map (fun (p : Parked) =>
        if p.flow.toNat = f ∧ p.inst = inst then { p with fin := true } else p) } }.releaseAll f, true)
     else ((s.nextUp f).releaseAll f, true))
  else if s.skipped f inst then (s, true)
  else if s.flow.parked.any (fun p => decide (p.flow.toNat = f) && decide (p.inst = inst)) then
    ({ s with flow := { s.flow with parked := s.flow.parked.map (fun (p : Parked) =>
      if p.flow.toNat = f ∧ p.inst = inst then { p with fin := true } else p) } }, true)
  else if s.rfree > 0 then s.park f inst none
  else (s, false)

/-! Error tokens (R156-R158) -/

/-- Room in the holding buffer. -/
def State.holdRoom (s : State) : Bool := decide (s.mst.hold.length < 4096)

/-- Try to deliver an error token to queue, redirection or reorder store; `fin` closes its instance once it is there. -/
def State.errDeliver (s : State) (t : Token) (q : Nat) (ordered fin own : Bool) : State × Bool :=
  let f := t.flow.toNat
  let out := if ordered && s.isOrd f then s.orderedOut f t.inst t else if own then s.errEnter q t else s.errAppend q t
  if !out.2 then out
  else if ordered && fin then ((out.1.orderedDone f t.inst).1, true) else out

/-- An error token enters the holding buffer while it has room (R158). False: it waits where it is and ERRHOLD_EV is set. -/
def State.errHold (s : State) (h : HeldErr) : State × Bool :=
  if s.holdRoom then ({ s with mst := { s.mst with hold := s.mst.hold ++ [h] } }, true) else (s.setBits MST_STATUS 4, false)

/-- Make an error token: delivered, or held while the buffer has room (R158). False: the instance or token waits. The spec gives no order between a new
error token and those of the same queue that are held: the model tries the queue first (DESIGN CHOICE, log entry 87). -/
def State.errToken (s : State) (t : Token) (ordered fin : Bool) : State × Bool :=
  let out := s.errDeliver t t.flow.toNat ordered fin false
  if out.2 then (out.1.bump MST_ERRTOKS MST_CNTOVF 16, true)
  else
    let h := out.1.errHold ⟨t, t.flow.toNat, ordered, fin, false⟩
    if h.2 then (h.1.bump MST_ERRTOKS MST_CNTOVF 16, true) else h

/-- An error token of the instance that is an ordered output is held and not appended yet (R184). -/
def State.heldOf (s : State) (f inst : Nat) : Bool :=
  s.mst.hold.any (fun h => h.ordered && decide (h.t.flow.toNat = f) && decide (h.t.inst.toNat = inst))

/-- VALUE of an error token (R156). -/
def errValue (cause last tries : Nat) (detail : BitVec 48) : DWord :=
  BitVec.ofNat 64 (cause % 256 * 2 ^ 56 + last % 16 * 2 ^ 52 + tries % 8 * 2 ^ 49 + detail.toNat)

/-- The error token of a single token (R156: CTX, FLOW, INST, PORT and PRI copied). -/
def errOfToken (t : Token) (cause : Nat) : Token :=
  { t with kind := .error, poison := false, value := errValue cause 0 0 (t.value.truncate 48) }

/-! Dequeue -/

/-- HEAD and DEPTH after one entry has left; parked outputs of the flow take the room (R184). -/
def State.qAdvance (s : State) (q : Nat) : State :=
  let r := s.qrec q
  (s.setQrec q { r with head := BitVec.ofNat 23 ((r.head.toNat + 1) % 2 ^ (r.log2sz.toNat + 8)), depth := r.depth - 1 }).releaseAll q

/-- Remove the head entry of a queue, dropping unusable entries on the way (R256), at most `fuel` of them. -/
def State.qPop (s : State) (q : Nat) : Nat → State × Option Token
  | 0 => (s, none)
  | fuel + 1 =>
    let s := s.qMeet q
    let r := s.qrec q
    if r.depth = 0 then (s, none)
    else match s.memRead .agent (r.entry 0) 16 with
      | (s, .ok, bs) => (s.qAdvance q, some (tokenOf (bytesNat bs)))
      | (s, .poisoned, _) =>
        let s := s.qAdvance q
        (s.record 0x25 2 (natBytes 4 q)).qPop q fuel
      | (s, _, _) => (s, none)

/-- Read the head entry without removing it; unusable entries are removed first (R256). -/
def State.qPeek (s : State) (q : Nat) : Nat → State × Option Token
  | 0 => (s, none)
  | fuel + 1 =>
    let s := s.qMeet q
    let r := s.qrec q
    if r.depth = 0 then (s, none)
    else match s.memRead .agent (r.entry 0) 16 with
      | (s, .ok, bs) => (s, some (tokenOf (bytesNat bs)))
      | (s, .poisoned, _) =>
        let s := s.qAdvance q
        (s.record 0x25 2 (natBytes 4 q)).qPeek q fuel
      | (s, _, _) => (s, none)

/-- Drop the head entry. -/
def State.qDrop (s : State) (q : Nat) : State := if (s.qrec q).depth = 0 then s else s.qAdvance q

end Sys2Proof.Machine
end

