-- ==== Sys2Proof/Machine/Match.lean ====
section
/-! DEFINITION. The matching store (R128-R142) and the life of an instance up to its resolution: admission, firing,
control tokens, resolution by an error token (R156, R157), release of slots. -/

namespace Sys2Proof.Machine

/-! Directory fields (R98) -/
def DirEnt.valid (d : DirEnt) : Bool := tb d.w0 31
def DirEnt.shape (d : DirEnt) : Nat := fld d.w0 30 28
def DirEnt.planes (d : DirEnt) : Nat := fld d.w0 27 26 + 1
def DirEnt.replayable (d : DirEnt) : Bool := tb d.w0 25
def DirEnt.pridef (d : DirEnt) : BitVec 3 := BitVec.ofNat 3 (fld d.w0 22 20)
def DirEnt.pwrclass (d : DirEnt) : Nat := fld d.w0 19 16
def DirEnt.declares (d : DirEnt) (port : Nat) : Bool := d.w0.getLsbD port && decide (port < 16)
def DirEnt.ports (d : DirEnt) : List Nat := (List.range 16).filter (fun i => d.declares i)

/-! Accounts (R137) -/
def mstSlots : Nat := 1572864
def State.cres (s : State) : Nat := (s.rd MST_CRES).toNat
def State.resP (s : State) (p : Nat) : Nat := (s.rd (MST_RES p)).toNat
def State.usedP (s : State) (p : Nat) : Nat := smGet 0 s.mst.used p
def State.setUsed (s : State) (p n : Nat) : State :=
  { s with mst := { s.mst with used := smSet 0 s.mst.used p n } }
def State.sumRes (s : State) : Nat := ((List.range 8).map s.resP).foldl (· + ·) 0
def State.sharedUsed (s : State) : Nat := ((List.range 8).map (fun p => s.usedP p - s.resP p)).foldl (· + ·) 0
/-- shared_free of R137; a sum past the total leaves none free. -/
def State.sharedFree (s : State) : Nat := mstSlots - s.cres - s.sumRes - s.sharedUsed

/-- Give a slot back to the account it was charged to (R140). -/
def State.freeSlot (s : State) (h : HeldTok) : State :=
  if h.resv then { s with mst := { s.mst with crUsed := s.mst.crUsed - 1 } }
  else s.setUsed h.t.pri.toNat (s.usedP h.t.pri.toNat - 1)

/-! Keys (R127, R128) -/
def sameInst (a b : Token) : Bool := decide (a.ctx = b.ctx) && decide (a.flow = b.flow) && decide (a.inst = b.inst)
def sameSticky (a b : Token) : Bool := decide (a.ctx = b.ctx) && decide (a.flow = b.flow) && decide (a.port = b.port)

/-- The token a pending instance would use for a port: its data token, else the sticky copy (R129). `true` marks a
data token. -/
def State.portTok (s : State) (k : Token) (port : Nat) : Option (Bool × HeldTok) :=
  match s.mst.pend.find? (fun h => sameInst h.t k && decide (h.t.port.toNat = port)) with
  | some h => some (true, h)
  | none =>
    match s.mst.sticky.find? (fun h => decide (h.t.ctx = k.ctx) && decide (h.t.flow = k.flow) && decide (h.t.port.toNat = port)) with
    | some h => some (false, h)
    | none => none

/-- Every declared port of the instance has a token (R129). -/
def State.complete (s : State) (k : Token) : Bool :=
  (s.dirEnt k.ctx.toNat).ports.all (fun p => (s.portTok k p).isSome)

/-- The pending instances, one token of each (R128). -/
def pendKeys : List HeldTok → List Token
  | [] => []
  | h :: hs => h.t :: (pendKeys hs).filter (fun k => !sameInst k h.t)

/-- The highest PRI of a list of tokens (R134). -/
def maxPri (hs : List HeldTok) : BitVec 3 := hs.foldl (fun m h => if m.toNat < h.t.pri.toNat then h.t.pri else m) 0

/-! Resolution -/

def State.inst (s : State) (iid : Nat) : Option Inst := s.dsp.insts.find? (fun i => decide (i.iid = iid))
def State.setInst (s : State) (x : Inst) : State :=
  { s with dsp := { s.dsp with insts := s.dsp.insts.map (fun i => if i.iid = x.iid then x else i) } }
def State.dropInst (s : State) (iid : Nat) : State :=
  { s with dsp := { s.dsp with insts := s.dsp.insts.filter (fun i => decide (i.iid ≠ iid)) } }

/-- The data-token slots of a bundle are freed (R140). -/
def State.freeBundle (s : State) (b : List (Bool × HeldTok)) : State :=
  b.foldl (fun s x => if x.1 then s.freeSlot x.2 else s) s

/-- The error token of an instance (R156). -/
def instErrTok (x : Inst) (cause last : Nat) (detail : BitVec 48) : Token :=
  { ctx := x.ctx, inst := x.inst, port := 0, kind := .error, pri := x.pri, flow := x.flow, poison := false,
    value := errValue cause last x.counted detail }

/-- Resolve an instance with an error token (R153-R158): its slots are freed and it leaves the dispatcher; while the
holding buffer is full it waits, keeping its slots. -/
def State.resolve (s : State) (x : Inst) (cause last : Nat) (detail : BitVec 48) : State :=
  let out := s.errToken (instErrTok x cause last detail) true true
  if out.2 then (out.1.freeBundle x.bundle).dropInst x.iid
  else out.1.setInst { x with st := .resolving cause last detail }

/-- A word of a matching-store slot that cannot be used is met (R258, R269): where the store placed the token is free (log entry 4). -/
def State.mstBad (s : State) (m : Mark) : State :=
  let n := s.freeVal.toNat
  s.drawn.noteBad (0x2000 + n % 16) (n / 16 % 196608) (decide (m = .poison)) 0

/-- A token of a bundle is read from its slot: an unusable word is recorded, a correctable one counted (R250, R256-R258). -/
def State.bundleRead (s : State) (h : HeldTok) : State :=
  match h.code with
  | .clean => s
  | .ce => s.countCeIn 2 16
  | m => (s.mstBad m).record 0x26 2 (natBytes 2 h.t.ctx.toNat ++ natBytes 4 h.t.flow.toNat ++ natBytes 4 h.t.inst.toNat)

/-- Fire the pending instance of a key (R129, R134-R136): the bundle is taken, an instance with a poisoned token is
resolved with POISON_IN, otherwise it enters the ready list. -/
def State.fire (s : State) (k : Token) : State :=
  let bundle := ((s.dirEnt k.ctx.toNat).ports).filterMap (fun p => s.portTok k p)
  let data := (bundle.filter (fun x => x.1)).map (fun x => x.2)
  let x : Inst :=
    { iid := s.dsp.nextIid, ctx := k.ctx, flow := k.flow, inst := k.inst, pri := maxPri data, bundle := bundle, counted := 0,
      lastCause := 0, ready := s.dsp.now, ret := s.dsp.now, avoid := [], st := .ready, origin := 0, clusters := [], tend := false,
      dabort := false, storeErrs := [] }
  let s := { s with
    mst := { s.mst with pend := s.mst.pend.filter (fun h => !sameInst h.t k) }
    dsp := { s.dsp with insts := s.dsp.insts ++ [x], nextIid := s.dsp.nextIid + 1 } }
  let s := bundle.foldl (fun s b => s.bundleRead b.2) s
  match bundle.find? (fun b => b.2.t.poison || b.2.code.bad) with
  | some b => s.resolve x 7 0 (BitVec.ofNat 48 b.2.t.port.toNat)
  | none => s

/-- Fire every pending instance that is complete (R129). -/
def State.fireAll (s : State) : State :=
  (pendKeys s.mst.pend).foldl (fun s k => if s.complete k then s.fire k else s) s

/-! Admission (R130-R132, R138) -/

/-- Admission of the token would make a pending instance fire (R138). -/
def State.completing (s : State) (t : Token) : Bool :=
  if t.kind = .sticky then
    let s' := { s with mst := { s.mst with sticky := s.mst.sticky ++ [({ t := t, resv := false, code := .clean } : HeldTok)] } }
    (pendKeys s.mst.pend).any (fun k => s'.complete k)
  else
    ({ s with mst := { s.mst with pend := s.mst.pend ++ [({ t := t, resv := false, code := .clean } : HeldTok)] } }).complete t

def State.setJudged (s : State) (j : Judged) : State := { s with mst := { s.mst with judged := j } }

/-- Resolve a single token with an error token (R131, R132, R133); it waits while the holding buffer is full. -/
def State.tokError (s : State) (t : Token) (cause : Nat) : State :=
  let out := s.errToken (errOfToken t cause) false false
  out.1.setJudged (if out.2 then .resolved cause else .waits)

/-- Put an admitted token in the store and fire what it completes. -/
def State.holdTok (s : State) (t : Token) (resv : Bool) : State :=
  let p := s.placeCode 2
  let h : HeldTok := ⟨t, resv, p.2⟩
  let s := p.1
  let s := if t.kind = .sticky then { s with mst := { s.mst with sticky := s.mst.sticky ++ [h] } }
    else { s with mst := { s.mst with pend := s.mst.pend ++ [h] } }
  (s.setJudged .admitted).fireAll

/-- A sticky token replaces the one held for its key (R130). -/
def State.replaceSticky (s : State) (t : Token) (old : HeldTok) : State :=
  let s := if old.resv then s
    else (s.setUsed old.t.pri.toNat (s.usedP old.t.pri.toNat - 1))
  let s := if old.resv then s else s.setUsed t.pri.toNat (s.usedP t.pri.toNat + 1)
  let p := s.placeCode 2
  let s := { p.1 with mst := { p.1.mst with sticky := s.mst.sticky.map (fun h => if h = old then ({ t := t, resv := old.resv, code := p.2 } : HeldTok) else h) } }
  (s.setJudged .admitted).fireAll

/-- Admit a data or sticky token (R138). -/
def State.intake (s : State) (t : Token) : State :=
  let p := t.pri.toNat
  match (if t.kind = .sticky then s.mst.sticky.find? (fun h => sameSticky h.t t) else none) with
  | some old => s.replaceSticky t old
  | none =>
    let comp := s.completing t
    if s.usedP p < s.resP p ∨ s.sharedFree > 0 then (s.setUsed p (s.usedP p + 1)).holdTok t false
    else if comp ∧ s.mst.crUsed < s.cres then
      ({ s with mst := { s.mst with crUsed := s.mst.crUsed + 1 } }).holdTok t true
    else
      let s := s.bump (MST_REF p) MST_CNTOVF p
      let s := if comp then s.setBits MST_STATUS 1 else s.setBits MST_STATUS 2
      s.setJudged .refused

/-- Judge a data or sticky token (R131, R132, R138). -/
def State.judgeToken (s : State) (t : Token) : State :=
  let d := s.dirEnt t.ctx.toNat
  if !d.valid then s.tokError t 0x0C
  else if !d.declares t.port.toNat then s.tokError t 0x08
  else if t.kind = .data && s.mst.pend.any (fun h => sameInst h.t t && decide (h.t.port = t.port)) then s.tokError t 0x09
  else s.intake t

/-- A token of KIND error is appended to its queue unchanged (R132, R182). -/
def State.errArrives (s : State) (t : Token) : State :=
  let out := s.errAppend t.flow.toNat t
  if out.2 then out.1.setJudged .acted
  else
    let h := out.1.errHold ⟨t, t.flow.toNat, false, false, false⟩
    h.1.setJudged (if h.2 then .acted else .waits)

/-! Control tokens (R133) -/

/-- Count a control token (R133, DSP_CTLTOK). -/
def State.countControl (s : State) : State := s.bump DSP_CTLTOK DSP_CNTOVF 8

def State.clrStickyTok (s : State) (t : Token) : State :=
  match s.mst.sticky.find? (fun h => sameSticky h.t t) with
  | some old =>
    let s := s.freeSlot old
    { s with mst := { s.mst with sticky := s.mst.sticky.filter (fun h => !sameSticky h.t t) } }
  | none => s

def State.clrFlowTok (s : State) (t : Token) : State :=
  let mine (h : HeldTok) : Bool := decide (h.t.ctx = t.ctx) && decide (h.t.flow = t.flow)
  let s' := (s.mst.sticky.filter mine).foldl (fun s h => s.freeSlot h) s
  { s' with mst := { s'.mst with sticky := s'.mst.sticky.filter (fun h => !mine h) } }

/-- CANCEL: a pending instance is removed and resolved as CANCELLED, with the highest PRI of its tokens (R133, R156). -/
def State.cancelInst (s : State) (t : Token) : State × Bool :=
  let toks := s.mst.pend.filter (fun h => sameInst h.t t)
  match toks with
  | [] => (s, true)
  | _ =>
    let e : Token := { ctx := t.ctx, inst := t.inst, port := 0, kind := .error, pri := maxPri toks, flow := t.flow, poison := false,
                       value := errValue 0x0A 0 0 0 }
    let out := s.errToken e true true
    if out.2 then
      let s := toks.foldl (fun s h => s.freeSlot h) out.1
      ({ s with mst := { s.mst with pend := s.mst.pend.filter (fun h => !sameInst h.t t) } }, true)
    else (out.1, false)

/-- A control token arrives (R133): acted on by its command, or waiting while the holding buffer is full. -/
def State.controlToken (s : State) (t : Token) : State :=
  match t.value.toNat / 2 ^ 56 with
  | 1 => ((s.clrStickyTok t).countControl).setJudged .acted
  | 2 => ((s.clrFlowTok t).countControl).setJudged .acted
  | 3 =>
    let out := s.cancelInst t
    if out.2 then (out.1.countControl).setJudged .acted else out.1.setJudged .waits
  | _ =>
    let out := s.errToken (errOfToken t 0x0B) false false
    if out.2 then (out.1.countControl).setJudged (.resolved 0x0B) else out.1.setJudged .waits

/-- Present a token to the matching store (R126). -/
def State.present (s : State) (t : Token) : State :=
  match t.kind with
  | .data => s.judgeToken t
  | .sticky => s.judgeToken t
  | .error => s.errArrives t
  | .control => s.controlToken t

/-- The token presented last left its source. -/
def State.taken (s : State) : Bool :=
  match s.mst.judged with
  | .refused => false
  | .waits => false
  | _ => true

/-- An enqueue is judged (R126, R179): an error token may wait in the holding buffer. False: it stays. -/
def State.judgeEnqueue (s : State) (q : Nat) (t : Token) : State × Bool :=
  if t.kind = .error then
    let out := s.errEnter q t
    if out.2 then out else out.1.errHold ⟨t, q, false, false, true⟩
  else s.qEnqueue q t

/-- A token comes to a queue's input of the queue engine (R179, R198): while one that was refused waits there, it stays behind it. -/
def State.toQueue (s : State) (q : Nat) (t : Token) : State × Bool :=
  if s.sinkBusy (queuePort q) then (s, false) else s.judgeEnqueue q t

/-- An error token at the head of a queue with CONS = 0b11 leaves for the queue of FLOW_ERRQ, or waits in the holding buffer (R182). -/
def State.redirect (s : State) (q : Nat) (t : Token) : State × Bool :=
  let out := s.errAppend q t
  if out.2 then out else out.1.errHold ⟨t, q, false, false, false⟩

/-- A token comes to its input of the matching store (R139, R198): while one that was refused waits there, it stays behind it. -/
def State.toMst (s : State) (t : Token) : State × Bool :=
  if s.sinkBusy (mstPort t.flow.toNat) then (s.setJudged .waits, false)
  else
    let s := s.present t
    (s, s.taken)

/-- Present a token that comes from port `src` with a destination bit: matching store or queue FLOW (R198, R535). It stays with its source while its way
or its sink's input takes no packet (false). -/
def State.sinkToken (s : State) (src : PortId) (queue : Bool) (t : Token) : State × Bool :=
  let dst := if queue then queuePort t.flow.toNat else mstPort t.flow.toNat
  if !s.oneWay src dst ∨ s.portSt dst ≠ .ready then (s, false)
  else
    let o := if queue then s.toQueue t.flow.toNat t else s.toMst t
    if o.2 then (o.1.countFlits dst 1, true) else o

end Sys2Proof.Machine
end

