-- ==== Sys2Proof/Machine/Residency.lean ====
section
/-! DEFINITION. Shapes and positions (R100-R102), residency (R103-R107), target choice (R112, R113), fills (R108-R110,
R117), pins (R114-R116), restores (R118-R120). -/

namespace Sys2Proof.Machine

/-- W, H, D of a shape code (R100). -/
def shapeDims (n : Nat) : Nat × Nat × Nat :=
  match n with
  | 0 => (1, 1, 1)
  | 1 => (2, 1, 1)
  | 2 => (2, 2, 1)
  | 3 => (4, 2, 1)
  | 4 => (4, 4, 1)
  | 5 => (1, 1, 2)
  | _ => (2, 2, 2)

/-- The most planes a shape may have (R100). -/
def shapeMaxPlanes (n : Nat) : Nat :=
  match n with
  | 3 => 2
  | 4 => 1
  | 6 => 2
  | _ => 4

/-- Clusters of a shape (R100). -/
def shapeSize (n : Nat) : Nat := (shapeDims n).1 * (shapeDims n).2.1 * (shapeDims n).2.2

def clX (c : Nat) : Nat := c % 32
def clY (c : Nat) : Nat := c / 32 % 16
def clDie (c : Nat) : Nat := c / 512
/-- The vertical pair of a cluster (R29). -/
def pairOf (c : Nat) : Nat := clY c / 4 * 8 + clX c / 4

/-- The context bus of a cluster (R21). -/
def busOf (c : Nat) : Nat := regionIdx c

/-- The position of a cluster in a shape (R102). -/
def posOf (shape c : Nat) : Nat :=
  let d := shapeDims shape
  (if d.2.2 = 2 then clDie c else 0) * (d.1 * d.2.1) + clY c % d.2.1 * d.1 + clX c % d.1

/-- The clusters of a placement with origin `o`, in position order (R101, R102). -/
def placement (shape o : Nat) : List Nat :=
  let d := shapeDims shape
  (List.range d.2.2).flatMap (fun dz => (List.range d.2.1).flatMap (fun dy => (List.range d.1).map (fun dx =>
    o + 512 * dz + 32 * dy + dx)))

/-- The legal origins of a shape (R101). -/
def legalOrigin (shape o : Nat) : Bool :=
  let d := shapeDims shape
  decide (o < 1024) && decide (clX o % d.1 = 0) && decide (clY o % d.2.1 = 0) && (decide (d.2.2 = 1) || decide (o < 512))

def columnPair (shape : Nat) : Bool := decide ((shapeDims shape).2.2 = 2)

/-! Residency -/

def physPlanes : List Nat := [0, 1, 2, 3]

/-- The physical plane VALID with a tag (R104). -/
def State.validPlane (s : State) (c : Nat) (ctx : BitVec 12) (q p : Nat) : Option Nat :=
  physPlanes.find? (fun i => let x := s.plane c i
    decide (x.st = .valid) && decide (x.ctx = ctx) && decide (x.pos = q) && decide (x.pindex = p))

/-- The physical plane VALID or FILLING with a tag (R112). -/
def State.tagPlane (s : State) (c : Nat) (ctx : BitVec 12) (q p : Nat) : Option Nat :=
  physPlanes.find? (fun i => let x := s.plane c i
    decide (x.st ≠ .invalid) && decide (x.ctx = ctx) && decide (x.pos = q) && decide (x.pindex = p))

/-- A cluster holds a context at its position (R104). -/
def State.holds (s : State) (c : Nat) (ctx : BitVec 12) : Bool :=
  let d := s.dirEnt ctx.toNat
  (List.range d.planes).all (fun p => (s.validPlane c ctx (posOf d.shape c) p).isSome)

def State.pin (s : State) (c e : Nat) : Pin := smGet Pin.zero s.res.pins (2 * c + e)
def State.setPin (s : State) (c e : Nat) (x : Pin) : State :=
  { s with res := { s.res with pins := smSet Pin.zero s.res.pins (2 * c + e) x } }

/-- A VALID plane protected by an enabled pin (R115, R116). -/
def State.pinned (s : State) (c i : Nat) : Bool :=
  let x := s.plane c i
  !s.fenced c && decide (x.st = .valid) && [0, 1].any (fun e => let p := s.pin c e
    p.en && decide (p.ctx = x.ctx) && decide (p.pos = x.pos))

/-- A plane of the resident set of the task running on the cluster (R107). -/
def State.inRunningSet (s : State) (c i : Nat) : Bool :=
  match (s.cluster c).run with
  | some iid =>
    match s.inst iid with
    | some x => decide ((s.plane c i).st ≠ .invalid) && decide ((s.plane c i).ctx = x.ctx)
    | none => false
  | none => false

/-- A plane of the own set of an instance placed on the cluster and not yet started: no victim for another placement (R113). -/
def State.inPlacedSet (s : State) (c i : Nat) : Bool :=
  let x := s.plane c i
  decide (x.st ≠ .invalid) && s.dsp.insts.any (fun y => decide (y.st = .placed) && y.clusters.contains c &&
    decide (y.ctx = x.ctx) && decide (x.pos = posOf (s.dirEnt y.ctx.toNat).shape c))

/-- A physical plane may be the target of a fill (R107, R113). -/
def State.eligible (s : State) (c i : Nat) : Bool :=
  !(decide ((s.cluster c).run ≠ none) && decide ((s.cluster c).plane = i)) && !s.inRunningSet c i &&
  decide ((s.plane c i).st ≠ .filling) && decide ((s.plane c i).resv = none) && !s.inPlacedSet c i && !s.pinned c i

/-- The resident sets of a cluster as lists of planes: planes not INVALID with one (CTX, POS) (R104). -/
def State.sets (s : State) (c : Nat) : List (List Nat) :=
  let live := physPlanes.filter (fun i => decide ((s.plane c i).st ≠ .invalid))
  let same (i j : Nat) : Bool := decide ((s.plane c i).ctx = (s.plane c j).ctx) && decide ((s.plane c i).pos = (s.plane c j).pos)
  (live.filter (fun i => live.all (fun j => !(decide (j < i) && same i j)))).map (fun i => live.filter (fun j => same i j))

/-- The oldest age in a set (R112). -/
def State.setAge (s : State) (c : Nat) (ps : List Nat) : Nat := ps.foldl (fun m i => Nat.max m (s.plane c i).age.toNat) 0

/-- Insert a set in eviction order: oldest first, then lowest plane (R112). -/
def State.insSet (s : State) (c : Nat) (x : List Nat) : List (List Nat) → List (List Nat)
  | [] => [x]
  | y :: ys =>
    if s.setAge c x > s.setAge c y ∨ (s.setAge c x = s.setAge c y ∧ x.headD 0 < y.headD 0) then x :: y :: ys
    else y :: s.insSet c x ys

/-- Take whole sets from the front until they cover `n` planes (R112). -/
def takeSets (n : Nat) : List (List Nat) → List (List Nat)
  | [] => []
  | x :: xs => if n = 0 then [] else x :: takeSets (n - x.length) xs

/-- The targets of a cluster that is to take a context (R112): pairs (PINDEX, physical plane) and the sets evicted; planes in `bar` are
no targets. None when the cluster cannot take it now. -/
def State.targets (s : State) (c : Nat) (ctx : BitVec 12) (bar : List Nat) : Option (List (Nat × Nat) × List (List Nat)) :=
  let d := s.dirEnt ctx.toNat
  let q := posOf d.shape c
  let missing := (List.range d.planes).filter (fun p => (s.tagPlane c ctx q p).isNone)
  let elig := physPlanes.filter (fun i => s.eligible c i && !bar.contains i)
  let free := elig.filter (fun i => decide ((s.plane c i).st = .invalid))
  if free.length ≥ missing.length then some (missing.zip free, [])
  else
    let mine (ps : List Nat) : Bool := ps.any (fun i => decide ((s.plane c i).ctx = ctx) && decide ((s.plane c i).pos = q))
    let victims := ((s.sets c).filter (fun ps => ps.all (fun i => elig.contains i) && !mine ps)).foldl (fun acc x => s.insSet c x acc) []
    let taken := takeSets (missing.length - free.length) victims
    let tp := (physPlanes.filter (fun i => taken.any (fun ps => ps.contains i)))
    if free.length + tp.length ≥ missing.length then some (missing.zip (free ++ tp), taken)
    else none

/-- The requests of a pin: each waits for a target of its own (R115, CTX_QSTATE of R121). -/
def FillReq.preload (r : FillReq) : Bool := decide (r.cls = 1) && !r.again

/-- The planes that the waiting preloads of a cluster are to take. -/
def State.preloadPlanes (s : State) (c : Nat) : List Nat :=
  (s.res.reqs.filter (fun r => r.preload && decide (r.cluster = c))).flatMap (fun r => r.plane :: r.evict)

/-- Withdraw the preload requests of a cluster for a context: they are one choice of R112. -/
def State.dropPreloads (s : State) (c : Nat) (ctx : BitVec 12) : State :=
  { s with res := { s.res with reqs := s.res.reqs.filter (fun r => !(r.preload && decide (r.cluster = c) && decide (r.ctx = ctx))) } }

/-- Withdraw the preload requests of a cluster whose choice names one of some planes: a placed instance has taken it, and the pin chooses again (R115). -/
def State.yieldPreloads (s : State) (c : Nat) (ps : List Nat) : State :=
  (s.res.reqs.filter (fun r => r.preload && decide (r.cluster = c) && (r.plane :: r.evict).any (fun i => ps.contains i))).foldl
    (fun s r => s.dropPreloads c r.ctx) s

/-- Queue the request for one target; the target is reserved for the instance it is made for (R113). -/
def State.askFill (s : State) (r : FillReq) : State :=
  let s := { s with res := { s.res with reqs := s.res.reqs ++ [r] } }
  if r.iid.isSome then s.setPlane r.cluster r.plane { s.plane r.cluster r.plane with resv := r.iid } else s

/-- Make the fill requests of a cluster for an instance or, with no instance, for a pin (R112, R113). -/
def State.requestFills (s : State) (c : Nat) (ctx : BitVec 12) (pri : Nat) (iid : Option Nat) : State :=
  match s.targets c ctx (if iid.isSome then [] else s.preloadPlanes c) with
  | none => s
  | some (asg, evs) =>
    let s := if iid.isSome then s.yieldPreloads c (asg.map (fun a => a.2) ++ evs.flatten) else s
    asg.foldl (fun s a =>
      s.askFill { cls := if iid.isSome then 0 else 1, pri := pri, cyc := s.dsp.now, cluster := c, plane := a.2, ctx := ctx,
                  pos := posOf (s.dirEnt ctx.toNat).shape c, pindex := a.1, iid := iid, again := false, evict := evs.flatten, nsets := evs.length }) s

/-- Make a plane INVALID: tag, image and age are gone; a reservation stays. -/
def State.invalidate (s : State) (c i : Nat) : State :=
  s.setPlane c i { Plane.zero with resv := (s.plane c i).resv }

/-- Every plane of a cluster becomes INVALID and unreserved (R105): the fills on their way to it and the requests of its pins end with them. -/
def State.invalidateAll (s : State) (c : Nat) : State :=
  let s := physPlanes.foldl (fun s i => s.setPlane c i Plane.zero) s
  { s with res := { s.res with
    flight := s.res.flight.filter (fun r => decide (r.cluster ≠ c))
    reqs := s.res.reqs.filter (fun r => decide (r.cluster ≠ c)) } }

/-! Withdrawal (R170) and return to the ready list (R161) -/

/-- Release what a placement holds: reserved planes and waiting requests. -/
def State.unreserve (s : State) (iid : Nat) : State :=
  { s with res := { s.res with
    planes := (s.res.planes.map (fun e => if e.2.resv = some iid then (e.1, { e.2 with resv := none }) else e)).filter (fun e => decide (e.2 ≠ Plane.zero))
    reqs := s.res.reqs.filter (fun r => decide (r.iid ≠ some iid)) } }

/-- A placed instance goes back to the ready list with its original ready time. -/
def State.withdraw (s : State) (iid : Nat) : State :=
  match s.inst iid with
  | some x =>
    if x.st = .placed then
      ((s.unreserve iid).dropBundles iid).setInst { x with st := .ready, ret := s.dsp.now, clusters := [], origin := 0 }
    else s
  | none => s

/-! Fills -/

/-- Stored plane key of (slot, CTX, index). -/
def storeKey (slot ctx i : Nat) : Nat := 16 * (4096 * slot + ctx) + i

/-- First Slate row of a stored plane within its slot (R96). -/
def planeRow (ctx i : Nat) : Nat := ctx * 0x200 + i * 32

/-- The bytes 0x000-0x7FB of a plane (R65). -/
def planeBytes (w : SMap Word) : List Byte := (List.range 511).flatMap (fun i => wordBytes (smGet 0 w i))

/-- The plane's CRC agrees with PLANE_CRC (R65). -/
def planeCrcOk (w : SMap Word) : Bool := decide (crc32c (planeBytes w) = smGet 0 w 511)

/-- The cluster of a request can receive a fill (R108, R513, R315). -/
def State.canReceive (s : State) (c : Nat) : Bool :=
  (decide (s.dom c = .on) || decide (s.dom c = .cirrus)) && !s.fenced c &&
  !(decide ((s.bist.runL.map (fun b => b.cluster)) = some c) || decide ((s.bist.runU.map (fun b => b.cluster)) = some c))

/-- A request may be granted now (R107, R108, R118): cluster able to receive, context not restoring, target still allowed. A fill granted a second time
(R117) has its target already. The target of a placed instance is its own by R113, also where a pin was set on the plane's set since (log entry 92). -/
def State.grantable (s : State) (r : FillReq) : Bool :=
  s.canReceive r.cluster && decide (s.ctxSt r.ctx.toNat = .available) &&
  (r.again || (decide ((s.plane r.cluster r.plane).resv = r.iid) && decide ((s.plane r.cluster r.plane).st ≠ .filling) &&
    (r.iid.isSome || (r.plane :: r.evict).all (fun i => s.eligible r.cluster i))))

/-- The order of grants (R109); a fill granted a second time goes to the front (R117). -/
def fillBefore (a b : FillReq) : Bool :=
  if a.again ≠ b.again then a.again
  else if a.cls ≠ b.cls then decide (a.cls < b.cls)
  else if a.pri ≠ b.pri then decide (a.pri > b.pri)
  else if a.cyc ≠ b.cyc then decide (a.cyc < b.cyc)
  else if a.cluster ≠ b.cluster then decide (a.cluster < b.cluster)
  else decide (a.pindex < b.pindex)

/-- The first request of a bus that may be granted (R108, R109). -/
def State.firstFill (s : State) (bus : Nat) : Option FillReq :=
  (s.res.reqs.filter (fun r => decide (busOf r.cluster = bus) && s.grantable r)).foldl
    (fun acc r => match acc with
      | some b => if fillBefore r b then some r else some b
      | none => some r) none

/-- Requests of one choice of R112. -/
def FillReq.sameChoice (a b : FillReq) : Bool := decide (a.cluster = b.cluster) && decide (a.iid = b.iid) && decide (a.ctx = b.ctx)

/-- The first grant into a cluster takes the chosen sets out (R112): they are counted, and their planes that no request of the choice is to fill become
INVALID. -/
def State.evictFor (s : State) (r : FillReq) : State :=
  let n := ((s.sets r.cluster).filter (fun ps => ps.any (fun i => r.evict.contains i))).length
  let due := (s.res.reqs.filter (fun x => x.sameChoice r)).map (fun x => x.plane)
  let s := (r.evict.filter (fun i => !due.contains i)).foldl (fun s i => s.invalidate r.cluster i) s
  let s := s.bumpN CTX_EVICTS CTX_CNTOVF 1 n
  { s with res := { s.res with reqs := s.res.reqs.map (fun x => if x.sameChoice r then { x with evict := [], nsets := 0 } else x) } }

/-- Grant a request (R110 S0, R112): it leaves the requests, what it evicts goes, and the target is FILLING with the new tag. -/
def State.grant (s : State) (r : FillReq) : State :=
  let s := { s with res := { s.res with reqs := s.res.reqs.filter (fun x => decide (x ≠ r)) } }
  let s := if r.nsets ≠ 0 then ({ s with res := { s.res with reqs := r :: s.res.reqs } } : State).evictFor r else s
  let q : FillReq := { r with evict := [], nsets := 0 }
  let s := { s with res := { s.res with reqs := s.res.reqs.filter (fun x => decide (x ≠ q)), flight := s.res.flight ++ [q] } }
  s.setPlane r.cluster r.plane
    { Plane.zero with st := .filling, ctx := r.ctx, pos := r.pos, pindex := r.pindex, resv := (s.plane r.cluster r.plane).resv }

/-! Slate rows (R248, R249, R257) -/

/-- What the code of a row of a version slot reports; rows are counted from the start of the slot. -/
def State.rowAt (s : State) (slot row : Nat) : Mark := smGet .clean s.res.rowMark (2 ^ 21 * slot + row)

/-- The rows of a stored plane. -/
def planeRows (ctx i : Nat) : List Nat := (List.range 32).map (fun r => planeRow ctx i + r)

/-- The first uncorrectable row of a stored plane. -/
def State.badRow (s : State) (slot ctx i : Nat) : Option Nat :=
  (planeRows ctx i).find? (fun r => (s.rowAt slot r).bad)

/-- A fill reads the rows of a stored plane: what their codes report is noted (R257, R258). -/
def State.readRows (s : State) (slot ctx i : Nat) : State :=
  (planeRows ctx i).foldl (fun s r => s.noteMark (s.rowAt slot r) (unitSlate slot r) (r % 2 ^ 18) 0) s

/-- A context enters RESTORING (R118): event, record of the failing row, its place in the order of restores. -/
def State.beginRestore (s : State) (ctx row : Nat) : State :=
  if s.ctxSt ctx = .available then
    let s := { s with res := { s.res with
      ctxSt := smSet .available s.res.ctxSt (4096 * s.slot + ctx) .restoring, restoreQ := s.res.restoreQ ++ [ctx] } }
    (s.setBits CTX_STATUS 4).record 0x12 1 (natBytes 2 ctx ++ natBytes 4 (2 ^ 31 * s.slot + row))
  else s

/-- A failed fill (R117). -/
def State.fillFailed (s : State) (r : FillReq) (row : Nat) : State :=
  let s := (s.invalidate r.cluster r.plane).bump CTX_FILLERR CTX_CNTOVF 2
  let s := s.beginRestore r.ctx.toNat row
  match r.iid with
  | some iid => s.withdraw iid
  | none => s

/-- A fill whose CRC comparison failed once goes to the front of its bus's order (R117): granted again at once, or waiting there while no fill of the context
is granted (R118). -/
def State.fillAgain (s : State) (r : FillReq) : State :=
  let q : FillReq := { r with again := true }
  if s.grantable q then { s with res := { s.res with flight := s.res.flight ++ [q] } }
  else { s with res := { s.res with reqs := q :: s.res.reqs } }

/-- The end of a fill (R110 S21, R117). A second mismatch has no failing row: the record names the plane's first (log entry 93). -/
def State.fillEnd (s : State) (r : FillReq) : State :=
  let s := { s with res := { s.res with flight := s.res.flight.filter (fun x => decide (x ≠ r)) } }
  let d := s.dirEnt r.ctx.toNat
  let i := r.pos * d.planes + r.pindex
  let w := smGet [] s.res.store (storeKey s.slot r.ctx.toNat i)
  let s := s.readRows s.slot r.ctx.toNat i
  match s.badRow s.slot r.ctx.toNat i with
  | some row => s.fillFailed r row
  | none =>
    if planeCrcOk w then
      (s.setPlane r.cluster r.plane { s.plane r.cluster r.plane with st := .valid, age := 0, words := w }).bump CTX_FILLS CTX_CNTOVF 0
    else if r.again then s.fillFailed r (planeRow r.ctx.toNat i)
    else s.fillAgain r

/-- A pin of a cluster wants preload fills of a context (R115). -/
def State.wantsPreload (s : State) (c : Nat) (ctx : BitVec 12) : Bool :=
  !s.fenced c && decide (s.ctxSt ctx.toNat ≠ .unavailable) && !s.holds c ctx &&
  [0, 1].any (fun e => let p := s.pin c e; p.en && p.load && decide (p.ctx = ctx))

/-- The preloads of the pins of a bus (R115): a choice that no pin wants any more, or whose planes are no longer allowed, is withdrawn; a pin whose set is
incomplete and which has none makes its requests. A released pin's waiting requests go with it (R116, log entry 94). -/
def State.pinScan (s : State) (bus : Nat) : State :=
  let stale (r : FillReq) : Bool := r.preload && decide (busOf r.cluster = bus) &&
    !(s.wantsPreload r.cluster r.ctx && (r.plane :: r.evict).all (fun i => s.eligible r.cluster i))
  let s := (s.res.reqs.filter stale).foldl (fun s r => s.dropPreloads r.cluster r.ctx) s
  s.res.pins.foldl (fun s e =>
    let c := e.1 / 2
    let p := e.2
    if decide (busOf c = bus) && p.en && p.load && s.wantsPreload c p.ctx &&
       !((s.res.reqs ++ s.res.flight).any (fun r => decide (r.cluster = c) && decide (r.ctx = p.ctx))) then
      s.requestFills c p.ctx 0 none
    else s) s

/-- A fill that waits to be granted a second time ends with its context: its plane is INVALID (R117, R120). -/
def State.dropAgain (s : State) (ctx : Nat) : State :=
  (s.res.reqs.filter (fun r => r.again && decide (r.ctx.toNat = ctx))).foldl (fun s r => s.invalidate r.cluster r.plane) s

/-- A context becomes UNAVAILABLE (R119, R170): its waiting fills go, placements that need them are withdrawn. -/
def State.makeUnavailable (s : State) (ctx : Nat) (cause : Nat) : State :=
  let s := s.dropAgain ctx
  let s := { s with res := { s.res with
    ctxSt := smSet .available s.res.ctxSt (4096 * s.slot + ctx) .unavailable
    restoreQ := s.res.restoreQ.filter (fun x => decide (x ≠ ctx))
    reqs := s.res.reqs.filter (fun r => decide (r.ctx.toNat ≠ ctx)) } }
  let s := (s.setBits CTX_STATUS 2).record 0x13 3 (natBytes 2 ctx ++ natBytes 1 cause)
  s.dsp.insts.foldl (fun s x =>
    if x.ctx.toNat = ctx ∧ x.st = .placed ∧ !(x.clusters.all (fun c => s.holds c x.ctx)) then s.withdraw x.iid else s) s

end Sys2Proof.Machine
end

