-- ==== Sys2Proof/Machine/Place.lean ====
section
/-! DEFINITION. The dispatcher (R160-R176): idle clusters, candidates and their tiers, the Shadow budget, order check,
placement, claims. -/

namespace Sys2Proof.Machine

/-! Shadow budget (R173, R174) -/

/-- Current operating point of a cluster's region (PWR_OPPr.CUR). -/
def State.curOpp (s : State) (r : Nat) : Nat :=
  let o := fld (s.rd (PWR_OPP r)) 9 8
  if fld (s.rd CLK_SRC) (2 * o + 5) (2 * o + 4) ≠ 0 then 0 else o
def State.wClass (s : State) (c : Nat) : Nat :=
  let r := match c / 4 with
    | 0 => s.rd DSP_PCW0
    | 1 => s.rd DSP_PCW1
    | 2 => s.rd DSP_PCW2
    | _ => s.rd DSP_PCW3
  fld r (8 * (c % 4) + 7) (8 * (c % 4))
def State.fPoint (s : State) (o : Nat) : Nat := fld (s.rd DSP_OPPF) (8 * o + 4) (8 * o)
/-- Contribution of clusters running a power class (R173). -/
def State.contrib (s : State) (cls : Nat) (cs : List Nat) : Nat :=
  (cs.map (fun c => s.wClass cls * s.fPoint (s.curOpp (regionIdx c)))).foldl (· + ·) 0
/-- An instance counts in S_k: from placement to commit point, abort or withdrawal. -/
def InstSt.counts : InstSt → Bool
  | .placed => true
  | .running => true
  | .ending => true
  | .ended => true
  | _ => false
/-- The contribution of the BIST tests to pair k (R512). -/
def State.bistContrib (s : State) (k : Nat) : Nat :=
  let one (b : Option BistRun) : Nat := match b with
    | some r => if pairOf r.cluster = k then s.contrib 15 [r.cluster] else 0
    | none => 0
  one s.bist.runL + one s.bist.runU
/-- S_k (R173). -/
def State.shadow (s : State) (k : Nat) : Nat :=
  ((s.dsp.insts.filter (fun x => x.st.counts && decide (pairOf x.origin = k))).map (fun x =>
    s.contrib (s.dirEnt x.ctx.toNat).pwrclass x.clusters)).foldl (· + ·) 0 + s.bistContrib k
/-- BEFF_k (R174). -/
def State.beff (s : State) (k : Nat) : Nat := Nat.min (s.rd (DSP_BUD k)).toNat (s.rd (DSP_BCAP k)).toNat
def State.loadK (s : State) (k : Nat) : Nat := smGet 0 s.dsp.load k

/-! Idle clusters (R163) -/

/-- A claim of another instance names the cluster. -/
def State.claimedBy (s : State) (iid c : Nat) : Bool :=
  s.dsp.claims.any (fun k => decide (k.iid ≠ iid) && k.clusters.contains c)
/-- A placed instance holds the cluster. -/
def State.placedOn (s : State) (c : Nat) : Bool :=
  s.dsp.insts.any (fun x => decide (x.st = .placed) && x.clusters.contains c)
/-- The cluster runs no task, or the TEND of its task has taken effect. -/
def State.taskGone (s : State) (c : Nat) : Bool :=
  match (s.cluster c).run with
  | none => true
  | some iid =>
    match s.inst iid with
    | some x => x.tend || decide (x.st = .ending)
    | none => true
/-- Held as by CLW_CTRL.HOLD: by software, a march, BIST or a cluster reset (R163, R265, R513, R532). -/
def State.held (s : State) (c : Nat) : Bool :=
  tb (s.rd (CLW_CTRL c)) 8 || s.marching (unitCmem c) || s.marching (unitCb c) ||
  decide ((s.bist.runL.map (fun b => b.cluster)) = some c) || decide ((s.bist.runU.map (fun b => b.cluster)) = some c) || decide (s.flt.crst = some c)
def State.idleFor (s : State) (iid c : Nat) : Bool :=
  s.taskGone c && !s.placedOn c && !s.fenced c && !s.held c && !s.claimedBy iid c

/-! Candidates (R164, R165) -/

/-- Tier of a placement for a context; 4 when it fits none. -/
def State.tier (s : State) (ctx : BitVec 12) (cs : List Nat) : Nat :=
  if cs.all (fun c => s.holds c ctx) then 1
  else if s.ctxSt ctx.toNat = .unavailable then 4
  else if cs.all (fun c => match s.targets c ctx [] with | some (_, []) => true | _ => false) then 2
  else if cs.all (fun c => (s.targets c ctx []).isSome) then 3
  else 4

/-- Missing planes of a placement. -/
def State.missing (s : State) (ctx : BitVec 12) (cs : List Nat) : Nat :=
  let d := s.dirEnt ctx.toNat
  (cs.map (fun c => ((List.range d.planes).filter (fun p => (s.tagPlane c ctx (posOf d.shape c) p).isNone)).length)).foldl (· + ·) 0

/-- The ranking keys of a candidate (R165), most significant first. -/
def State.rankKeys (s : State) (x : Inst) (o : Nat) (cs : List Nat) : List Nat :=
  [if cs.any (fun c => x.avoid.contains c) then 1 else 0,
   (cs.filter (fun c => decide (s.dom c = .nimbus))).length,
   (cs.filter (fun c => decide (s.dom c = .stratus))).length,
   s.missing x.ctx cs,
   (cs.map (fun c => (s.cluster c).cb.length)).foldl (· + ·) 0,
   s.loadK (pairOf o),
   (o + 1024 - s.dsp.rrptr) % 1024]

/-- Lexicographic order of keys. -/
def keysLt : List Nat → List Nat → Bool
  | a :: as, b :: bs => if a < b then true else if b < a then false else keysLt as bs
  | _, _ => false

/-- The origin of least keys. -/
def bestOf (keys : Nat → List Nat) : List Nat → Option Nat
  | [] => none
  | o :: os =>
    match bestOf keys os with
    | none => some o
    | some b => if keysLt (keys b) (keys o) then some b else some o

/-- The legal origins of a shape (R101). -/
def origins (shape : Nat) : List Nat := (List.range 1024).filter (fun o => legalOrigin shape o)

/-- Equal operating points in a column pair (R164). -/
def State.oppEqual (s : State) (shape o : Nat) : Bool :=
  !columnPair shape || decide (s.curOpp (pairOf o) = s.curOpp (32 + pairOf o))

/-- The candidate passes the Shadow budget (R174). -/
def State.budgetOk (s : State) (x : Inst) (o : Nat) (cs : List Nat) : Bool :=
  decide (s.shadow (pairOf o) + s.contrib (s.dirEnt x.ctx.toNat).pwrclass cs ≤ s.beff (pairOf o))

/-- Place an instance on a candidate (R168): fills and wake requests are made, the firing bundle goes to every cluster. -/
def State.place (s : State) (x : Inst) (o : Nat) (cs : List Nat) : State :=
  let w := s.dsp.now - x.ret
  let p := x.pri.toNat
  let s := s.setInst { x with st := .placed, origin := o, clusters := cs }
  let s := { s with dsp := { s.dsp with rrptr := (o + 1) % 1024 } }
  let s := cs.foldl (fun s c => ((s.requestFills c x.ctx p (some x.iid)).pinScan (busOf c)).clusterWakeReq c) s
  let s := cs.foldl (fun s c => s.inject 1 (bundleFlits x.bundle.length) p (issuePort c) (clusterPort c) (.bundle x.iid c) noAddr) s
  let s := s.bump64 DSP_PLACED_LO DSP_CNTOVF 7
  let s := s.bump (DSP_HIST (16 * p + log2Bin w)) DSP_CNTOVF 9
  s.statSample (73 + p) w

/-- Count a refusal of a cause (R167). -/
def State.refuse (s : State) (cause : Nat) : State := s.bump (DSP_REF cause) DSP_CNTOVF cause

/-- The order check (R186): the cause that keeps the instance back, if any. -/
def State.orderCheck (s : State) (x : Inst) : Option Nat :=
  let f := x.flow.toNat
  if !s.isOrd f then none
  else
    let d := s.orderD f x.inst
    if d = 0 then none
    else if d ≥ 2 ^ (s.order f).winlog.toNat then some 0
    else if s.rfree < (s.rd DSP_RORES).toNat then some 1
    else none

/-- Make a claim (R171). -/
def State.makeClaim (s : State) (x : Inst) : State :=
  let shape := (s.dirEnt x.ctx.toNat).shape
  let ok (o : Nat) : Bool := (placement shape o).all (fun c => !s.fenced c && !s.held c && !s.claimedBy x.iid c)
  if fld (s.rd DSP_CTRL) 4 0 = 0 ∨ s.dsp.claims.length ≥ 8 then s
  else
    let keys (o : Nat) : List Nat :=
      ((placement shape o).filter (fun c => !s.idleFor x.iid c)).length :: s.rankKeys x o (placement shape o)
    match bestOf keys ((origins shape).filter ok) with
    | none => s
    | some o =>
      ({ s with dsp := { s.dsp with claims := s.dsp.claims ++ [({ iid := x.iid, clusters := placement shape o } : Claim)] } }).setBits DSP_STATUS 1

/-- Examine a claimed instance (R172): placed on its clusters, or a CLAIM refusal. -/
def State.tryClaim (s : State) (x : Inst) (k : Claim) : State × Bool :=
  let o := k.clusters.headD 0
  let shape := (s.dirEnt x.ctx.toNat).shape
  if (s.orderCheck x).isNone && k.clusters.all (fun c => s.idleFor x.iid c) && s.oppEqual shape o && s.budgetOk x o k.clusters &&
     decide (s.tier x.ctx k.clusters < 4) then
    (({ s with dsp := { s.dsp with claims := s.dsp.claims.filter (fun y => decide (y.iid ≠ x.iid)) } }).place x o k.clusters, true)
  else (s.refuse 6, false)

/-- A legal placement all of whose clusters hold the context exists (R120). -/
def State.suitable (s : State) (x : Inst) : Bool :=
  let shape := (s.dirEnt x.ctx.toNat).shape
  (origins shape).any (fun o => (placement shape o).all (fun c => s.holds c x.ctx))

/-- Examine one ready instance (R164-R172). True when it was placed. -/
def State.examine (s : State) (x : Inst) : State × Bool :=
  let shape := (s.dirEnt x.ctx.toNat).shape
  if s.ctxSt x.ctx.toNat = .unavailable && !s.suitable x then (s.resolve x 0x0D x.lastCause 0, false)
  else match s.dsp.claims.find? (fun k => decide (k.iid = x.iid)) with
  | some k => s.tryClaim x k
  | none =>
    match s.orderCheck x with
    | some cause => (s.refuse cause, false)
    | none =>
      let idle := (origins shape).filter (fun o => (placement shape o).all (fun c => s.idleFor x.iid c))
      let opp := idle.filter (fun o => s.oppEqual shape o)
      let bud := opp.filter (fun o => s.budgetOk x o (placement shape o))
      let inTier (t : Nat) : Option Nat :=
        bestOf (fun o => s.rankKeys x o (placement shape o)) (bud.filter (fun o => decide (s.tier x.ctx (placement shape o) = t)))
      match (inTier 1).orElse (fun _ => (inTier 2).orElse (fun _ => inTier 3)) with
      | some o => (s.place x o (placement shape o), true)
      | none =>
        let cause := if idle = [] then 2 else if opp = [] then 3 else if bud = [] then 4 else 5
        let s := s.refuse cause
        if s.dsp.now - x.ready ≥ 2 ^ fld (s.rd DSP_CTRL) 4 0 then (s.makeClaim x, false) else (s, false)

/-- The order of examination (R162). -/
def readyBefore (a b : Inst) : Bool :=
  if a.pri ≠ b.pri then decide (a.pri.toNat > b.pri.toNat)
  else if a.ready ≠ b.ready then decide (a.ready < b.ready)
  else if a.flow ≠ b.flow then decide (a.flow.toNat < b.flow.toNat)
  else decide (a.inst.toNat < b.inst.toNat)

def insReady (x : Inst) : List Inst → List Inst
  | [] => [x]
  | y :: ys => if readyBefore x y then x :: y :: ys else y :: insReady x ys

/-- The ready list in order (R162). -/
def State.readyList (s : State) : List Inst :=
  (s.dsp.insts.filter (fun x => decide (x.st = .ready))).foldl (fun acc x => insReady x acc) []

/-- One NCLK cycle of the dispatcher (R160): up to 32 examined, up to 8 placed. -/
def State.dispatch (s : State) : State :=
  let out := (s.readyList.take 32).foldl (fun (acc : State × Nat) x =>
    if acc.2 ≥ 8 then acc
    else
      let y := acc.1.examine x
      (y.1, if y.2 then acc.2 + 1 else acc.2)) (s, 0)
  out.1

/-- Fill cycles of R191: one for every awake cluster with a plane FILLING. -/
def State.countFillCycles (s : State) : State :=
  ((s.res.flight.map (fun r => r.cluster)).eraseDups).foldl (fun s c =>
    if s.dom c = .stratus ∨ s.dom c = .nimbus then s else s.bump64 (CLW_FILL_LO c) (CLW_CTRL c) 1) s

end Sys2Proof.Machine
end

