-- ==== Sys2Proof/Machine/Tasks.lean ====
section
/-! DEFINITION. Native routing (R78-R94), the cycle of an instance's clusters (R46-R59, R68, R70, R83-R85), task start
(R67, R169), abort and replay (R151-R154), commit and the end of a drain (R147-R150). -/

namespace Sys2Proof.Machine

/-! Plane image words (R62-R64) -/

/-- Word `i` of the image of the physical plane. -/
def State.img (s : State) (c p i : Nat) : Word := smGet 0 (s.plane c p).words i
/-- Word `i` of the record of cell `k`. -/
def State.cellWord (s : State) (c p k i : Nat) : Word := s.img c p (14 * k + i)
/-- Control word fields (R64). -/
def State.ctrlWord (s : State) (c p k : Nat) : Word := s.cellWord c p k 11
def loopInit (w : Word) : BitVec 8 := BitVec.ofNat 8 (fld w 31 24)
def loopStart (w : Word) : BitVec 3 := BitVec.ofNat 3 (fld w 23 21)
def chMode (w : Word) : Nat := fld w 20 19
def flagInit (w : Word) : Flags := Flags.ofWord (BitVec.ofNat 32 (fld w 18 13))
def cellActive (w : Word) : Bool := tb w 7
/-- The 16-bit input select `n` of a cell (R63, R82). -/
def State.inSel (s : State) (c p k n : Nat) : Nat := fld (s.cellWord c p k (8 + n / 2)) (16 * (n % 2) + 15) (16 * (n % 2))
/-- The output segment control word (R81). -/
def State.segWord (s : State) (c p k : Nat) : Word := s.cellWord c p k 10
/-- Byte `b` of a plane image. -/
def State.imgByte (s : State) (c p b : Nat) : Nat := byteOf (b % 4) (s.img c p (b / 4))
/-- 16-bit half at byte offset `b`. -/
def State.imgHalf (s : State) (c p b : Nat) : Nat := s.imgByte c p b + 256 * s.imgByte c p (b + 1)

/-! Directions of a switch point: 0 east, 1 west, 2 north, 3 south -/

/-- SRC, LEN and REG of a direction (R81). -/
def segSrc (w : Word) (d : Nat) : Nat :=
  match d with
  | 0 => fld w 3 0
  | 1 => fld w 11 8
  | 2 => fld w 19 16
  | _ => fld w 26 23
def segLen (w : Word) (d : Nat) : Nat :=
  match d with
  | 0 => fld w 6 4
  | 1 => fld w 14 12
  | 2 => fld w 21 20
  | _ => fld w 28 27
def segReg (w : Word) (d : Nat) : Bool :=
  match d with
  | 0 => tb w 7
  | 1 => tb w 15
  | 2 => tb w 22
  | _ => tb w 29
def segLink (w : Word) : Nat := fld w 31 30

/-- The driver register of a direction. -/
def Cell.drv (x : Cell) (d : Nat) : Word :=
  match d with
  | 0 => x.dE
  | 1 => x.dW
  | 2 => x.dN
  | _ => x.dS

/-- The driver a code of R80 names at cell `k`: the cell it comes from, its direction, the LEN bit it must have (R79). -/
def segFrom (k code : Nat) : Option (Nat × Nat × Nat) :=
  let r := k / 8
  let col := k % 8
  match code with
  | 3 => if 1 ≤ col then some (k - 1, 0, 0) else none
  | 4 => if 2 ≤ col then some (k - 2, 0, 1) else none
  | 5 => if 4 ≤ col then some (k - 4, 0, 2) else none
  | 6 => if col + 1 < 8 then some (k + 1, 1, 0) else none
  | 7 => if col + 2 < 8 then some (k + 2, 1, 1) else none
  | 8 => if col + 4 < 8 then some (k + 4, 1, 2) else none
  | 9 => if 1 ≤ r then some (k - 8, 2, 0) else none
  | 10 => if 2 ≤ r then some (k - 16, 2, 1) else none
  | 11 => if r + 1 < 4 then some (k + 8, 3, 0) else none
  | 12 => if r + 2 < 4 then some (k + 16, 3, 1) else none
  | _ => none

/-- The clusters that cycle together: those of the running instance, else the cluster alone (R93). -/
def State.group (s : State) (c : Nat) : List Nat :=
  match (s.cluster c).run with
  | some iid => match s.inst iid with
    | some x => x.clusters
    | none => [c]
  | none => [c]

/-- Two clusters belong to one running instance (R94). -/
def State.sameInstance (s : State) (c d : Nat) : Bool :=
  decide ((s.cluster c).run = (s.cluster d).run) && decide ((s.cluster c).run ≠ none)

/-- The cell link into cluster `c` carries data (R25, R92, R94). -/
def State.linkLive (s : State) (c : Nat) : Bool :=
  let d := (c + 512) % 1024
  s.sameInstance c d && decide (s.curOpp (regionIdx c) = s.curOpp (regionIdx d))

/-- Y or Z of a cell as the routing sees it in this cycle: an inactive cell reads zero (R48, R64). -/
def State.drvOut (s : State) (c k : Nat) (z : Bool) : Word :=
  if !cellActive (s.ctrlWord c (s.cluster c).plane k) then 0
  else if z then (s.cell c k).drvZ else (s.cell c k).drvY

/-- The value a code of R80 names at the switch point of cell `k`; `fuel` bounds the combinational hops. -/
def State.route (s : State) : Nat → Nat → Nat → Nat → Word
  | 0, _, _, _ => 0
  | f + 1, c, k, code =>
    if code = 1 then s.drvOut c k false
    else if code = 2 then s.drvOut c k true
    else if code = 13 then
      if s.linkLive c then
        let d := (c + 512) % 1024
        match segLink (s.segWord d (s.cluster d).plane k) with
        | 1 => s.drvOut d k false
        | 2 => s.drvOut d k true
        | _ => 0
      else 0
    else match segFrom k code with
      | none => 0
      | some (k', d, b) =>
        let w := s.segWord c (s.cluster c).plane k'
        if segSrc w d = 0 ∨ segLen w d / 2 ^ b % 2 = 0 then 0
        else if segReg w d then (s.cell c k').drv d
        else s.route f c k' (segSrc w d)

/-- More hops than any legal path has (R87). -/
def routeFuel : Nat := 64

/-- The value arriving at an input select code: a segment or an express entry port (R82). -/
def State.arriving (s : State) (c k code : Nat) : Word :=
  if code = 0 then 0
  else if code ≥ 32 then smGet 0 (s.cluster c).entry (code - 32)
  else s.route routeFuel c k code

/-- The value a cell reads on input `n` in this cycle (R41, R82). -/
def State.inputVal (s : State) (c k n : Nat) : Word :=
  let sel := s.inSel c (s.cluster c).plane k n
  if sel / 64 % 2 = 1 then smGet 0 (s.cell c k).inR n else s.arriving c k (sel % 64)

/-- The value an outbound track of a cluster carries (R90). -/
def State.trackVal (s : State) (c t : Nat) : Word :=
  let b := s.imgByte c (s.cluster c).plane (0x780 + t)
  if b / 128 = 0 then 0
  else match b / 32 % 4 with
    | 0 => s.drvOut c (b % 32) false
    | 1 => s.drvOut c (b % 32) true
    | 2 => smGet 0 (s.cluster c).entry (b % 32)
    | _ => 0

/-- The value an entry port captures at the end of the cycle (R90, R91, R94). -/
def State.entryVal (s : State) (c i : Nat) : Word :=
  let h := s.imgHalf c (s.cluster c).plane (0x7A0 + 2 * i)
  if h / 2 ^ 15 % 2 = 0 then 0
  else
    let vert := h / 2 ^ 14 % 2 = 1
    let pos := h / 2 ^ 13 % 2 = 1
    let dist := h / 2 ^ 11 % 4
    let track := h % 16
    let coord := if vert then clY c % 4 else clX c % 4
    if (pos ∧ coord + dist > 3) ∨ (¬pos ∧ coord < dist) then 0
    else
      let step := if vert then 32 * dist else dist
      let d := if pos then c + step else c - step
      if s.sameInstance c d then s.trackVal d (if vert then 16 + track else track) else 0

/-! The end of a cycle -/

/-- Land a latency-2 result in its plane (R46, R68); `skipL`, `upd` say what the later-issued microinstruction wrote. -/
def Cell.pl (x : Cell) (p : Nat) : PlaneRegs := smGet PlaneRegs.zero x.planes p
def Cell.setPl (x : Cell) (p : Nat) (r : PlaneRegs) : Cell := { x with planes := smSet PlaneRegs.zero x.planes p r }

/-- Write a result to a destination code (R42); `r` is the plane it belongs to. A register that is written takes a new parity bit (R307). -/
def Cell.write (x : Cell) (p : Nat) (dst : BitVec 5) (v : Word) : Cell :=
  let d := dst.toNat
  if d < 16 then { (x.setPl p { x.pl p with l := smSet 0 (x.pl p).l d v }) with par := smDel x.par (16 * p + d) }
  else if d = 16 then { x with y := v, par := smDel x.par 76 }
  else if d = 17 then { x with z := v, par := smDel x.par 77 }
  else if d = 18 then { x with y := v, z := v, par := smDel (smDel x.par 76) 77 }
  else x

/-- Write a wide result (R43). -/
def Cell.writeWide (x : Cell) (p : Nat) (dst : BitVec 5) (lo hi : Word) : Cell :=
  if dst.toNat < 16 then (x.write p dst lo).write p (dst + 1) hi else (x.write p 16 lo).write p 17 hi

/-- Land the pending latency-2 result of a cell (R46). -/
def Cell.land (x : Cell) : Cell :=
  match x.pend with
  | none => x
  | some w =>
    let x := { x with pend := none }
    let x := match w.hi with
      | some hi => x.writeWide w.plane w.dst w.lo hi
      | none => x.write w.plane w.dst w.lo
    let r := x.pl w.plane
    x.setPl w.plane { r with fl := { r.fl with n := w.n.getD r.fl.n, z := w.z.getD r.fl.z } }

/-- What the registers of a cell capture at the end of a cycle (R81-R83). -/
def State.captured (s : State) (c k : Nat) : Cell :=
  let x := s.cell c k
  let w := s.segWord c (s.cluster c).plane k
  let dir (d : Nat) : Word := if segReg w d then s.route routeFuel c k (segSrc w d) else 0
  let inp (n : Nat) : Word := let sel := s.inSel c (s.cluster c).plane k n
    if sel / 64 % 2 = 1 then s.arriving c k (sel % 64) else 0
  { x with dE := dir 0, dW := dir 1, dN := dir 2, dS := dir 3, inR := smSetList 0 [] 0 [inp 0, inp 1, inp 2, inp 3] }

/-- The routing registers read zero (R84). -/
def Cell.routeZero (x : Cell) : Cell := { x with dE := 0, dW := 0, dN := 0, dS := 0, inR := [] }

/-- The slots after the cycle in which the changes given were made (R60). -/
def slotsNext (upd : List (Nat × Slot)) (m : SMap Slot) : SMap Slot := upd.foldl (fun m u => smSet .empty m u.1 u.2) m

/-- The new cells and cluster record of one cluster at the end of a cycle of its group. All values are taken from the
state `s` at the end of the cycle; `stall` is the stall of the cycle still to come (R538); `stay` says that no cluster switches, for a TEND of
the cycle or because the instance issues no more (R70). -/
def State.endCluster (s : State) (stall : Nat) (stay : Bool) (t : State) (c : Nat) : State :=
  let cl := s.cluster c
  let psw := if stay then none else cl.psw
  let t := (List.range 32).foldl (fun t k =>
    let x := s.captured c k
    let x := if x.issued then x else x.land
    let west := if k % 8 = 0 then false else (s.cell c (k - 1)).carry
    let x := { x with drvY := x.y, drvZ := x.z, chain := west, carry := false, issued := false, par := smDel x.par 78 }
    let x := match psw with
      | none => x
      | some p =>
        let x := x.routeZero
        { (x.setPl p { x.pl p with sq := 0, lc := loopInit (s.ctrlWord c p k) }) with chain := false, par := smDel (smDel x.par (68 + p)) (72 + p) }
    t.setCell c k x) t
  let entry := match psw with
    | none => smSetList 0 [] 0 ((List.range 32).map (fun i => s.entryVal c i))
    | some _ => []
  let cl' : Cluster := { cl with plane := psw.getD cl.plane, last := none, psw := none, memAcc := 0, emits := 0, waited := 0, stall := false,
                                 slots := slotsNext cl.slotUpd cl.slots, slotUpd := [], entry := entry }
  let t := t.setCluster c cl'
  let t := if cl.run ≠ none then t.bump64N (CLW_BUSY_LO c) (CLW_CTRL c) 0 (1 + stall) else t
  if stall ≠ 0 then t.bump64N (CLW_STALL_LO c) (CLW_CTRL c) 2 stall else t

/-- The stall cycles a cluster needs for its port and emitter (R538). -/
def Cluster.need (x : Cluster) : Nat := Nat.max (x.memAcc - 1) (x.emits - 1)

/-- Every active cell of the group has issued in the open cycle (R39, R50). -/
def State.cycleDone (s : State) (c : Nat) : Bool :=
  (s.group c).all (fun d => (List.range 32).all (fun k => !cellActive (s.ctrlWord d (s.cluster d).plane k) || (s.cell d k).issued))

/-- The stall cycles the group of cluster `c` still needs for the ports and emitters of the open cycle: those it has spent waiting for a
response or the emitter serve them too (R538). -/
def State.stallLeft (s : State) (c : Nat) : Nat :=
  (s.group c).foldl (fun m d => Nat.max m ((s.cluster d).need - (s.cluster d).waited)) 0

/-- End the open cycle of the group of cluster `c` (R70, R83, R538): after a TEND one more cycle issues, then the task is
past its last issue cycle and its clusters are free (R71, R169). -/
def State.endCycle (s : State) (c : Nat) : State :=
  let g := s.group c
  let stall := s.stallLeft c
  let inst := match (s.cluster c).run with
    | some iid => s.inst iid
    | none => none
  let stay := match inst with
    | some x => x.tend || decide (x.st = .ending)
    | none => false
  let t := g.foldl (fun t d => s.endCluster stall stay t d) s
  match inst with
  | none => t
  | some x =>
    if x.st = .ending then
      (g.foldl (fun t d => t.setCluster d { t.cluster d with run := none }) t).setInst { x with st := .ended }
    else if x.tend then t.setInst { x with st := .ending, tend := false }
    else t

/-- The last issue cycle of a task is over as soon as every active cell has issued in it: its clusters are free in the next cycle (R70, R71). -/
def State.closeOn (s : State) (c : Nat) : State :=
  match (s.cluster c).run with
  | some iid => match s.inst iid with
    | some x => if x.st = .ending ∧ s.cycleDone c then s.endCycle c else s
    | none => s
  | none => s

/-! Task start (R67, R169) -/

/-- The plane a parity mark below 76 belongs to. -/
def parPlane (i : Nat) : Nat := if i < 64 then i / 16 else i % 4

/-- Registers of a plane at task start. -/
def startRegs (w l0 l1 : Word) : PlaneRegs :=
  { l := smSetList 0 [] 0 [l0, l1], sq := 0, lc := loopInit w, fl := flagInit w }

/-- The task-start cycle on one cluster: every plane of the context, Y, Z, chain, memory, slots, routing registers (R67,
R84). -/
def State.startCluster (s : State) (x : Inst) (c : Nat) : State :=
  let d := s.dirEnt x.ctx.toNat
  let q := posOf d.shape c
  let ps := (List.range d.planes).filterMap (fun p => s.validPlane c x.ctx q p)
  let p0 := (s.validPlane c x.ctx q 0).getD 0
  let s := (List.range 32).foldl (fun s k =>
    let old := s.cell c k
    let planes := ps.foldl (fun m p =>
      smSet PlaneRegs.zero m p (startRegs (s.ctrlWord c p k) (s.cellWord c p k 12) (s.cellWord c p k 13))) old.planes
    s.setCell c k { Cell.zero with planes := planes, par := smDrop (fun i => decide (76 ≤ i) || ps.contains (parPlane i)) old.par }) s
  let s := ps.foldl (fun s p => s.setPlane c p { s.plane c p with age := 0, resv := none }) s
  let cl := s.cluster c
  let s := s.setCluster c { cl with plane := p0, run := some x.iid, ctx := x.ctx, inst := x.inst, stall := false, last := none, psw := none,
                                    memAcc := 0, emits := 0, waited := 0, slots := [], slotUpd := [], rlds := [], mem := [], written := [], memMark := [],
                                    memLost := false, entry := [] }
  s.bump64N (CLW_BUSY_LO c) (CLW_CTRL c) 0 1

/-- The conditions of R169. -/
def State.canStart (s : State) (x : Inst) : Bool :=
  decide (x.st = .placed) && !s.bundleComing x.iid && x.clusters.all (fun c =>
    s.holds c x.ctx && (decide (s.dom c = .on) || decide (s.dom c = .cirrus)) && decide ((s.cluster c).run = none))

def State.startTask (s : State) (x : Inst) : State :=
  let s := x.clusters.foldl (fun s c => (s.startCluster x c).setDom c .on) s
  (s.unreserve x.iid).setInst { x with st := .running, tend := false }

/-! Abort (R151-R154) -/

/-- Packets of a cluster's loads are forgotten with its slots (R60, R152). -/
def State.dropLoads (s : State) (c : Nat) (p : Nat → Bool) : State :=
  let mine (w : PktWhat) : Bool := match w with
    | .load d i => decide (d = c) && p i
    | .loadRsp d i _ _ _ => decide (d = c) && p i
    | _ => false
  ({ s with noc := { s.noc with pkts := s.noc.pkts.filter (fun x => !mine x.what), kept := s.noc.kept.filter (fun k => !mine k.p.what) } }).settle

/-- Every cluster of the instance stops: no further issue, its slots discarded, entries of a REPLAYABLE task discarded. The cells of the cycle of
the abort that have not issued do not issue in it (R152; DESIGN CHOICE, log entry 89). -/
def State.stopClusters (s : State) (x : Inst) (keep : Bool) : State :=
  x.clusters.foldl (fun s c =>
    let cl := s.cluster c
    let mine := decide (cl.run = some x.iid)
    let s := if mine then s.dropLoads c (fun _ => true) else s
    let s := s.setCluster c { cl with
      run := if mine then none else cl.run
      slots := if mine then [] else cl.slots
      slotUpd := if mine then [] else cl.slotUpd
      waited := if mine then 0 else cl.waited
      stall := !mine && cl.stall
      rlds := if mine then [] else cl.rlds
      last := if mine then none else cl.last
      psw := if mine then none else cl.psw
      cb := if keep then cl.cb else cl.cb.filter (fun e => decide (e.iid ≠ x.iid)) }
    if mine then (List.range 32).foldl (fun s k =>
      s.setCell c k { s.cell c k with pend := none, issued := false, carry := false }) s else s) s

/-- Entries of an instance still held in its clusters. -/
def State.entriesOf (s : State) (x : Inst) : List (Nat × CbEntry) :=
  x.clusters.flatMap (fun c => ((s.cluster c).cb.filter (fun e => decide (e.iid = x.iid))).map (fun e => (c, e)))

/-- The instances whose tasks may be aborted now: started and not yet committed (R147). -/
def InstSt.open : InstSt → Bool
  | .running => true
  | .ending => true
  | .ended => true
  | _ => false

/-- Detail of an instance's error token (R157). -/
def originDetail (x : Inst) : BitVec 48 := BitVec.ofNat 48 (x.origin % 1024)

/-- Fields common to the records of an instance (R506). -/
def instDetail (x : Inst) : List Byte := natBytes 2 x.ctx.toNat ++ natBytes 4 x.flow.toNat ++ natBytes 4 x.inst.toNat

/-- A marker finds no free entry: it waits (R185). -/
def State.markerWaits (s : State) (x : Inst) : State :=
  if s.flow.waits.any (fun w => decide (w.iid = x.iid)) then s
  else
    let before := (s.dsp.insts.filter (fun y => decide (y.st = .draining))).map (fun y => y.iid)
    { s with flow := { s.flow with waits := s.flow.waits ++ [({ iid := x.iid, flow := x.flow, inst := x.inst, clusters := x.clusters, before := before } : WaitMark)] } }

/-- Once a drain has emptied: stores to report, then the end of the instance (R148, R150, R154, R184). A DIRECT instance is resolved when all it had
issued has been acknowledged or accepted (R154; DESIGN CHOICE, log entry 90). -/
def State.drainCheck (s : State) (iid : Nat) : State :=
  match s.inst iid with
  | none => s
  | some x =>
    if x.st ≠ .draining ∨ (s.entriesOf x) ≠ [] then s
    else
      let out := x.storeErrs.foldl (fun (acc : State × List (BitVec 48)) d =>
        if acc.2 = [] then
          let o := acc.1.errToken (instErrTok x 0x06 x.lastCause d) true false
          if o.2 then (o.1, []) else (o.1, [d])
        else (acc.1, acc.2 ++ [d])) (s, [])
      let s := out.1
      if out.2 ≠ [] then s.setInst { x with storeErrs := out.2 }
      else
        let x := { x with storeErrs := [] }
        let s := s.setInst x
        if x.dabort then s.resolve x 0x05 x.lastCause (originDetail x)
        else if s.isOrd x.flow.toNat && s.heldOf x.flow.toNat x.inst.toNat then s
        else
          let o := s.orderedDone x.flow.toNat x.inst
          if o.2 then o.1.dropInst iid else o.1.markerWaits x

/-- Abort a task for a cause of R151; `detail` is the DETAIL of an instance resolved at once. -/
def State.abort (s : State) (iid cause : Nat) (detail : BitVec 48) : State :=
  match s.inst iid with
  | none => s
  | some x =>
    if !x.st.open then s
    else
      let s := s.bump (MST_ABORT cause) MST_CNTOVF (7 + cause)
      let direct := !(s.dirEnt x.ctx.toNat).replayable
      let s := s.stopClusters x direct
      let x := { x with tend := false, lastCause := cause }
      if direct then
        let x := { x with st := .draining, dabort := true }
        let s := (s.setInst x).record 0x31 2 (instDetail x ++ natBytes 1 cause)
        s.drainCheck iid
      else if cause = 2 then s.resolve x 2 2 detail
      else if cause = 5 then s.resolve x 3 5 detail
      else if cause = 7 then s.resolve x 4 7 detail
      else
        let counted := decide (cause = 1) || decide (cause = 3) || decide (cause = 4)
        let x := { x with counted := x.counted + Bool.bit counted }
        if x.counted ≥ 4 then
          (s.resolve x 1 cause (originDetail x)).record 0x32 2 (instDetail x ++ natBytes 1 cause)
        else
          (s.setInst { x with st := .ready, ret := s.dsp.now, avoid := x.clusters, clusters := [] }).bump MST_REPLAYS MST_CNTOVF 15 |>.statCount 81 1

/-- A halt of a cluster aborts every instance on it that has not reached its commit point (R147, R151). -/
def State.haltOn (s : State) (c : Nat) : State :=
  (s.dsp.insts.filter (fun x => x.st.open && x.clusters.contains c)).foldl (fun s x => s.abort x.iid 6 0) s

/-- Abort the task that runs on a cluster. -/
def State.abortOn (s : State) (c cause : Nat) (detail : BitVec 48) : State :=
  match (s.cluster c).run with
  | some iid => s.abort iid cause detail
  | none => s

/-! Commit (R147) -/

/-- Land every pending result of a cluster's cells (R70). -/
def State.landAll (s : State) (c : Nat) : State :=
  (List.range 32).foldl (fun s k => s.setCell c k (s.cell c k).land) s

/-- The last issue cycle ends once every active cell has issued in it (R70). -/
def State.closeTask (s : State) (iid : Nat) : State :=
  match s.inst iid with
  | some x => if x.st = .ending ∧ s.cycleDone x.origin then s.endCycle x.origin else s
  | none => s

/-- The commit point: entries become committed, data-token slots are freed (R147, R140). -/
def State.commit (s : State) (x : Inst) : State :=
  let s := x.clusters.foldl (fun s c =>
    let s := if (s.cluster c).run = none then s.landAll c else s
    s.setCluster c { s.cluster c with cb := (s.cluster c).cb.map (fun e => if e.iid = x.iid then { e with go := true } else e) }) s
  let s := s.freeBundle x.bundle
  let s := s.setInst { x with st := .draining, bundle := [] }
  (s.bump64 MST_COMMITS_LO MST_CNTOVF 17).drainCheck x.iid

end Sys2Proof.Machine
end

