-- ==== Sys2Proof/Machine/Issue.lean ====
section
/-! DEFINITION. How a cell issues one microinstruction (R41-R57, R84): the open cycle, operands, predicate, landing of results, the
sequencing action; stalls (R50, R51), the aborts of a cycle in their order (R304), plane and register parity (R307, R309). Every cell command is one call of
`cellIssue`. -/

namespace Sys2Proof.Machine

/-! Parity of planes and registers -/

/-- Priority of an instance, for a refetch (R309). -/
def State.instPri (s : State) : Option Nat → Nat
  | some iid => match s.inst iid with
    | some x => x.pri.toNat
    | none => 0
  | none => 0

/-- A plane found upset (R309, R310): it becomes INVALID and a refetch is requested where the plane is needed. -/
def State.upsetPlane (s : State) (c i : Nat) : State :=
  let x := s.plane c i
  let inSet := s.inRunningSet c i
  let abPri := if inSet then s.instPri (s.cluster c).run else 0
  let s := ((s.bump SYS_PUPSETS SYS_CNTOVF 0).setBits SYS_FLTSTAT 1).record 0x10 1
    (natBytes 2 c ++ natBytes 1 i ++ natBytes 2 x.ctx.toNat)
  let s := s.invalidate c i
  let r : FillReq := { cls := 0, pri := Nat.max abPri (s.instPri x.resv), cyc := s.dsp.now + 1, cluster := c, plane := i, ctx := x.ctx,
                       pos := x.pos, pindex := x.pindex, iid := x.resv, again := false, evict := [], nsets := 0 }
  if inSet ∨ x.resv ≠ none then { s with res := { s.res with reqs := s.res.reqs ++ [r] } } else s

/-- The sweep finds a plane upset: a running task that uses it aborts with UPSET (R309, R310). -/
def State.planeUpset (s : State) (c i : Nat) : State :=
  if s.inRunningSet c i then (s.upsetPlane c i).abortOn c 3 0 else s.upsetPlane c i

/-! Operands (R41, R44, R49, R56) -/

/-- The operands of an issue: the three sources, flags at the start of the cycle, carry-in, the executing plane, whether the predicate holds. -/
structure Opnds where
  a : Word
  b : Word
  x : Word
  f : Flags
  cin : Bool
  p : Nat
  on : Bool

/-- The value of a source code (R41). -/
def State.srcVal (s : State) (c k p : Nat) (code xt : BitVec 5) : Word :=
  let n := code.toNat
  let x := s.cell c k
  if n < 16 then smGet 0 (x.pl p).l n
  else if n < 20 then s.inputVal c k (n - 16)
  else if n = 20 then x.y
  else if n = 21 then x.z
  else if n = 22 then xt.zeroExtend 32
  else if n = 23 then 0
  else if n = 24 then 1
  else if n = 25 then 0xFFFFFFFF#32
  else 0x80000000#32

/-- The accumulator of a DOT4 (R49): the result on its way when the previous cycle's DOT4 writes the register named. -/
def State.srcX (s : State) (c k p : Nat) (isDot : Bool) (xt : BitVec 5) : Word :=
  match (s.cell c k).pend with
  | some w => if isDot && w.dot4 && decide (w.dst = xt) && decide (xt.toNat < 16) && decide (w.plane = p) then w.lo
              else s.srcVal c k p xt xt
  | none => s.srcVal c k p xt xt

/-- The carry-in that CHMODE selects (R56). -/
def State.carryIn (s : State) (c k p : Nat) : Bool :=
  match chMode (s.ctrlWord c p k) with
  | 0 => ((s.cell c k).pl p).fl.c
  | 1 => decide (k % 8 ≠ 0) && (s.cell c (k - 1)).carry
  | _ => (s.cell c k).chain

def State.opnds (s : State) (c k : Nat) (m : Micro) (isDot : Bool) : Opnds :=
  let p := (s.cluster c).plane
  let f := ((s.cell c k).pl p).fl
  { a := s.srcVal c k p m.sa m.xt, b := s.srcVal c k p m.sb m.xt, x := s.srcX c k p isDot m.xt, f := f,
    cin := s.carryIn c k p, p := p, on := predHolds m.pred f }

/-! Results -/

/-- What an operation gives: its result, the high word of a wide one, flags, whether it has latency 2 (R46), whether a DOT4 made it, its
carry-out (R57), a value for LC (R55). -/
structure Alu where
  lo : Option Word := none
  hi : Option Word := none
  fl : FlagUpd := {}
  late : Bool := false
  dot4 : Bool := false
  carry : Bool := false
  lc : Option (BitVec 8) := none

/-- The sequence and loop counters after a SEQ action (R54, R55). -/
def seqNext (seq : BitVec 3) (sq : BitVec 3) (lc : BitVec 8) (f : Flags) (w : Word) : BitVec 3 × BitVec 8 :=
  match seq.toNat with
  | 1 => if lc ≠ 0 then (loopStart w, lc - 1) else (sq + 1, loopInit w)
  | 2 => (if f.p then sq else sq + 1, lc)
  | 3 => (if f.p then sq + 1 else sq, lc)
  | 4 => (0, lc)
  | 5 => (sq, lc)
  | _ => (sq + 1, lc)

/-- The cell after the issue cycle (R46, R47, R54): an earlier latency-2 result lands first, a latency-1 result is written over it. -/
def Cell.issue (x : Cell) (m : Micro) (o : Opnds) (r : Alu) (w : Word) : Cell :=
  let y := x.land
  let y := match r.lo with
    | none => y
    | some v =>
      if r.late then { y with pend := some ⟨o.p, m.dst, v, r.hi, r.fl.n, r.fl.z, r.dot4⟩ }
      else y.write o.p m.dst v
  let q := y.pl o.p
  let old := x.pl o.p
  let n := seqNext m.seq old.sq old.lc o.f w
  let y := y.setPl o.p { q with fl := if r.late then q.fl else r.fl.apply q.fl, sq := n.1, lc := r.lc.getD n.2 }
  { y with carry := r.carry, issued := true }

/-- The issue's effect on the cell and on the record of the open cycle. -/
def State.doIssue (s : State) (c k : Nat) (m : Micro) (o : Opnds) (r : Alu) : State :=
  let s := s.setCell c k ((s.cell c k).issue m o r (s.ctrlWord c o.p k))
  s.setCluster c { s.cluster c with last := some k }

/-- A new cycle begins when the cell, or one after it, has already issued in the open one (log entry 8). -/
def State.openCycle (s : State) (c k : Nat) : State :=
  match (s.cluster c).last with
  | some j => if k ≤ j then s.endCycle c else s
  | none => s

/-- A running task's next cycle is asked for while an active cell has not issued in the open one, a stalled one for instance (R50): it waits. -/
def State.early (s : State) (c k : Nat) : Bool :=
  match (s.cluster c).last with
  | some j => decide (k ≤ j) && !s.cycleDone c
  | none => false

/-- A stall cycle of the instance (R50, R51): counted in every cluster of it. -/
def State.stallCycle (s : State) (c : Nat) : State :=
  (s.group c).foldl (fun s d =>
    let s := s.setCluster d { s.cluster d with stall := true, waited := (s.cluster d).waited + 1 }
    let s := if (s.cluster d).run ≠ none then s.bump64 (CLW_BUSY_LO d) (CLW_CTRL d) 0 else s
    s.bump64 (CLW_STALL_LO d) (CLW_CTRL d) 2) s

/-! The cycle of an instance (R39, R50, R51, R64, R70, R304, R307) -/

/-- The instance a cluster runs. -/
def State.runInst (s : State) (c : Nat) : Option Inst :=
  match (s.cluster c).run with
  | some iid => s.inst iid
  | none => none

/-- The cluster runs a task that issues (R64, R70). -/
def State.issuing (s : State) (c : Nat) : Bool :=
  match s.runInst c with
  | some x => decide (x.st = .running) || decide (x.st = .ending)
  | none => false

/-- The microinstruction a cell is about to issue: IR[SQ] of the executing plane (R39, R40). -/
def State.ir (s : State) (c k : Nat) : Word :=
  let p := (s.cluster c).plane
  s.cellWord c p k ((s.cell c k).pl p).sq.toNat

/-- A cell that issues in the open cycle and has not done so yet (R39, R64). -/
def State.toIssue (s : State) (c k : Nat) : Bool := cellActive (s.ctrlWord c (s.cluster c).plane k) && !(s.cell c k).issued

/-- The cells of the instance's clusters that have yet to issue in the open cycle, by cluster and cell. -/
def State.pendingCells (s : State) (c : Nat) : List (Nat × Nat) :=
  (s.group c).flatMap (fun d => ((List.range 32).filter (fun k => s.toIssue d k)).map (fun k => (d, k)))

/-- The sources an operation reads, of SA, SB and XT (R41, R52). -/
def opReads (op : Nat) (m : Micro) : List (BitVec 5) :=
  let src3 := [0x12, 0x13, 0x1C, 0x21, 0x22, 0x23, 0x26, 0x27, 0x2C, 0x2D, 0x31, 0x33]
  let one := [0x01, 0x28, 0x29, 0x35, 0x37]
  if [0x00, 0x2E, 0x34, 0x36, 0x38, 0x39].contains op then []
  else if one.contains op then [m.sa]
  else if op = 0x2A ∨ op = 0x2B then [m.sa, m.xt]
  else if src3.contains op then [m.sa, m.sb, m.xt]
  else [m.sa, m.sb]

/-- A register that the cell uses in an issue has a parity error (R307): SQ, LC, the flags of the executing plane, the chain register, Y, Z, and the L
registers among the sources it reads. -/
def State.regsBad (s : State) (c k : Nat) : Bool :=
  let p := (s.cluster c).plane
  let x := s.cell c k
  let w := s.ir c k
  [64 + p, 68 + p, 72 + p, 76, 77, 78].any (fun i => smGet false x.par i) ||
  (opReads (microOf w).1 (microOf w).2).any (fun r => decide (r.toNat < 16) && smGet false x.par (16 * p + r.toNat))

/-- An abort cause that arises in a cycle (R151), and what else the finding of it does. -/
inductive Raise where
  /-- a word of the executing plane of a cluster has a parity error: UPSET (R307, R309) -/
  | plane (c : Nat)
  /-- a register of a cell has a parity error: HW_ERR (R307) -/
  | cell (c k : Nat)
  /-- a cluster-memory access meets an unusable word: POISON (R75) -/
  | mem (c : Nat) (a : Word)
  /-- an RLD meets an unusable commit-buffer entry of its own task: HW_ERR (R537) -/
  | entry (c : Nat) (m : Mark)
  /-- an RSP reads a response that is not normal (R146) -/
  | rsp (c slot : Nat) (st : RspStatus)
  /-- a REPLAYABLE task fills the commit buffer alone: CB_FULL (R144) -/
  | full (c : Nat)
deriving DecidableEq, Repr

/-- The cause of an abort, by code (R146, R151). -/
def Raise.cause : Raise → Nat
  | .plane _ => 3
  | .cell _ _ => 4
  | .mem _ _ => 1
  | .entry _ _ => 4
  | .rsp _ _ .poisoned => 1
  | .rsp _ _ .error => 2
  | .rsp _ _ _ => 6
  | .full _ => 5

/-- The place of a cause in the order of R304. -/
def causeRank (n : Nat) : Nat :=
  match n with
  | 6 => 0
  | 3 => 1
  | 4 => 2
  | 1 => 3
  | 2 => 4
  | 5 => 5
  | _ => 6

/-- The cause that comes first in the order of R304; of equal ones the one raised by the lowest cluster and cell (log entry 89). -/
def firstRaise : List Raise → Option Raise
  | [] => none
  | r :: rs => match firstRaise rs with
    | some x => if causeRank x.cause < causeRank r.cause then some x else some r
    | none => some r

/-- The address of the load a slot belongs to (R60). -/
def Cluster.rldAddr (x : Cluster) (i : Nat) : Nat :=
  match x.rlds.find? (fun r => decide (r.slot = i)) with
  | some r => r.addr
  | none => 0

/-- DETAIL of an abort that resolves its instance at once (R157). -/
def State.raiseDetail (s : State) : Raise → BitVec 48
  | .rsp c i .error => BitVec.ofNat 48 ((s.cluster c).rldAddr i)
  | .full c => BitVec.ofNat 48 c
  | _ => 0

/-- A word of a cluster's commit buffer that is UE or POISON is met; which one is free (log entry 4). -/
def State.cbBad (s : State) (c : Nat) (m : Mark) : State := s.drawn.noteBad (unitCb c) s.freeVal.toNat (decide (m = .poison)) 0

/-- Byte address of the 32-bit half-word, and index of its 64-bit word, of a cluster-memory address (R72). -/
def cmByte (a : Word) : Nat := a.toNat % 2 ^ 14 / 4 * 4
def cmWord (a : Word) : Nat := cmByte a / 8

/-- What the code of the word reports to an access that reads it: an unwritten word is not read (R74, R75). -/
def Cluster.markAt (x : Cluster) (a : Word) : Mark := if smGet false x.written (cmWord a) then smGet .clean x.memMark (cmWord a) else .clean

/-- What a finding does beside the abort: counts, captures, records, the invalid plane (R258, R307, R309). -/
def State.raised (s : State) : Raise → State
  | .plane c => s.upsetPlane c (s.cluster c).plane
  | .cell c k => s.record 0x11 1 (natBytes 2 c ++ natBytes 1 k)
  | .mem c a => s.noteBad (unitCmem c) (cmWord a) (decide ((s.cluster c).markAt a = .poison)) 0
  | .entry c m => s.cbBad c m
  | .rsp _ _ _ => s
  | .full _ => s

/-- The instance of cluster `c` aborts once for the causes that arise in one cycle, all of which are recorded (R304). -/
def State.abortFor (s : State) (c : Nat) (rs : List Raise) : State :=
  match firstRaise rs with
  | none => s
  | some r =>
    let d := s.raiseDetail r
    (rs.foldl (fun s r => s.raised r) s).abortOn c r.cause d

/-- The parity errors that the issue cycle of the instance of cluster `c` finds (R307): in the executing plane of each of its clusters, and in the
registers of each cell that issues. -/
def State.parityRaises (s : State) (c : Nat) : List Raise :=
  ((s.group c).filter (fun d => decide ((s.plane d (s.cluster d).plane).par ≠ []))).map (fun d => Raise.plane d) ++
  ((s.pendingCells c).filter (fun e => s.regsBad e.1 e.2)).map (fun e => Raise.cell e.1 e.2)

/-- The 48-bit address of RLD and RST (R53). -/
def remoteAddr (hi lo : Word) : Nat := hi.toNat % 2 ^ 16 * 2 ^ 32 + lo.toNat / 4 * 4

/-- The youngest entry that stores to a word (R145). -/
def cbMatch (cb : List CbEntry) (a : Nat) : Option (CbEntry × Word) :=
  cb.foldl (fun acc e => match e.what with
    | .store b v => if b / 4 = a / 4 then some (e, v) else acc
    | .token _ _ => acc) none

/-- The entry that answers an RLD of the running task (R145). -/
def State.rldHit (s : State) (c a : Nat) : Option (CbEntry × Word) :=
  match s.runInst c with
  | some x => if (s.dirEnt x.ctx.toNat).replayable then cbMatch (s.cluster c).cb a else none
  | none => none

/-- The emitter refuses a TEMIT or RST for want of a free entry (R144); CB_FULL is the other case. -/
def State.cbWaits (s : State) (c : Nat) : Bool :=
  match s.runInst c with
  | none => false
  | some x => decide ((s.cluster c).cb.length ≥ 256) &&
      !((s.dirEnt x.ctx.toNat).replayable && (s.cluster c).cb.all (fun e => decide (e.iid = x.iid)))

/-- A REPLAYABLE task finds all 256 entries held by itself (R144). -/
def State.cbFull (s : State) (c : Nat) : Bool :=
  match s.runInst c with
  | none => false
  | some x => decide ((s.cluster c).cb.length ≥ 256) && (s.dirEnt x.ctx.toNat).replayable && (s.cluster c).cb.all (fun e => decide (e.iid = x.iid))

/-- The emitter has no credit for the request of an RLD that it must send (R144). -/
def State.rldWaits (s : State) (c a : Nat) : Bool :=
  (s.rldHit c a).isNone && addrKnown a && !s.credit (if isMem a then 2 else 6) 0 (clusterPort c) (addrPort a)

/-- The cell stalls its instance in the open cycle (R50): its operation takes effect and waits for a response or is refused by the emitter. -/
def State.cellWaits (s : State) (c k : Nat) : Bool :=
  let w := s.ir c k
  let om := microOf w
  let m := om.2
  let o := s.opnds c k m false
  o.on && (match om.1 with
    | 0x34 => decide ((s.cluster c).slotAt (m.xt.toNat % 16) = .pending)
    | 0x2F => s.cbWaits c
    | 0x33 => s.cbWaits c
    | 0x32 => s.rldWaits c (remoteAddr o.b o.a)
    | _ => false)

/-- The first cell, by cluster and number, that stalls the instance of cluster `c`. -/
def State.waiting (s : State) (c : Nat) : Option (Nat × Nat) := (s.pendingCells c).find? (fun e => s.cellWaits e.1 e.2)

/-- The abort that an operation of a cell raises when it takes effect (R75, R144, R146, R537). -/
def State.opRaise (s : State) (c k : Nat) : Option Raise :=
  let w := s.ir c k
  let om := microOf w
  let m := om.2
  let o := s.opnds c k m false
  if !o.on then none
  else match om.1 with
    | 0x30 => if ((s.cluster c).markAt (o.a + o.b)).bad then some (.mem c (o.a + o.b)) else none
    | 0x31 => if ((s.cluster c).markAt (o.a + o.x)).bad then some (.mem c (o.a + o.x)) else none
    | 0x2F => if s.cbFull c then some (.full c) else none
    | 0x33 => if s.cbFull c then some (.full c) else none
    | 0x32 => (match s.rldHit c (remoteAddr o.b o.a) with
      | some (e, _) => if e.code.bad && decide (some e.iid = (s.cluster c).run) then some (.entry c e.code) else none
      | none => none)
    | 0x34 => (match (s.cluster c).slotAt (m.xt.toNat % 16) with
      | .full _ .normal => none
      | .full _ st => some (.rsp c (m.xt.toNat % 16) st)
      | _ => none)
    | _ => none

/-- The aborts that the cells of the instance which have yet to issue raise in the open cycle. -/
def State.opRaises (s : State) (c : Nat) : List Raise := (s.pendingCells c).filterMap (fun e => s.opRaise e.1 e.2)

/-- The cell issues what the command says: its cluster runs a task, it is active and IR[SQ] of the executing plane is the microinstruction given
(R39, R64, R70; log entry 9). -/
def State.agrees (s : State) (op : Nat) (m : Micro) (c k : Nat) : Bool :=
  cellActive (s.ctrlWord c (s.cluster c).plane k) && decide (s.ir c k = Micro.word op m)

/-- What a row of R52 needs beside its semantics. -/
structure OpRow where
  code : Nat
  role : XtRole
  wide : Bool := false
  dot4 : Bool := false
  chain : Bool := false

/-- The microinstruction is one the loader lets through (R66), CHMODE of a chained operation included (R56, R58). -/
def State.legalIssue (s : State) (r : OpRow) (m : Micro) (c k : Nat) : Bool :=
  Micro.ok m r.role r.wide && (!r.chain || decide (chMode (s.ctrlWord c (s.cluster c).plane k) ≠ 3))

/-- What becomes of the command of a cell in the cycle it falls in. -/
inductive Gate where
  /-- the cell issues -/
  | go
  /-- no event: no task issues there, GSR holds the fabric (R384), the cycle stalls for another cell (R51), or the cell does not issue this
  (log entry 9) -/
  | skip
  /-- its instance stalls for this cell (R50) -/
  | stall
  /-- its instance aborts (R304) -/
  | abort (rs : List Raise)
  /-- the loader rejects the microinstruction (R66) -/
  | bad
deriving DecidableEq, Repr

/-- The parity of the planes and cells that issue is looked at first, then stalls, then what the operations raise (R51, R304, R307; log
entry 89). -/
def State.gate (s : State) (r : OpRow) (m : Micro) (c k : Nat) : Gate :=
  if s.gsr || !s.issuing c then (if s.legalIssue r m c k then .skip else .bad)
  else if s.parityRaises c ≠ [] then .abort (s.parityRaises c)
  else if !s.legalIssue r m c k then .bad
  else if !s.agrees r.code m c k then .skip
  else match s.waiting c with
    | some e => if e = (c, k) then .stall else .skip
    | none => if s.opRaises c ≠ [] then .abort (s.opRaises c) else .go

/-- One issue: `alu` gives the result, `eff` what else the operation does. With a false predicate only the SEQ action happens (R45). An issue the task does
not make, or not yet, changes nothing (log entry 9). -/
def cellIssue (r : OpRow) (alu : State → Opnds → Alu) (eff : State → Opnds → State) (c k : Nat) (m : Micro) (s : State) : Res' :=
  if !(decide (c < 1024) && decide (k < 32)) then .fault .noSuchUnit
  else if s.early c k then .next s
  else
    let t := s.openCycle c k
    match t.gate r m c k with
    | .skip => .next s
    | .bad => .refused .illegalMicro
    | .stall => .next (t.stallCycle c)
    | .abort rs => .next (t.abortFor c rs)
    | .go =>
      let o := t.opnds c k m r.dot4
      if !o.on then .next ((t.doIssue c k m o {}).closeOn c)
      else .next ((eff (t.doIssue c k m o (alu t o)) o).closeOn c)

/-- An issue with no effect beside its cell. -/
def aluIssue (r : OpRow) (alu : Opnds → Alu) (c k : Nat) (m : Micro) (s : State) : Res' :=
  cellIssue r (fun _ o => alu o) (fun s _ => s) c k m s

end Sys2Proof.Machine
end

