-- ==== Sys2Proof/Machine/Fabric.lean ====
section
/-! DEFINITION. The commands of the matching store, the tasks' starts and ends, the dispatcher, fills and pins (R106-R119, R129-R141, R151, R158,
R160-R172, R308). -/

namespace Sys2Proof.Machine

/-- A protective halt is in force (R434). -/
def State.halted (s : State) : Bool := tb (s.rd TH_STATUS) 6 || tb (s.rd SEC_DBG) 0

/-! Tokens -/

/-- CLR_STICKY (R133). -/
def execClrSticky (t : Token) (s : State) : Res' :=
  .next (if s.gsr then s.setJudged .waits else ((s.clrStickyTok t).countControl).setJudged .acted)

/-- CLR_FLOW (R133). -/
def execClrFlow (t : Token) (s : State) : Res' :=
  .next (if s.gsr then s.setJudged .waits else ((s.clrFlowTok t).countControl).setJudged .acted)

/-- CANCEL (R133). -/
def execCancelToken (t : Token) (s : State) : Res' :=
  .next (if s.gsr then s.setJudged .waits
    else
      let out := s.cancelInst t
      if out.2 then (out.1.countControl).setJudged .acted else out.1.setJudged .waits)

/-- The first held error token that can be delivered leaves the holding buffer (R158). -/
def State.holdOut (s : State) : List HeldErr → List HeldErr → Option State
  | _, [] => none
  | seen, h :: hs =>
    let out := s.errDeliver h.t h.q h.ordered h.fin h.own
    if out.2 then some { out.1 with mst := { out.1.mst with hold := seen ++ hs } } else s.holdOut (seen ++ [h]) hs

/-- What waits for room in the holding buffer or for a marker tries again (R158, R185). -/
def State.retryResolved (s : State) : State :=
  s.dsp.insts.foldl (fun s x =>
    match x.st with
    | .resolving cause last detail => s.resolve x cause last detail
    | .draining => s.drainCheck x.iid
    | _ => s) s

/-- ERRHOLD_RELEASE (R158). -/
def execErrholdRelease (s : State) : Res' :=
  .next (match s.holdOut [] s.mst.hold with
    | some t => t.retryResolved
    | none => s.retryResolved)

/-- A size of the matching store is written (R141): CRES for none, RES[p] otherwise. -/
def State.mstSize (s : State) (p : Option Nat) (v : Word) : State :=
  let n := fld v 20 0
  let total := match p with
    | none => n + s.sumRes
    | some p => s.cres + s.sumRes - s.resP p + n
  if total > mstSlots then s.setBits MST_STATUS 8
  else match p with
    | none => s.wr MST_CRES (BitVec.ofNat 32 n)
    | some p => s.wr (MST_RES p) (BitVec.ofNat 32 n)

/-- MST_SIZE_WRITE (R141). -/
def execMstSizeWrite (p : Option Nat) (v : Word) (s : State) : Res' :=
  if decide (p.getD 0 < 8) then .next (s.mstSize p v) else .fault .noSuchUnit

/-! Tasks -/

/-- TASK_START (R169): nothing while a condition is missing; a placed instance does not start during a protective halt (R434, DESIGN CHOICE, log entry 113). -/
def execTaskStart (iid : Nat) (s : State) : Res' :=
  .next (match s.inst iid with
    | some x => if s.canStart x && !s.gsr && !s.halted then s.startTask x else s
    | none => s)

/-- TASK_WATCHDOG (R151): only with a limit set, before the commit point. -/
def execTaskWatchdog (iid : Nat) (s : State) : Res' :=
  .next (match s.inst iid with
    | some x => if fld (s.rd MST_TASKLIM) 4 0 = 0 then s else s.abort iid 7 (originDetail x)
    | none => s)

/-! Dispatch -/

/-- DISPATCH_CYCLE (R160-R172): under GSR or a protective halt nothing is placed (R384, R434); the cycle and its fill cycles count. -/
def execDispatchCycle (s : State) : Res' :=
  let t := if s.gsr || s.halted then s else s.dispatch
  let t := t.countFillCycles
  .next { t with dsp := { t.dsp with now := t.dsp.now + 1 } }

/-- LOAD_k after its update (R166). -/
def State.newLoad (s : State) (k : Nat) : Nat := (s.loadK k - s.loadK k / 8 + s.shadow k / 8) % 2 ^ 18

/-- LOAD_UPDATE (R166). -/
def execLoadUpdate (s : State) : Res' :=
  .next { s with dsp := { s.dsp with load := smSetList 0 [] 0 ((List.range 32).map s.newLoad) } }

/-! Fills, ages, pins -/

/-- FILL_GRANT (R108-R112, R115): at most two fills of a bus are in flight, one carried and one being checked (R110). -/
def execFillGrant (bus : Nat) (s : State) : Res' :=
  if !decide (bus < 64) then .fault .noSuchUnit
  else
    let s := s.pinScan bus
    if (s.res.flight.filter (fun r => decide (busOf r.cluster = bus))).length ≥ 2 then .next s
    else match s.firstFill bus with
      | some r => .next (s.grant r)
      | none => .next s

/-- FILL_COMPLETE (R110, R115, R117): the oldest fill of the bus ends. -/
def execFillComplete (bus : Nat) (s : State) : Res' :=
  if !decide (bus < 64) then .fault .noSuchUnit
  else match s.res.flight.find? (fun r => decide (busOf r.cluster = bus)) with
    | some r => .next ((s.fillEnd r).pinScan bus)
    | none => .next s

/-- One step of a plane's age (R106). -/
def Plane.older (x : Plane) : Plane :=
  if x.st = .invalid ∨ x.age = 0xFFFFFFFF#32 then x else { x with age := x.age + 1 }

/-- PLANE_AGE_STEP (R106). -/
def execPlaneAgeStep (s : State) : Res' :=
  .next { s with res := { s.res with planes := s.res.planes.map (fun e => (e.1, e.2.older)) } }

/-- A write of EN = 1 to a pin entry is accepted (R114): the other entry counts for the planes only while it is enabled, and for (CTX, POS) as it stands
(DEDUCED, log entry 95). -/
def State.pinOk (s : State) (c e : Nat) (ctx : BitVec 12) (pos : Nat) : Bool :=
  let d := s.dirEnt ctx.toNat
  let o := s.pin c (1 - e)
  d.valid && decide (s.ctxSt ctx.toNat ≠ .unavailable) && decide (pos = posOf d.shape c) &&
  decide (d.planes + (if o.en then (s.dirEnt o.ctx.toNat).planes else 0) ≤ 2) &&
  !(decide (o.ctx = ctx) && decide (o.pos = pos)) && !s.fenced c

/-- A write of EN = 1 to a pin entry (R114). -/
def State.pinSet (s : State) (c e : Nat) (v : Word) : State :=
  let ctx := BitVec.ofNat 12 (fld v 11 0)
  let pos := fld v 19 16
  if s.pinOk c e ctx pos then
    (s.setPin c e { en := true, load := tb v 30, refused := false, pos := pos, ctx := ctx }).pinScan (busOf c)
  else s.setPin c e { s.pin c e with refused := true }

/-- A write of EN = 0 to a pin entry (R116). -/
def State.pinClear (s : State) (c e : Nat) (v : Word) : State :=
  (s.setPin c e { s.pin c e with en := false, load := tb v 30, pos := fld v 19 16, ctx := BitVec.ofNat 12 (fld v 11 0) }).pinScan (busOf c)

/-- PIN_ENABLE (R114, R115). -/
def execPinEnable (c e : Nat) (v : Word) (s : State) : Res' :=
  if decide (c < 1024) && decide (e < 2) then .next (s.pinSet c e v) else .fault .noSuchUnit

/-- PIN_RELEASE (R116). -/
def execPinRelease (c e : Nat) (v : Word) (s : State) : Res' :=
  if decide (c < 1024) && decide (e < 2) then .next (s.pinClear c e v) else .fault .noSuchUnit

/-- The checker of a region finds a VALID plane upset (R308, R309). -/
def State.sweepCluster (s : State) (c : Nat) : State :=
  physPlanes.foldl (fun s i =>
    if (s.plane c i).st = .valid ∧ !planeCrcOk (s.plane c i).words then s.planeUpset c i else s) s

/-- PLANE_SWEEP (R308). -/
def execPlaneSweep (region : Nat) (s : State) : Res' :=
  if !decide (region < 64) then .fault .noSuchUnit
  else .next (((List.range 1024).filter (fun c => decide (regionIdx c = region))).foldl (fun s c => s.sweepCluster c) s)

end Sys2Proof.Machine
end

