-- ==== Sys2Proof/Machine/FlowOps.lean ====
section
/-! DEFINITION. The commands of the queue engine (R177-R188). -/

namespace Sys2Proof.Machine

/-- The head of a queue with CONS = 0b11 is presented (R177, R182): an error token goes to the error queue instead, or waits in the holding
buffer; a refused head stays. -/
def State.presentHead (s : State) (q : Nat) : State :=
  let out := s.qPeek q ((s.qrec q).depth + 1)
  match out.2 with
  | none => out.1
  | some t =>
    if t.kind = .error then
      let o := out.1.redirect q t
      if o.2 then o.1.qDrop q else o.1
    else
      let o := out.1.toMst t
      if o.2 then o.1.qDrop q else o.1

/-- The queues that have a head to present come before `q` in the round of a cycle (R179): those between the queue served last and it. -/
def State.servedBefore (s : State) (q : Nat) : Nat :=
  let far (n : Nat) : Nat := (n + 262143 - s.flow.lastServed % 262144) % 262144
  (s.flow.recs.filter (fun e => e.2.en && decide (e.2.cons = 3) && decide (e.2.depth > 0) && decide (far e.1 < far q))).length

/-- DEQUEUE (R177, R179): serves a queue whose consumer is the matching store, where it is one of the 16 that the round by queue number reaches in a
cycle (log entry 88); the other consumers take their entries by commands of their own. -/
def execDequeue (q : Nat) (s : State) : Res' :=
  if !decide (q < 262144) then .fault .noSuchUnit
  else
    let r := s.qrec q
    if !r.en ∨ r.cons ≠ 3 ∨ r.depth = 0 ∨ s.gsr ∨ s.servedBefore q ≥ 16 then .next s
    else
      let t := s.presentHead q
      .next { t with flow := { t.flow with lastServed := q } }

/-- The four words of a record or a token an interface has staged, the last one being written. -/
def State.staged4 (s : State) (i : Iface) (base : Nat) (v : Word) : Nat :=
  (s.sel i base).toNat + 2 ^ 32 * (s.sel i (base + 4)).toNat + 2 ^ 64 * (s.sel i (base + 8)).toNat + 2 ^ 96 * v.toNat

/-- A record write reaches the selected queue (R178). -/
def State.recordWrite (s : State) (q n : Nat) : State :=
  let r := s.qrec q
  let base : BitVec 36 := BitVec.ofNat 36 (n / 2 ^ 92)
  let log2sz : BitVec 4 := BitVec.ofNat 4 (n / 2 ^ 88)
  let ord := decide (n / 2 ^ 14 % 2 = 1)
  let ring := decide (base ≠ r.base) || decide (log2sz ≠ r.log2sz)
  let parked := s.flow.parked.any (fun p => decide (p.flow.toNat = q))
  if (ring && (r.en || decide (r.depth > 0))) || parked then s.setBits FLOW_STATUS 4
  else State.releaseAll (s := (s.placeCode 3).1.setQrec q { r with
    base := base, log2sz := log2sz, limit := BitVec.ofNat 8 (n / 2 ^ 33), wmark := BitVec.ofNat 8 (n / 2 ^ 25)
    hwm := if n / 2 ^ 16 % 2 ^ 9 = 0 then r.depth / 2 ^ log2sz.toNat else r.hwm
    en := decide (n / 2 ^ 15 % 2 = 1), ord := ord, cons := BitVec.ofNat 2 (n / 2 ^ 12), wmie := decide (n / 2 ^ 11 % 2 = 1)
    wmev := r.wmev && decide (n / 2 ^ 10 % 2 = 0), errseen := r.errseen && decide (n / 2 ^ 9 % 2 = 0), code := (s.placeCode 3).2 }) q

/-- The queue an interface has selected (R178). -/
def State.qsel (s : State) (i : Iface) : Nat := fld (s.sel i FLOW_QSEL) 17 0

/-- The effect of a write of FLOW_QREC3. -/
def State.qrecCommit (s : State) (i : Iface) (v : Word) : State := s.recordWrite (s.qsel i) (s.staged4 i (FLOW_QREC 0) v)

/-- QUEUE_RECORD_WRITE (R178). -/
def execQueueRecordWrite (i : Iface) (v : Word) (s : State) : Res' := .next ((s.qrecCommit i v).answer i .ok [])

/-- The effect of a write of FLOW_PUSH3 (R181). -/
def State.flowPush (s : State) (i : Iface) (v : Word) : State :=
  let out := s.toQueue (s.qsel i) (tokenOf (s.staged4 i (FLOW_PUSH 0) v))
  out.1.setSel i FLOW_XST ((out.1.sel i FLOW_XST &&& 2) ||| (if out.2 then 0 else 1))

/-- FLOW_PUSH (R181). -/
def execFlowPush (i : Iface) (v : Word) (s : State) : Res' := .next ((s.flowPush i v).answer i .ok [])

/-- The effect of a read of FLOW_POP0 and the value it returns (R181, R256). -/
def State.flowPop (s : State) (i : Iface) : State × Word :=
  let q := s.qsel i
  let r := s.qrec q
  let out := if r.en && decide (r.cons = 0) then s.qPop q (r.depth + 1) else (s, none)
  match out.2 with
  | some t =>
    let n := tokenNat t
    let s := [0, 1, 2, 3].foldl (fun s w => s.setSel i (FLOW_POP w) (BitVec.ofNat 32 (n / 2 ^ (32 * w)))) out.1
    (s.setSel i FLOW_XST (s.sel i FLOW_XST &&& 1), BitVec.ofNat 32 n)
  | none => (out.1.setSel i FLOW_XST ((out.1.sel i FLOW_XST &&& 1) ||| 2), 0)

/-- FLOW_POP (R181). -/
def execFlowPop (i : Iface) (s : State) : Res' :=
  let out := s.flowPop i
  .next (out.1.answer i .ok (wordBytes out.2))

/-- The effect of a write of FLOW_ORD (R188). -/
def State.flowOrd (s : State) (i : Iface) (v : Word) : State :=
  let f := s.qsel i
  let o := s.order f
  let next : BitVec 24 := BitVec.ofNat 24 (fld v 31 8)
  let winlog : BitVec 5 := BitVec.ofNat 5 (fld v 7 3)
  let d := s.orderD f next
  if winlog.toNat > 23 then s.setBits FLOW_STATUS 4
  else if d > 2 ^ o.winlog.toNat then s.setBits FLOW_STATUS 4
  else ((s.setOrder f { next := next, winlog := winlog }).releaseAll f).retryResolved

/-- FLOW_ORD_WRITE (R188). -/
def execFlowOrdWrite (i : Iface) (v : Word) (s : State) : Res' := .next ((s.flowOrd i v).answer i .ok [])

/-- The effect of a read of FLOW_WMQ and the value it returns (R180). -/
def State.flowWmq (s : State) : State × Word :=
  match s.flow.wmq with
  | [] => (s, 0)
  | q :: qs => ({ s with flow := { s.flow with wmq := qs } }, BitVec.ofNat 32 (2 ^ 31 + q))

/-- FLOW_WMQ_READ (R180). -/
def execFlowWmqRead (i : Iface) (s : State) : Res' :=
  let out := s.flowWmq
  .next (out.1.answer i .ok (wordBytes out.2))

end Sys2Proof.Machine
end

