-- ==== Sys2Proof/Machine/Flint.lean ====
section
/-! DEFINITION. The Flint tiles (R320-R336, R350-R356): configuration words, sources, the operations of an MZ cell, the end of a tile-clock
cycle with its RAM ports, long lines and mailboxes. A part is numbered 2 x tile + half. -/

namespace Sys2Proof.Machine

/-! Parts and registers -/

def State.tile (s : State) (n : Nat) : Tile := if n = 0 then s.flint.t0 else s.flint.t1
def State.setTile (s : State) (n : Nat) (x : Tile) : State :=
  { s with flint := if n = 0 then { s.flint with t0 := x } else { s.flint with t1 := x } }
def State.part (s : State) (p : Nat) : MzPart := if p % 2 = 0 then (s.tile (p / 2)).part0 else (s.tile (p / 2)).part1
def State.setPart (s : State) (p : Nat) (x : MzPart) : State :=
  let t := s.tile (p / 2)
  s.setTile (p / 2) (if p % 2 = 0 then { t with part0 := x } else { t with part1 := x })
def State.mbox (s : State) (n m : Nat) : Mbox := smGet Mbox.zero (s.tile n).mbox m
def State.setMbox (s : State) (n m : Nat) (x : Mbox) : State :=
  let t := s.tile n
  s.setTile n { t with mbox := smSet Mbox.zero t.mbox m x }

/-- The part exists in its tile's mode (R320, R321). -/
def State.partOn (s : State) (p : Nat) : Bool :=
  let m := (s.tile (p / 2)).mode
  decide (p < 4) && (decide (m = 2) || (decide (m = 1) && decide (p % 2 = 0)))
/-- Columns and RAMs of a part (R320). -/
def State.mzCols (s : State) (p : Nat) : Nat := if (s.tile (p / 2)).mode = 1 then 64 else 32
def State.mzRams (s : State) (p : Nat) : Nat := if (s.tile (p / 2)).mode = 1 then 40 else 20

/-- Registers of tile `n` (R359). -/
def flStatus (n : Nat) : Nat := if n = 0 then FLINT0_STATUS else FLINT1_STATUS
def flClk (n : Nat) : Nat := if n = 0 then FLINT0_CLK else FLINT1_CLK
def flFixes (n : Nat) : Nat := if n = 0 then FLINT0_FIXES else FLINT1_FIXES
def flCont (n : Nat) : Nat := if n = 0 then FLINT0_CONTCNT else FLINT1_CONTCNT
def flRamce (n : Nat) : Nat := if n = 0 then FLINT0_RAMCE else FLINT1_RAMCE
def flOvf (n : Nat) : Nat := if n = 0 then FLINT0_CNTOVF else FLINT1_CNTOVF
def flMba (n m : Nat) : Nat := if n = 0 then FLINT0_MBA m else FLINT1_MBA m
def flMbb (n m : Nat) : Nat := if n = 0 then FLINT0_MBB m else FLINT1_MBB m
def flMbst (n m : Nat) : Nat := if n = 0 then FLINT0_MBST m else FLINT1_MBST m

/-- The tile clocks stand still: a Bedrock halt (R434) or scan access (R406). -/
def State.mzStopped (s : State) : Bool := s.therm.flintStop || tb (s.rd SEC_DBG) 0

/-! Configuration (R322, R324, R328, R342) -/

/-- The layer word of the cell of a column and row. -/
def MzPart.layer (x : MzPart) (col layer row : Nat) : Word := smGet 0 x.frames ((8 * col + layer) * 10 + row)
/-- A byte field of a layer word. -/
def byteFld (w : Word) (i : Nat) : Nat := w.toNat / 2 ^ (8 * i) % 256
/-- The port selects of column resource `k` of a sector: layer 7, row 0 for port A and mailboxes, row 1 for port B. -/
def MzPart.port (x : MzPart) (sector k row : Nat) : Word := x.layer (8 * sector + k) 7 row
/-- The initial state of a cell (R335): O, ACC and C from the configuration, SC 0. -/
def MzPart.cellInit (x : MzPart) (cell : Nat) : MzCell :=
  let w := x.layer (cell / 10) 5 (cell % 10)
  let o : Half := BitVec.ofNat 16 (fld w 15 0)
  { sc := 0, o := o, see := o, acc := BitVec.ofNat 16 (fld w 31 16), c := tb (x.layer (cell / 10) 6 (cell % 10)) 23 }

/-- A cell: in GSR it holds its initial state (R335). -/
def MzPart.cell (x : MzPart) (i : Nat) : MzCell := if x.run then smGet MzCell.zero x.cells i else x.cellInit i

/-- RAM `r` has port B on the host bus. -/
def MzPart.hostB (x : MzPart) (r : Nat) : Bool := tb (x.port (r / 5) (r % 5) 1) 7

/-! Mailbox ports (R350, R352) -/

def State.mbEn (s : State) (n m : Nat) : Bool := tb (s.rd (flMba n m)) 31
def State.mbIn (s : State) (n m : Nat) : Bool := tb (s.rd (flMba n m)) 30
/-- BUSY of a mailbox; held while IO_RESET_N pauses it (R353). -/
def State.mbBusy (s : State) (n m : Nat) : Bool :=
  s.pins.ioRst || (if s.mbIn n m then decide ((s.mbox n m).buf = []) else decide ((s.mbox n m).buf.length ≥ 4))

/-- What an array read of a mailbox returns. -/
def State.mbRead (s : State) (n m a : Nat) : Half :=
  if !s.mbIn n m then 0
  else
    let b := (s.mbox n m).buf
    match b with
    | [] => 0
    | t :: _ =>
      match a with
      | 4 => BitVec.ofNat 16 t.inst.toNat
      | 5 => BitVec.ofNat 16 (t.port.toNat * 2 ^ 12 +
          (match t.kind with | .data => 0 | .sticky => 1 | .error => 2 | .control => 3) * 2 ^ 10 + Bool.bit t.poison * 2 ^ 9 + t.inst.toNat / 2 ^ 16)
      | 6 => BitVec.ofNat 16 t.flow.toNat
      | 7 => BitVec.ofNat 16 (t.flow.toNat / 2 ^ 16 * 2 ^ 14 + b.length * 2 + 1)
      | i => if i < 4 then BitVec.ofNat 16 (t.value.toNat / 2 ^ (16 * i)) else 0

/-- Form a token in an outbound mailbox (R350); nothing while the buffer is full. -/
def State.mbForm (s : State) (n m : Nat) : State :=
  let x := s.mbox n m
  let a := s.rd (flMba n m)
  let b := s.rd (flMbb n m)
  if !s.mbEn n m ∨ s.mbIn n m ∨ x.buf.length ≥ 4 then s
  else
    let st (i : Nat) : Nat := (smGet 0 x.stage i).toNat
    let cnt := s.rd (flMbst n m)
    let own := tb a 28
    let t : Token :=
      { ctx := BitVec.ofNat 12 (fld b 31 20), port := BitVec.ofNat 4 (fld b 19 16)
        inst := if own then BitVec.ofNat 24 (st 5 % 256 * 2 ^ 16 + st 4) else BitVec.ofNat 24 cnt.toNat
        kind := match fld a 27 26 with | 0 => .data | 1 => .sticky | _ => .control
        pri := BitVec.ofNat 3 (fld a 25 23), flow := BitVec.ofNat 18 (fld a 17 0), poison := false
        value := BitVec.ofNat 64 (st 0 + 2 ^ 16 * st 1 + 2 ^ 32 * st 2 + 2 ^ 48 * st 3) }
    let s := s.setMbox n m { x with buf := x.buf ++ [t] }
    if own then s else s.wr (flMbst n m) (BitVec.ofNat 32 ((cnt.toNat + 1) % 2 ^ 24))

/-- Discard the oldest token of an inbound mailbox (R352). -/
def State.mbDiscard (s : State) (n m : Nat) : State :=
  let x := s.mbox n m
  if s.mbIn n m then s.setMbox n m { x with buf := x.buf.drop 1 } else s

/-- An array write to a mailbox address. -/
def State.mbWrite (s : State) (n m a : Nat) (v : Half) : State :=
  if a = 7 then (if s.mbIn n m then s.mbDiscard n m else s.mbForm n m)
  else if a < 7 ∧ !s.mbIn n m ∧ s.mbEn n m then
    let x := s.mbox n m
    s.setMbox n m { x with stage := smSet 0 x.stage a v }
  else s

/-! Sources (R328) -/

/-- The tile mailbox of mailbox `j` of a part's sector. -/
def mzMbox (p sector j : Nat) : Nat := 8 * (p % 2) + 2 * sector + j

/-- The value of a source code in a sector in the current cycle. -/
def State.mzSrc (s : State) (p sector code : Nat) : Half :=
  let x := s.part p
  let n := p / 2
  if code < 80 then (x.cell (80 * sector + code)).see
  else if code < 85 then smGet 0 x.rdA (5 * sector + (code - 80))
  else if 88 ≤ code ∧ code < 93 then
    (if x.hostB (5 * sector + (code - 88)) then 0 else smGet 0 x.rdB (5 * sector + (code - 88)))
  else if code = 96 then
    BitVec.ofNat 16 (((List.range 5).map (fun k => 2 ^ k * Bool.bit (smGet false x.busyB (5 * sector + k)))).foldl (· + ·) 0 +
      32 * Bool.bit (s.mbBusy n (mzMbox p sector 0)) + 64 * Bool.bit (s.mbBusy n (mzMbox p sector 1)))
  else if code = 97 then
    BitVec.ofNat 16 (((List.range 16).map (fun i => 2 ^ i * Bool.bit (smGet false x.io (18 * sector + i)))).foldl (· + ·) 0)
  else if code = 98 then
    BitVec.ofNat 16 (((List.range 2).map (fun i => 2 ^ i * Bool.bit (smGet false x.io (18 * sector + 16 + i)))).foldl (· + ·) 0)
  else if code = 100 ∨ code = 101 then smGet 0 x.mbRd (2 * sector + (code - 100))
  else if code ≥ 128 then smGet 0 x.lines (code - 128)
  else 0

/-! User I/O (R334, R349) -/

/-- The GPIO pin of a user I/O of a part. -/
def State.mzPin (s : State) (p io : Nat) : Option Nat := smFind (s.tile (p / 2)).pinmap (72 * (p % 2) + io)
/-- The level an outside driver leaves on a pad. -/
def State.padLevel (s : State) (pin : Nat) : Bool := (smGet 0 s.gpio.pad (pin / 16)).getLsbD (pin % 16)
/-- The configuration of user I/O `io` of a part: layer 7, rows 3-5. -/
def MzPart.ioCfg (x : MzPart) (io : Nat) : Word := x.layer (8 * (io / 18) + io % 18 / 3) 7 (3 + io % 3)
/-- A user I/O drives its pin (enable, value): the bits of O that OSRC and ESRC name, as they stood at the last edge; what codes 80-253 read is
open (DESIGN CHOICE, log entry 114). -/
def State.mzDrive (s : State) (p io : Nat) : Bool × Bool :=
  let x := s.part p
  let w := x.ioCfg io
  let osrc := fld w 31 24
  let esrc := fld w 19 12
  let bitOf (cell b : Nat) : Bool :=
    (if cell < 80 then (x.cell (80 * (io / 18) + cell)).see else Config.noCell s.freeCtr cell).getLsbD b
  if !x.run ∨ osrc = 255 ∨ esrc = 255 then (false, false)
  else (decide (esrc = 254) || bitOf esrc (fld w 11 8), bitOf osrc (fld w 23 20))

/-- A pin of tile 1's host bus while its section has HOSTBUS = 1: it ignores every native function (R337, R489). -/
def State.hostBusPin (s : State) (b i : Nat) : Bool :=
  let t := s.tile 1
  t.hostbus && (decide (b = 16) || (decide (b = 17) && decide (i < 15) && (decide (i ≠ 13) || decide (t.mode = 2))) || (decide (b = 18) && decide (i < 2)))

/-- What the native function of a pin drives (enable, value): SW or FAB (R490); nothing before step 12 and while the block is held (R384, R531). -/
def State.nativeDrive (s : State) (b i : Nat) : Bool × Bool :=
  if s.gsr || s.pins.ioRst || s.hostBusPin b i then (false, false)
  else match fld (s.rd (GPIO_FSEL b)) (2 * i + 1) (2 * i) with
    | 0 => (tb (s.rd (GPIO_OE b)) i, tb (s.rd (GPIO_DATA b)) i)
    | 1 => (tb (s.rd (GPIO_OE b)) i, tb (s.rd (GPIO_FOUT b)) i)
    | _ => (false, false)

/-- A pin assigned to a part of a tile that is ON (R349). -/
def State.flintPin (s : State) (pin : Nat) : Bool := [0, 1].any (fun n => decide ((s.tile n).mode ≠ 0) && (s.tile n).pinmap.any (fun e => decide (e.2 = pin)))

/-- The native part of a pad: the latch of a bank that holds, else its function; a pin of a Flint part that is ON never holds (R494). -/
def State.bankDrive (s : State) (b i : Nat) : Bool × Bool :=
  match smFind s.gpio.latch b with
  | some (val, en) => if s.flintPin (16 * b + i) then s.nativeDrive b i else (en.getLsbD i, val.getLsbD i)
  | none => s.nativeDrive b i

/-- BUSY_N of tile 1's host bus is driven low at bank 18, pin 1 (R337, R340). -/
def State.busyPin (s : State) (pin : Nat) : Bool := decide (pin = 289) && s.hostBusPin 18 1 && ((s.part 2).busy || (s.part 3).busy)

/-- What the Flint parts drive on a pin (R345, R349). -/
def State.flintDrive (s : State) (pin : Nat) : Bool × Bool :=
  let of (n : Nat) : List (Bool × Bool) := ((s.tile n).pinmap.filter (fun e => decide (e.2 = pin))).map (fun e =>
    if (s.tile n).mode = 2 then s.mzDrive (2 * n + e.1 / 72) (e.1 % 72) else s.mzDrive (2 * n) e.1)
  let ds := of 0 ++ of 1
  (ds.any (fun d => d.1), ds.any (fun d => d.1 && d.2))

/-- The level a pad shows: the OR of what enabled functions drive, else what stands outside (R490); data on HD[15:0] of tile 1's host bus show only during its
cycles, which the rows of the bus stand for. -/
def State.padIn (s : State) (pin : Nat) : Bool :=
  let n := s.bankDrive (pin / 16) (pin % 16)
  let f := s.flintDrive pin
  if n.1 || f.1 || s.busyPin pin then (n.1 && n.2) || (f.1 && f.2) else s.padLevel pin

/-- GPIO_INb (R490). -/
def State.gpioIn (s : State) (b : Nat) : Word :=
  BitVec.ofNat 32 (((List.range 16).map (fun i => 2 ^ i * Bool.bit (s.padIn (16 * b + i)))).foldl (· + ·) 0)

/-! RAM ports (R327, R331-R333, R355, R356) -/

/-- The access of an array-facing port in this cycle: address, data, write enable. -/
def State.ramPort (s : State) (p r : Nat) (portB : Bool) : Nat × Half × Bool :=
  let w := (s.part p).port (r / 5) (r % 5) (if portB then 1 else 0)
  ((s.mzSrc p (r / 5) (byteFld w 3)).toNat % 1024, s.mzSrc p (r / 5) (byteFld w 2), (s.mzSrc p (r / 5) (byteFld w 1)).getLsbD 0)

/-- A RAM word as a read returns it: a word taken out of use reads zero, a POISON word too (R355, R356). -/
def MzPart.ramWord (x : MzPart) (r a : Nat) : Half :=
  if smGet false x.ramDead (1024 * r + a) then 0
  else if smGet .clean x.ramMark ((1024 * r + a) / 4) = .poison then 0
  else smGet 0 x.ram (1024 * r + a)

/-- Write a RAM word: its unit is encoded anew (R355); a word taken out of use ignores it (R356). -/
def MzPart.ramPut (x : MzPart) (r a : Nat) (v : Half) : MzPart :=
  if smGet false x.ramDead (1024 * r + a) then x
  else { x with ram := smSet 0 x.ram (1024 * r + a) v, ramMark := smDel x.ramMark ((1024 * r + a) / 4) }

/-- The unit number of a part's RAM (R251). -/
def mzUnit (p r : Nat) : Nat := 0x7000 + 40 * (p / 2) + 20 * (p % 2) + r

/-- Note a read of a RAM word that is corrected or unusable (R355). -/
def State.ramNote (s : State) (p r a : Nat) : State :=
  match smGet .clean (s.part p).ramMark ((1024 * r + a) / 4) with
  | .clean => s
  | .ce => (s.noteCe (mzUnit p r) (a / 4)).bump (flRamce (p / 2)) (flOvf (p / 2)) 2
  | .ue => (s.noteBad (mzUnit p r) (a / 4) false 0).setBits (flStatus (p / 2)) 512
  | .poison => (s.noteBad (mzUnit p r) (a / 4) true 0).setBits (flStatus (p / 2)) 512

/-- The read data of a port after its access: the word before the cycle's writes; after a write a free value (log entry 17). -/
def State.ramRead (s : State) (p r a : Nat) (we : Bool) : State × Half :=
  if we then (s.drawn, BitVec.ofNat 16 s.freeVal.toNat) else (s.ramNote p r a, (s.part p).ramWord r a)

/-- One RAM at the end of a tile-clock cycle; `s0` is the state of the cycle that ends, `t` what has been worked out so far. All accesses
read the words held before; port B writes last (R332). A host access that has not taken effect may collide. -/
def State.ramCycle (s0 : State) (p : Nat) (t : State) (r : Nat) : State :=
  let a := s0.ramPort p r false
  let ra := t.ramRead p r a.1 a.2.2
  if (s0.part p).hostB r then
    let x := ra.1.part p
    let meet (h : MzHost) : MzHost := { h with hit := h.hit || decide (h.ram = r) && decide (h.word = a.1) && (a.2.2 || h.data.isSome) }
    let x := if a.2.2 then x.ramPut r a.1 a.2.1 else x
    ra.1.setPart p { x with rdA := smSet 0 x.rdA r ra.2, busyB := smDel x.busyB r, host := x.host.map meet }
  else
    let b := s0.ramPort p r true
    let rb := ra.1.ramRead p r b.1 b.2.2
    let x := rb.1.part p
    let hit := decide (a.1 = b.1) && (a.2.2 || b.2.2)
    let x := if a.2.2 then x.ramPut r a.1 a.2.1 else x
    let x := if b.2.2 then x.ramPut r b.1 b.2.1 else x
    rb.1.setPart p { x with rdA := smSet 0 x.rdA r ra.2, rdB := smSet 0 x.rdB r rb.2, busyB := smSet false x.busyB r hit }

/-- An HCLK edge (R331, R333): an access commanded before it takes effect, and BUSY_N is low in the cycle it begins where that access collided. -/
def State.hostEdge (s : State) (p : Nat) : State :=
  let x := s.part p
  match x.host with
  | none => s.setPart p { x with busy := false }
  | some h =>
    let x := match h.data with
      | some v => x.ramPut h.ram h.word v
      | none => x
    s.setPart p { x with host := none, busy := h.hit }

/-- Whether an HCLK edge has come since the last command that waits for one: no command says how HCLK stands to a tile clock, so it is free (log
entry 18). -/
def State.hostMaybe (s : State) (p : Nat) : State :=
  let x := s.part p
  if x.host.isSome || x.busy then (if s.freeVal.getLsbD 0 then s.drawn.hostEdge p else s.drawn) else s

/-- A host-bus cycle begins: the access of an earlier one has taken effect, and more edges may have come. -/
def State.hostCycle (s : State) (p : Nat) : State :=
  (if (s.part p).host.isSome then s.hostEdge p else s).hostMaybe p

/-! The end of a tile-clock cycle -/

/-- Mailbox port `i` of a part at the end of a cycle; after a write the read data is a free value, as a RAM port's (log entry 17). -/
def State.mbCycle (s0 : State) (p : Nat) (t : State) (i : Nat) : State :=
  let n := p / 2
  let m := mzMbox p (i / 2) (i % 2)
  let w := (s0.part p).port (i / 2) (6 + i % 2) 0
  let a := (s0.mzSrc p (i / 2) (byteFld w 3)).toNat % 1024
  let d := s0.mzSrc p (i / 2) (byteFld w 2)
  let we := (s0.mzSrc p (i / 2) (byteFld w 1)).getLsbD 0
  let v := if we then BitVec.ofNat 16 t.freeVal.toNat else s0.mbRead n m a
  let t := if we then t.drawn.mbWrite n m a d else t
  let x := t.part p
  t.setPart p { x with mbRd := smSet 0 x.mbRd i v }

/-- Long lines move on one cycle (R327, R330): what was placed is OR-ed; a line with nothing placed keeps its last value; two or more drivers
set CONTENTION and count. -/
def State.lineCycle (s : State) (p : Nat) : State :=
  let x := s.part p
  let n := p / 2
  let clash := (x.put.filter (fun e => decide (e.2.2 ≥ 2))).length
  let mid := x.put.foldl (fun m e => smSet 0 m e.1 e.2.1) x.mid
  let s := s.setPart p { x with lines := x.mid, mid := mid, put := [] }
  if clash = 0 then s
  else (s.setBits (flStatus n) (if p % 2 = 0 then 64 else 128)).bumpN (flCont n) (flOvf n) 1 clash

/-- Every pin of a part's user I/O is sampled (R334); one with no entry reads 0 (R349). -/
def State.mzSample (s : State) (p : Nat) : State :=
  let io := (List.range (18 * (s.mzCols p / 8))).foldl (fun m i => match s.mzPin p i with
    | some pin => smSet false m i (s.padIn pin)
    | none => m) ([] : SMap Bool)
  s.setPart p { s.part p with io := io }

/-- The tile-clock edge that ends the open cycle of a part: RAM and mailbox ports, long lines, the samples of the user I/O, and every O becomes
readable. -/
def State.mzEdge (s : State) (p : Nat) : State :=
  let s := (s.hostMaybe p).hostMaybe p
  let t := (List.range (s.mzRams p)).foldl (s.ramCycle p) s
  let t := (List.range (s.mzCols p / 4)).foldl (s.mbCycle p) t
  let t := (t.lineCycle p).mzSample p
  let x := t.part p
  t.setPart p { x with cells := x.cells.map (fun e => (e.1, { e.2 with see := e.2.o })), last := none }

/-! Cells (R323-R329) -/

/-- The configured entry of a cell at its step counter. -/
def MzPart.entry (x : MzPart) (cell : Nat) : Word :=
  x.layer (cell / 10) (x.cell cell).sc.toNat (cell % 10)

/-- An entry word agrees with an operation code and the fields of a command (R324: bit 16 is ignored). -/
def mzAgrees (e : MzEntry) (op : Nat) (w : Word) : Bool :=
  decide (fld w 31 27 = op) && decide (fld w 26 24 = e.sa.toNat) && decide (fld w 23 21 = e.sb.toNat) &&
  decide (tb w 20 = e.wacc) && decide (tb w 19 = e.lde) && decide (fld w 18 17 = e.next.toNat) && decide (fld w 15 0 = e.imm.toNat)

/-- An operand (R324). -/
def State.mzOperand (s : State) (p cell : Nat) (code : BitVec 3) (imm : Half) : Half :=
  let x := s.part p
  let c := x.cell cell
  let sel := x.layer (cell / 10) 4 (cell % 10)
  match code.toNat with
  | 4 => c.acc
  | 5 => c.see
  | 6 => imm
  | 7 => 0
  | i => s.mzSrc p (cell / 80) (byteFld sel i)

/-- The next step (R326), from C at the start of the cycle. -/
def mzNext (next : BitVec 2) (sc : BitVec 2) (c : Bool) : BitVec 2 :=
  match next.toNat with
  | 0 => sc + 1
  | 1 => sc
  | 2 => 0
  | _ => if c then sc + 1 else sc

/-- What an MZ operation gives: the result (none for NOP) and the new C where it changes. -/
structure MzRes where
  r : Option Half := none
  c : Option Bool := none

/-- Place a result on the line a cell drives (R329, R330). -/
def MzPart.drive (x : MzPart) (cell : Nat) (v : Half) : MzPart :=
  let w := x.layer (cell / 10) 6 (cell % 10)
  if tb w 31 then
    let l := fld w 30 24
    let old := smGet ((0 : Half), 0) x.put l
    { x with put := smSet (0, 0) x.put l (old.1 ||| v, old.2 + 1) }
  else x

/-- The effect of an issue on the part. -/
def MzPart.issue (x : MzPart) (cell : Nat) (e : MzEntry) (res : MzRes) : MzPart :=
  let c := x.cell cell
  let c' : MzCell := { sc := mzNext e.next c.sc c.c, o := res.r.getD c.o, see := c.see
                       acc := if e.wacc then res.r.getD c.acc else c.acc, c := res.c.getD c.c }
  let x := { x with cells := smSet MzCell.zero x.cells cell c', last := some cell }
  match res.r with
  | some v => if e.lde then x.drive cell v else x
  | none => x

/-- A new tile-clock cycle begins when the cell, or one after it, has issued in the open one (log entry 8). -/
def State.mzOpen (s : State) (p cell : Nat) : State :=
  match (s.part p).last with
  | some j => if cell ≤ j then s.mzEdge p else s
  | none => s

/-- One issue of an MZ cell (R325). A cell of a part in GSR issues nothing, and it issues the configured entry I[SC] and no other
(log entry 9). `ops` lists the codes the command stands for. -/
def mzIssue (ops : List Nat) (f : Half → Half → Bool → MzRes) (p cell : Nat) (e : MzEntry) (s : State) : Res' :=
  if !(decide (p < 4) && decide (cell < 640)) then .fault .noSuchUnit
  else if !s.partOn p ∨ !(s.part p).run ∨ s.mzStopped ∨ cell ≥ 10 * s.mzCols p then .next s
  else
    let t := s.mzOpen p cell
    let x := t.part p
    if !(ops.any (fun op => mzAgrees e op (x.entry cell))) then .next s
    else
      let c := x.cell cell
      .next (t.setPart p (x.issue cell e (f (t.mzOperand p cell e.sa e.imm) (t.mzOperand p cell e.sb e.imm) c.c)))

/-- A sum with its carry out. -/
def mzSum (a b : Half) (cin : Bool) : MzRes :=
  let n := a.toNat + b.toNat + Bool.bit cin
  { r := some (BitVec.ofNat 16 n), c := some (decide (n ≥ 2 ^ 16)) }
def mzVal (v : Half) : MzRes := { r := some v }
def mzCmp (b : Bool) : MzRes := { r := some (if b then 0xFFFF#16 else 0), c := some b }
/-- A shift: C takes the last bit out, and stays for a shift of 0 (R325). -/
def mzShift (v : Half) (k : Nat) (out : Bool) : MzRes := { r := some v, c := if k = 0 then none else some out }

/-- NOP and the unused codes (R325). -/
def execMzNop (part cell : Nat) (e : MzEntry) (s : State) : Res' :=
  mzIssue (0 :: (List.range 13).map (fun i => 0x13 + i)) (fun _ _ _ => {}) part cell e s
/-- PASS. -/
def execMzPass (part cell : Nat) (e : MzEntry) (s : State) : Res' := mzIssue [1] (fun a _ _ => mzVal a) part cell e s
/-- ADD. -/
def execMzAdd (part cell : Nat) (e : MzEntry) (s : State) : Res' := mzIssue [2] (fun a b _ => mzSum a b false) part cell e s
/-- ADC. -/
def execMzAdc (part cell : Nat) (e : MzEntry) (s : State) : Res' := mzIssue [3] (fun a b c => mzSum a b c) part cell e s
/-- SUB: C = 1 means no borrow. -/
def execMzSub (part cell : Nat) (e : MzEntry) (s : State) : Res' := mzIssue [4] (fun a b _ => mzSum a (~~~b) true) part cell e s
/-- SBC. -/
def execMzSbc (part cell : Nat) (e : MzEntry) (s : State) : Res' := mzIssue [5] (fun a b c => mzSum a (~~~b) c) part cell e s
/-- AND. -/
def execMzAnd (part cell : Nat) (e : MzEntry) (s : State) : Res' := mzIssue [6] (fun a b _ => mzVal (a &&& b)) part cell e s
/-- OR. -/
def execMzOr (part cell : Nat) (e : MzEntry) (s : State) : Res' := mzIssue [7] (fun a b _ => mzVal (a ||| b)) part cell e s
/-- XOR. -/
def execMzXor (part cell : Nat) (e : MzEntry) (s : State) : Res' := mzIssue [8] (fun a b _ => mzVal (a ^^^ b)) part cell e s
/-- SHL by SB[3:0]. -/
def execMzShl (part cell : Nat) (e : MzEntry) (s : State) : Res' :=
  mzIssue [9] (fun a b _ => mzShift (a <<< (b.toNat % 16)) (b.toNat % 16) (a.getLsbD (16 - b.toNat % 16))) part cell e s
/-- SHR by SB[3:0]. -/
def execMzShr (part cell : Nat) (e : MzEntry) (s : State) : Res' :=
  mzIssue [10] (fun a b _ => mzShift (a >>> (b.toNat % 16)) (b.toNat % 16) (a.getLsbD (b.toNat % 16 - 1))) part cell e s
/-- SAR by SB[3:0]. -/
def execMzSar (part cell : Nat) (e : MzEntry) (s : State) : Res' :=
  mzIssue [11] (fun a b _ => mzShift (a.sshiftRight (b.toNat % 16)) (b.toNat % 16) (a.getLsbD (b.toNat % 16 - 1))) part cell e s
/-- MUL: bits [15:0] of the unsigned product. -/
def execMzMul (part cell : Nat) (e : MzEntry) (s : State) : Res' :=
  mzIssue [12] (fun a b _ => mzVal (BitVec.ofNat 16 (a.toNat * b.toNat))) part cell e s
/-- MULH: bits [31:16] of the unsigned product. -/
def execMzMulh (part cell : Nat) (e : MzEntry) (s : State) : Res' :=
  mzIssue [13] (fun a b _ => mzVal (BitVec.ofNat 16 (a.toNat * b.toNat / 2 ^ 16))) part cell e s
/-- CMPEQ. -/
def execMzCmpeq (part cell : Nat) (e : MzEntry) (s : State) : Res' := mzIssue [14] (fun a b _ => mzCmp (decide (a = b))) part cell e s
/-- CMPLT, unsigned. -/
def execMzCmplt (part cell : Nat) (e : MzEntry) (s : State) : Res' :=
  mzIssue [15] (fun a b _ => mzCmp (decide (a.toNat < b.toNat))) part cell e s
/-- SEL by C. -/
def execMzSel (part cell : Nat) (e : MzEntry) (s : State) : Res' := mzIssue [16] (fun a b c => mzVal (if c then a else b)) part cell e s
/-- MIN, unsigned. -/
def execMzMin (part cell : Nat) (e : MzEntry) (s : State) : Res' :=
  mzIssue [17] (fun a b _ => mzVal (if a.toNat < b.toNat then a else b)) part cell e s
/-- MAX, unsigned. -/
def execMzMax (part cell : Nat) (e : MzEntry) (s : State) : Res' :=
  mzIssue [18] (fun a b _ => mzVal (if b.toNat < a.toNat then a else b)) part cell e s

/-- GSR release (R334, R335): cycle 0 of every cell begins from its initial state at an edge, which samples the pins. -/
def State.mzRelease (s : State) (p : Nat) : State :=
  let s := s.mzSample p
  let x := s.part p
  let cells := (List.range (10 * s.mzCols p)).foldl (fun m i => smSet MzCell.zero m i (x.cellInit i)) ([] : SMap MzCell)
  s.setPart p { x with cells := cells, lines := [], mid := [], put := [], rdA := [], rdB := [], busyB := [], mbRd := [], last := none
                       run := true, go := false }

/-! Mailboxes toward the native side (R351-R353, R360) -/

/-- The part of a mailbox is out of GSR and its clock runs: its array writes reach the mailbox (R335). -/
def State.mbRun (s : State) (n m : Nat) : Bool := (s.part (if (s.tile n).mode = 2 then 2 * n + m / 8 else 2 * n)).run && !s.mzStopped

/-- MAILBOX_FORM_TOKEN (R350). -/
def execMailboxFormToken (tile m : Nat) (s : State) : Res' :=
  if !(decide (tile < 2) && decide (m < 16)) then .fault .noSuchUnit else .next (if s.mbRun tile m then s.mbForm tile m else s)

/-- MAILBOX_PRESENT (R351, R353); nothing enters a matching store or queue before native GSR is released (R384). -/
def execMailboxPresent (tile m : Nat) (s : State) : Res' :=
  if !(decide (tile < 2) && decide (m < 16)) then .fault .noSuchUnit
  else
    let x := s.mbox tile m
    match x.buf with
    | [] => .next s
    | t :: ts =>
      if s.mbIn tile m ∨ s.pins.ioRst ∨ s.gsr then .next s
      else
        let out := s.sinkToken (tilePort tile) (tb (s.rd (flMba tile m)) 29) t
        .next (if out.2 then out.1.setMbox tile m { x with buf := ts } else out.1)

/-- MAILBOX_TAKE (R352, R353): from a queue with CONS = 0b00 only. -/
def execMailboxTake (tile m : Nat) (s : State) : Res' :=
  if !(decide (tile < 2) && decide (m < 16)) then .fault .noSuchUnit
  else
    let q := fld (s.rd (flMba tile m)) 17 0
    if !s.mbIn tile m ∨ !s.mbEn tile m ∨ s.pins.ioRst ∨ (s.mbox tile m).buf.length ≥ 4 ∨ !(s.qrec q).en ∨ (s.qrec q).cons ≠ 0 ∨
       !s.oneWay (queuePort q) (tilePort tile) then .next s
    else
      let out := s.qPop q ((s.qrec q).depth + 1)
      match out.2 with
      | some t => .next ((out.1.setMbox tile m { out.1.mbox tile m with buf := (out.1.mbox tile m).buf ++ [t] }).countFlits (tilePort tile) 1)
      | none => .next out.1

/-- MAILBOX_DISCARD (R352). -/
def execMailboxDiscard (tile m : Nat) (s : State) : Res' :=
  if !(decide (tile < 2) && decide (m < 16)) then .fault .noSuchUnit else .next (if s.mbRun tile m then s.mbDiscard tile m else s)

/-- A write of a mailbox register at an offset of the block (R359, R360). -/
def State.mbConfig (s : State) (n off : Nat) (v : Word) : State :=
  let cfgErr (s : State) : State := s.setBits (flStatus n) 2048
  if (s.tile n).mode = 0 then cfgErr s
  else if 0x40 ≤ off ∧ off < 0xC0 then
    let m := (off - 0x40) / 8
    if off % 8 = 0 then
      let old := s.rd (flMba n m)
      let new := v &&& 0xFF83FFFF#32
      if tb old 31 then (if new = old &&& 0x7FFFFFFF#32 then s.wr (flMba n m) new else cfgErr s)
      else if tb new 31 ∧ fld new 27 26 = 2 then cfgErr s
      else s.wr (flMba n m) new
    else if s.mbEn n m then cfgErr s
    else s.wr (flMbb n m) (v &&& 0xFFFF0000#32)
  else if 0xC0 ≤ off ∧ off < 0x100 then
    let m := (off - 0xC0) / 4
    if s.mbEn n m then cfgErr s else s.wr (flMbst n m) (v &&& 0x00FFFFFF#32)
  else s

/-- MAILBOX_CONFIG_WRITE (R360). -/
def execMailboxConfigWrite (tile off : Nat) (v : Word) (s : State) : Res' :=
  if decide (tile < 2) then .next (s.mbConfig tile off v) else .fault .noSuchUnit

/-- DONE of a part: configured and out of GSR. -/
def State.partDone (s : State) (p : Nat) : Bool := s.partOn p && (s.part p).run

/-- A write of FLINTn_CLK (R359): ignored where it changes the fields of a part that is DONE, or names a DIV outside 4-400. -/
def State.flintClk (s : State) (n : Nat) (v : Word) : State :=
  let old := s.rd (flClk n)
  let new := v &&& 0x03FF03FF#32
  let half (w : Word) (h : Nat) : Nat := fld w (16 * h + 9) (16 * h)
  let bad (h : Nat) : Bool :=
    (s.partDone (2 * n + h) && decide (half old h ≠ half new h)) ||
    (decide (half new h ≥ 512) && !(decide (4 ≤ half new h % 512) && decide (half new h % 512 ≤ 400)))
  if bad 0 || bad 1 then s.setBits (flStatus n) 2048 else s.wr (flClk n) new

/-- FLINT_CLK_WRITE (R359). -/
def execFlintClkWrite (tile : Nat) (v : Word) (s : State) : Res' :=
  if decide (tile < 2) then .next (s.flintClk tile v) else .fault .noSuchUnit

end Sys2Proof.Machine
end

