-- ==== Sys2Proof/Machine/MemCmd.lean ====
section
/-! DEFINITION. The commands of the cache, the scratchpad, the Garnet bank and their integrity machinery (R217-R257), fences apart. -/

namespace Sys2Proof.Machine

/-! Cache requests (R218-R221, R290) -/

def State.cacheWait (s : State) (r : MemReq) : State :=
  ({ s with cache := { s.cache with waiting := s.cache.waiting ++ [r] } }).reply r.master .waits []

/-- A request reaches its slice: answered from what the slice holds, or waiting for a sector (R218). -/
def State.cacheReq (s : State) (r : MemReq) : State :=
  if isLockWin r.addr then
    let x := s.serveLockWin r
    x.1.reply r.master x.2.1 x.2.2
  else if !isExternal r.addr ∨ s.extAbsent r.addr then s.reply r.master .error []
  else
    let s := if s.extWaits r.addr ∨ s.lineWaits r then s else s.vacate r.addr
    if s.sliceBypass (cSlice r.addr) ∨ (reqSectors r).all (fun sec => !s.mustFetch r sec) then
      let x := s.serveExt r
      if x.2.1 = .waits then x.1.cacheWait r else x.1.reply r.master x.2.1 x.2.2
    else s.cacheWait r

/-- CACHE_REQUEST (R216, R218). -/
def execCacheRequest (r : MemReq) (s : State) : Res' := if MemReq.wf r then .next (s.cacheReq r) else .fault .noSuchUnit

/-- Serve the waiting requests that can be served now, in order; a request behind another to its line stays behind it. One that waited for its fetch is no
hit (R245). -/
def State.serveWaiting (s : State) : List MemReq → List MemReq → State
  | kept, [] => { s with cache := { s.cache with waiting := kept } }
  | kept, r :: rs =>
    if kept.any (fun w => decide (w.addr / 256 = r.addr / 256)) ∨ s.extWaits r.addr ∨
       (!s.sliceBypass (cSlice r.addr) ∧ !(reqSectors r).all (fun sec => !s.mustFetch r sec)) then
      s.serveWaiting (kept ++ [r]) rs
    else
      let x := s.serveLine r
      if x.2.1 = .waits then x.1.serveWaiting (kept ++ [r]) rs
      else (x.1.reply r.master x.2.1 x.2.2).serveWaiting kept rs

/-- A fetched sector holds poison: a partial write that waits for it is refused (R290). -/
def State.refuseWrites (s : State) (sec : Nat) : State :=
  if !s.sectorBad sec then s
  else
    let hit (r : MemReq) : Bool := r.write && (reqSectors r).contains sec && !reqCovers r sec
    let t := (s.cache.waiting.filter hit).foldl (fun s r => s.reply r.master .error []) s
    { t with cache := { t.cache with waiting := s.cache.waiting.filter (fun r => !hit r) } }

/-- A waiting request needs this sector. -/
def State.needsSector (s : State) (sec : Nat) (r : MemReq) : Bool := (reqSectors r).contains sec && s.mustFetch r sec

/-- A sector fetch is answered (R218, R220): halted while IO_RESET_N is low; it is not made for a region that is being initialized (R282) or past a slice
that is off (R221). -/
def State.sectorArrives (s : State) (addr : Nat) : State :=
  let sec := addr / 64 * 64
  if !(s.cache.waiting.any (s.needsSector sec)) ∨ s.extWaits sec ∨ s.sliceBypass (cSlice sec) then s.serveWaiting [] s.cache.waiting
  else if s.pins.ioRst then
    let t := (s.cache.waiting.filter (s.needsSector sec)).foldl (fun t r => t.reply r.master .halted []) s
    { t with cache := { t.cache with waiting := s.cache.waiting.filter (fun r => !s.needsSector sec r) } }
  else if !s.ddrReach sec then s
  else match (s.vacate sec).cAlloc sec with
    | (s, none) => s
    | (s, some w) =>
      let t := (s.sectorFetch sec w).refuseWrites sec
      t.serveWaiting [] t.cache.waiting

/-- SECTOR_FETCH_RESPONSE (R218, R289, R306). -/
def execSectorFetchResponse (addr : Nat) (s : State) : Res' := .next (s.sectorArrives addr)

/-! Scratch-lock (R222-R224) -/

/-- A write of CACHE_LOCK for a slice (R224). -/
def State.lockWrite (s : State) (slice : Nat) (v : Word) : State :=
  if (smFind s.cache.trans slice).isSome then s.setBits CACHE_STATUS 1
  else { s with cache := { s.cache with trans := smPut s.cache.trans slice (BitVec.ofNat 16 (v.toNat % 2 ^ 15)) } }

/-- The slice an interface has selected. -/
def State.ssel (s : State) (i : Iface) : Nat := fld (s.sel i CACHE_SSEL) 7 0

/-- CACHE_LOCK_WRITE (R224). -/
def execCacheLockWrite (i : Iface) (v : Word) (s : State) : Res' := .next ((s.lockWrite (s.ssel i) v).answer i .ok [])

/-- Write back every dirty sector of a way. -/
def State.wayBack (s : State) (slice way : Nat) : State := (List.range 256).foldl (fun s set => s.lineBack slice way set) s
/-- Some sector of a way is dirty. -/
def State.wayDirty (s : State) (slice way : Nat) : Bool :=
  (List.range 256).any (fun set => decide ((s.cline (lineKey slice way set)).d ≠ 0))
/-- A way's lines are invalidated and its 64 KiB read zero. -/
def State.wayClear (s : State) (slice way : Nat) : State :=
  let lo := 0x1200000000 + slice * 2 ^ 20 + way * 2 ^ 16
  let s := { s with ecc := { s.ecc with merge := s.ecc.merge.filter (fun e => !(decide (lo ≤ e.addr) && decide (e.addr < lo + 2 ^ 16))) } }
  let s := (List.range 256).foldl (fun s set => s.lineDrop slice way set) s
  { s with cache := { s.cache with
    arr := smDrop (fun i => decide (i / 65536 = 16 * slice + way)) s.cache.arr
    marks := smDrop (fun i => decide (i / 8192 = 16 * slice + way)) s.cache.marks } }

/-- A lock transition ends (R224): it stays while a write-back cannot be made (R220). -/
def State.lockEnd (s : State) (slice : Nat) : State :=
  match smFind s.cache.trans slice with
  | none => s
  | some m =>
    let old := s.lockMask slice
    let new : BitVec 15 := m.truncate 15
    let ways := (List.range 15).filter (fun w => old.getLsbD w != new.getLsbD w)
    let s := (ways.filter (fun w => new.getLsbD w)).foldl (fun s w => s.wayBack slice w) s
    if (ways.filter (fun w => new.getLsbD w)).any (fun w => s.wayDirty slice w) then s
    else
      let s := ways.foldl (fun s w => s.wayClear slice w) s
      { s with cache := { s.cache with lock := smSet 0 s.cache.lock slice new, trans := smDel s.cache.trans slice } }

/-- LOCK_TRANSITION_END (R224). -/
def execLockTransitionEnd (slice : Nat) (s : State) : Res' :=
  if decide (slice < 256) then .next (s.lockEnd slice) else .fault .noSuchUnit

/-! Maintenance operations (R225) -/

/-- A write of CACHE_MOP with START = 1. -/
def State.mopStart (s : State) (op : Nat) (v : Word) : State :=
  if s.cache.mop.isSome then s.setBits CACHE_STATUS 1
  else
    let s := s.wr CACHE_MOP (BitVec.ofNat 32 (fld v 13 8 * 256 + fld v 5 4 * 16 + op % 8))
    if fld v 5 4 = 3 ∨ op = 0 ∨ op > 3 then s.setBits CACHE_STATUS 1
    else { s with cache := { s.cache with mop := some { op := BitVec.ofNat 3 op, scope := BitVec.ofNat 2 (fld v 5 4), kid := BitVec.ofNat 6 (fld v 13 8),
                                                        base := s.rd64 CACHE_MBASE_LO, len := s.rd64 CACHE_MLEN_LO } } }

/-- CLEAN (R225). -/
def execCacheClean (v : Word) (s : State) : Res' := .next (s.mopStart 1 v)
/-- INVAL (R225). -/
def execCacheInval (v : Word) (s : State) : Res' := .next (s.mopStart 2 v)
/-- CLEAN_INV (R225). -/
def execCacheCleanInv (v : Word) (s : State) : Res' := .next (s.mopStart 3 v)

/-- Slice, way and set of a line key. -/
def keySlice (k : Nat) : Nat := k / 4096
def keyWay (k : Nat) : Nat := k / 256 % 16
def keySet (k : Nat) : Nat := k % 256

/-- A held line is in the scope of an operation. -/
def Mop.hits (m : Mop) (k : Nat) (x : CLine) : Bool :=
  decide (x.v ≠ 0) &&
  (match m.scope.toNat with
   | 0 => true
   | 1 => let a := lineAddr (keySlice k) (keySet k) x.tag
          decide (a < m.base + m.len) && decide (m.base < a + 256)
   | _ => decide (x.kid = m.kid))

/-- Treat the lines that satisfy `p`: write back, discard, or both. -/
def State.treatLines (s : State) (back drop : Bool) (p : Nat → CLine → Bool) : State :=
  let ks := (s.cache.lines.filter (fun e => p e.1 e.2)).map (fun e => e.1)
  let s := if back then ks.foldl (fun s k => s.lineBack (keySlice k) (keyWay k) (keySet k)) s else s
  if drop then
    ks.foldl (fun s k => if back && decide ((s.cline k).d ≠ 0) then s else s.lineDrop (keySlice k) (keyWay k) (keySet k)) s
  else s

/-- The operation completes (R225): not while a line of its scope could not be written back. -/
def State.mopEnd (s : State) : State :=
  match s.cache.mop with
  | none => s
  | some m =>
    let back := decide (m.op ≠ 2)
    let s := s.treatLines back (decide (m.op ≠ 1)) m.hits
    if back && s.cache.lines.any (fun e => m.hits e.1 e.2 && decide (e.2.d ≠ 0)) then s
    else ({ s with cache := { s.cache with mop := none } }).setBits CACHE_STATUS 2

/-- MOP_DONE (R225). -/
def execMopDone (s : State) : Res' := .next s.mopEnd

/-! Scratchpad (R226-R236) -/

/-- SPAD_REQUEST (R228). -/
def execSpadRequest (r : MemReq) (s : State) : Res' :=
  if !(MemReq.wf r && isSpadPlain r.addr) then .fault .noSuchUnit
  else
    let x := s.serveSpad r
    .next (x.1.reply r.master x.2.1 x.2.2)

/-- SPAD_ALIAS_WRITE (R232). -/
def execSpadAliasWrite (r : MemReq) (s : State) : Res' :=
  if !(MemReq.wf r && isSpad r.addr && !isSpadPlain r.addr) then .fault .noSuchUnit
  else
    let x := s.serveSpad { r with write := true }
    .next (x.1.reply r.master x.2.1 x.2.2)

/-- An owner code of R227. -/
def ownerOk (n : Nat) : Bool := decide (n ≤ 0x81) || (decide (0x90 ≤ n) && decide (n ≤ 0x9B)) || decide (n = 0xFF)

/-- A write of SPAD_BANKn (R227, R230). -/
def State.spadBank (s : State) (n : Nat) (v : Word) : State :=
  if ownerOk (fld v 7 0) then s.wr (SPAD_BANK n) (v &&& 0x1FF#32) else s.setBits SPAD_STATUS 2

/-- SPAD_BANK_WRITE (R230). -/
def execSpadBankWrite (n : Nat) (v : Word) (s : State) : Res' :=
  if decide (n < 128) then .next (s.spadBank n v) else .fault .noSuchUnit

/-! Merge buffers and corrections (R253, R257) -/

/-- MERGE_FLUSH_TIMEOUT (R253). -/
def execMergeFlushTimeout (unit addr : Nat) (s : State) : Res' :=
  .next (s.flushWhere (fun e => decide (e.unit = unit) && decide (e.addr = addr / 8 * 8)))

/-- The part and RAM of a Flint unit code (R251). -/
def State.mzOfUnit (s : State) (u : Nat) : Nat × Nat :=
  let n := (u - 0x7000) / 40
  let i := (u - 0x7000) % 40
  if (s.tile n).mode = 1 then (2 * n, i) else (2 * n + i / 20, i % 20)

/-- A corrected word is written back: its mark clears unless a write intervened (R257). -/
def State.ceClear (s : State) (e : CeBack) : State :=
  match e.unit / 0x1000 with
  | 9 =>
    let row := (e.addr - 0x1100000000) / 64
    if smGet .clean s.garnet.marks row = .ce then { s with garnet := { s.garnet with marks := smDel s.garnet.marks row } } else s
  | 10 =>
    let w := e.addr / 8
    if smGet .clean s.ddr.marks w = .ce then { s with ddr := { s.ddr with marks := smDel s.ddr.marks w } } else s
  | 8 =>
    let k := 2 ^ 21 * ((e.unit - 0x8000) / 8) + 2 ^ 18 * (e.unit % 8) + e.addr
    if smGet .clean s.res.rowMark k = .ce then { s with res := { s.res with rowMark := smDel s.res.rowMark k } } else s
  | 7 =>
    let pr := s.mzOfUnit e.unit
    let x := s.part pr.1
    let i := 256 * pr.2 + e.addr
    if smGet .clean x.ramMark i = .ce then s.setPart pr.1 { x with ramMark := smDel x.ramMark i } else s
  | _ =>
    match s.wLoc e.addr with
    | some (.cache k) =>
      if smGet .clean s.cache.marks (k / 8) = .ce then { s with cache := { s.cache with marks := smDel s.cache.marks (k / 8) } } else s
    | some (.spad k) =>
      if smGet .clean s.spad.marks (k / 8) = .ce then { s with spad := { s.spad with marks := smDel s.spad.marks (k / 8) } } else s
    | none => s

/-- Drop the first entry of a unit. -/
def dropCe (unit : Nat) : List CeBack → List CeBack
  | [] => []
  | e :: es => if e.unit = unit then es else e :: dropCe unit es

/-- CE_WRITEBACK (R257): the oldest correction of the unit. -/
def execCeWriteback (unit : Nat) (s : State) : Res' :=
  .next (match s.ecc.ceBack.find? (fun e => decide (e.unit = unit)) with
    | some e => ({ s with ecc := { s.ecc with ceBack := dropCe unit s.ecc.ceBack } }).ceClear e
    | none => s)

/-! Garnet (R237-R242) -/

/-- GARNET_READ (R237). -/
def execGarnetRead (r : MemReq) (s : State) : Res' :=
  if !(MemReq.wf r && isGarnet r.addr) then .fault .noSuchUnit
  else
    let x := s.serveGarnet { r with write := false }
    .next (x.1.reply r.master x.2.1 x.2.2)

/-- GARNET_WRITE (R238, R241). -/
def execGarnetWrite (r : MemReq) (s : State) : Res' :=
  if !(MemReq.wf r && isGarnet r.addr) then .fault .noSuchUnit
  else
    let x := s.serveGarnet { r with write := true }
    .next (if x.2.1 = .waits && s.dom (domSector (garnetSector (garnetOff r.addr))) = .on then
        ({ x.1 with garnet := { x.1.garnet with waiting := x.1.garnet.waiting ++ [{ r with write := true }] } }).reply r.master .waits []
      else x.1.reply r.master x.2.1 x.2.2)

/-- GARNET_ROW_WRITEOUT (R238, R243, R244): the first row of the sector's buffer, with the outcome of its two verifies; a write that waits for a row takes the
one that is free. -/
def execGarnetRowWriteout (sector : Nat) (firstOk secondOk : Bool) (s : State) : Res' :=
  if !decide (sector < 8) then .fault .noSuchUnit
  else match s.sectorRows sector with
    | x :: _ =>
      let t := s.rowOut x (firstOk || secondOk)
      .next (t.garnetServe [] t.garnet.waiting)
    | [] => .next s

/-- PWR_FAIL_FALL (R241). -/
def execPwrFailFall (s : State) : Res' :=
  .next { s with pins := { s.pins with pwrFail := true }, garnet := { s.garnet with pf := true, pfDone := decide (s.garnet.wbuf = []) } }

/-- PF_DONE (R241): the flush has written every row. -/
def execPfDone (s : State) : Res' :=
  .next (if s.garnetShut then
      let t := s.garnetFlush
      let t := t.garnetServe [] t.garnet.waiting
      { t with garnet := { t.garnet with pfDone := true } }
    else s)

/-- PWR_FAIL_RISE (R241). -/
def execPwrFailRise (s : State) : Res' :=
  .next { s with
    pins := { s.pins with pwrFail := false }
    garnet := { s.garnet with pf := s.pins.vppLost, pfDone := s.pins.vppLost && s.garnet.pfDone } }

end Sys2Proof.Machine
end

