-- ==== Sys2Proof/Machine/Faults.lean ====
section
/-! DEFINITION. Faults, checkers and fencing (R311-R319). -/

namespace Sys2Proof.Machine

/-! Fencing (R315) -/

/-- Withdraw every placement that names a cluster (R170). -/
def State.withdrawOn (s : State) (c : Nat) : State :=
  (s.dsp.insts.filter (fun x => decide (x.st = .placed) && x.clusters.contains c)).foldl (fun s x => s.withdraw x.iid) s

/-- Store a bit of the fence map with its registers (R318). -/
def State.setFence (s : State) (c : Nat) (on : Bool) : State :=
  let s := { s with flt := { s.flt with fence := smSet false s.flt.fence c on } }
  let s := s.wr SYS_FENCED (BitVec.ofNat 32 (s.flt.fence.length))
  if on then s.setBits (SYS_FENCE (c / 32)) (bitMask (c % 32)) else s.clrBits (SYS_FENCE (c / 32)) (bitMask (c % 32))

/-- A claim ends once a cluster it names is fenced (R172). -/
def State.endClaims (s : State) (c : Nat) : State :=
  { s with dsp := { s.dsp with claims := s.dsp.claims.filter (fun k => !k.clusters.contains c) } }

/-- Fence a cluster: cause 1 BIST, 2 march (R315, R506). Every instance on it that is not yet committed aborts with HALT, its placements and claims end, and
with its planes the fills on their way to it. -/
def State.fenceCluster (s : State) (c cause : Nat) : State :=
  if s.fenced c then s
  else
    let s := ((s.haltOn c).withdrawOn c).endClaims c
    let s := (s.invalidateAll c).setFence c true
    (s.setBits SYS_FLTSTAT 8).record 0x14 3 (natBytes 2 c ++ natBytes 1 cause)

/-- Remove a cluster from the fence map (R516). -/
def State.unfence (s : State) (c : Nat) : State :=
  if s.fenced c then (s.setFence c false).record 0x15 1 (natBytes 2 c) else s

/-! Fault injection (R319) -/

/-- An injection is accepted. -/
def State.injOk (s : State) (v : Word) : Bool :=
  let c := fld v 29 20
  !s.fenced c && decide (s.dom c ≠ .nimbus) &&
  (if tb v 30 then decide (s.dom c ≠ .stratus) else decide ((s.plane c (fld v 19 18)).st = .valid))

/-- Invert the bit named by a SYS_INJ word, leaving its parity as it was. -/
def State.inject1 (s : State) (v : Word) : State :=
  let c := fld v 29 20
  let p := fld v 19 18
  let w := fld v 17 9
  let m := bitMask (fld v 8 4)
  if tb v 30 then
    let x := s.cell c (w / 16)
    let r := x.pl p
    let r' : PlaneRegs := { r with l := smSet 0 r.l (w % 16) (smGet 0 r.l (w % 16) ^^^ m) }
    let key := 16 * p + w % 16
    s.setCell c (w / 16) { x.setPl p r' with par := smSet false x.par key (!smGet false x.par key) }
  else
    let x := s.plane c p
    s.setPlane c p { x with words := smSet 0 x.words w (smGet 0 x.words w ^^^ m), par := smSet false x.par w (!smGet false x.par w) }

/-- A write of SYS_INJ (R319). -/
def State.sysInj (s : State) (v : Word) : State :=
  if !tb v 31 then s.wr SYS_INJ (v &&& 0x7FFFFFF0#32)
  else if s.injOk v then (s.wr SYS_INJ (v &&& 0x7FFFFFF0#32)).inject1 v
  else s.setBits SYS_FLTSTAT 32

/-- SYS_INJ (R319). -/
def execSysInj (v : Word) (s : State) : Res' := .next (s.sysInj v)

/-! Checkers and the supervisor (R312, R313) -/

/-- One correction of a checker control register (block, offset). -/
def State.chkFix (s : State) (k : Nat) : State :=
  ((s.bump SYS_CHKFIX SYS_CNTOVF 1).setBits SYS_FLTSTAT 2).record 0x40 1 (natBytes 2 (k / 2 ^ 20) ++ natBytes 4 (k % 2 ^ 20))

/-- A correction of the operand is a voted one (R311): its block number has bit 8 set (log entry 96). -/
def voted (u : Nat × Nat) : Bool := decide (u.1 / 256 % 2 = 1)

/-- The key of an upset register: block and offset. -/
def upsetKey (u : Nat × Nat) : Nat := 2 ^ 20 * (u.1 % 256) + u.2 % 2 ^ 20

/-- CHECKER_READBACK (R311-R313): the upsets of one round, by block and offset. A voted one is corrected in the next cycle; the others are found by the
read-back, which is suspended while the supervisor restarts: they stay for the next round. -/
def execCheckerReadback (upsets : List (Nat × Nat)) (s : State) : Res' :=
  let s := (upsets.filter voted).foldl (fun s u => s.chkFix (upsetKey u)) s
  let all := s.flt.chkUpset ++ (upsets.filter (fun u => !voted u)).map upsetKey
  .next (if s.flt.supvUp then all.foldl (fun s k => s.chkFix k) { s with flt := { s.flt with chkUpset := [] } }
    else { s with flt := { s.flt with chkUpset := all } })

/-- SUPV_RESTART (R313). -/
def execSupvRestart (s : State) : Res' :=
  .next ((({ s with flt := { s.flt with supvUp := false } }).setBits SYS_FLTSTAT 4).record 0x41 2 [])

/-- SUPV_RESTART_DONE (R313). -/
def execSupvRestartDone (s : State) : Res' := .next { s with flt := { s.flt with supvUp := true } }

end Sys2Proof.Machine
end

