-- ==== Sys2Proof/Machine/Scrub.lean ====
section
/-! DEFINITION. Scrubbing, the march on request, repair and retirement (R259-R272). -/

namespace Sys2Proof.Machine

/-! Scrub passes (R259-R262) -/

/-- Every byte of a range of external memory lies in a valid region (R279): checked region by region. -/
def State.installed (s : State) (lo hi : Nat) : Bool :=
  decide ((s.ddr.regions.foldl (fun n e =>
    let r := e.2
    let a := Nat.max lo (r.dbase.toNat * 2 ^ 20)
    let b := Nat.min hi ((r.dbase.toNat + r.dsize.toNat) * 2 ^ 20)
    if r.valid then n + (b - a) else n) 0) = hi - lo)

/-- A range a pass may cover (R259). -/
def State.scrubRange (s : State) (lo hi : Nat) : Bool :=
  decide (lo < hi) &&
  ((decide (hi ≤ 0x1000000000) && s.installed lo hi) ||
   (decide (0x1000000000 ≤ lo) && decide (hi ≤ 0x1004000000)) ||
   (decide (0x1100000000 ≤ lo) && decide (hi ≤ 0x1104000000)) ||
   (decide (0x1200000000 ≤ lo) && decide (hi ≤ 0x1210000000)))

/-- The summary registers cleared. -/
def State.scrubClear (s : State) : State :=
  [ECC_SWORDS_LO, ECC_SWORDS_HI, ECC_SCORR, ECC_SUNC, ECC_SFIRST_LO, ECC_SFIRST_HI, ECC_SLAST_LO, ECC_SLAST_HI, ECC_SWORST_LO, ECC_SWORST_HI,
    ECC_SWCNT].foldl (fun s a => s.wr a 0) s

/-- The pass ends (R262). -/
def State.scrubEnd (s : State) : State :=
  if s.ecc.scrub.isSome then ({ s with ecc := { s.ecc with scrub := none } }).setBits ECC_STATUS 4 else s

/-- A write of ECC_SCTRL (R259, R262). -/
def State.scrubCtl (s : State) (v : Word) : State :=
  let base := s.rd64 ECC_SBASE_LO
  let len := s.rd64 ECC_SLEN_LO
  if tb v 31 then
    if s.ecc.scrub.isSome || !s.scrubRange base (base + len) then s.setBits ECC_STATUS 16
    else
      let s := (s.wr ECC_SCTRL (v &&& 0x10F#32)).scrubClear
      { s with ecc := { s.ecc with scrub := some ⟨base, base + len, tb v 8, []⟩ } }
  else
    let s := s.wr ECC_SCTRL (v &&& 0x10F#32)
    if tb v 30 then s.scrubEnd else s

/-- SCRUB_START (R259). -/
def execScrubStart (v : Word) (s : State) : Res' := .next (s.scrubCtl (v ||| 0x80000000#32))

/-- SCRUB_STOP (R262). -/
def execScrubStop (s : State) : Res' := .next s.scrubEnd

/-- Count one checked word at its device address in the summary of the pass (R262). -/
def State.scrubCount (s : State) (addr : Nat) (m : Mark) : State :=
  let s := s.bump64 ECC_SWORDS_LO ECC_CNTOVF 0
  let page := addr / 4096
  let add (s : State) (u c : Nat) : State :=
    match s.ecc.scrub with
    | some p =>
      let old := smGet (0, 0) p.pages page
      { s with ecc := { s.ecc with scrub := some { p with pages := smPut p.pages page (old.1 + u, old.2 + c) } } }
    | none => s
  match m with
  | .clean => s
  | .ce => add (s.bump ECC_SCORR ECC_CNTOVF 1) 0 1
  | _ =>
    let first := decide (s.rd ECC_SUNC = 0)
    let s := s.bump ECC_SUNC ECC_CNTOVF 2
    let s := if first || decide (addr < s.rd64 ECC_SFIRST_LO) then s.wr64 ECC_SFIRST_LO addr else s
    let s := if first || decide (s.rd64 ECC_SLAST_LO < addr) then s.wr64 ECC_SLAST_LO addr else s
    add s 1 0

/-- Note what a checker other than a consumer met (R258, R269): a correction counts only where the word is rewritten. -/
def State.scrubNote (s : State) (m : Mark) (unit addr src : Nat) (fix : Bool) : State :=
  match m with
  | .clean => s
  | .ce => if fix then s.countCe unit else s
  | .ue => s.noteBad unit addr false src
  | .poison => s.noteBad unit addr true src

/-- What a checked word holds after a rewriting check (R261). -/
def scrubbed : Mark → Mark
  | .ue => .poison
  | .ce => .clean
  | m => m

/-- Check the eight words of a block whose marks are given; `put` stores the marks after the check. -/
def State.scrubWords (s : State) (unit addr : Nat) (fix : Bool) (ms : List Mark) (put : State → List Mark → State) : State :=
  let s := (List.range 8).foldl (fun s i =>
    (s.scrubNote (ms.getD i .clean) unit (addr + 8 * i) 1 fix).scrubCount (addr + 8 * i) (ms.getD i .clean)) s
  if fix then put s (ms.map scrubbed) else s

/-- A stored word of external memory is rewritten by a check (R261). -/
def State.dramFix (s : State) (w : Nat) : State :=
  match s.dramMark w with
  | .ce => s.wordStore w (s.dramBytes (8 * w) 8) .clean
  | .ue => s.wordStore w (List.replicate 8 0) .poison
  | _ => s

/-- The cached sector of an external address is dirty. -/
def State.dirtySector (s : State) (a : Nat) : Bool :=
  match s.cFind a with
  | some w => (s.cline (lineKey (cSlice a) w (cSet a))).d.getLsbD (cSector a)
  | none => false

/-- A cached word after a rewriting check (R261, R306): a UE of a sector that is not dirty is not poisoned; the sector is invalidated. -/
def State.cacheFix (s : State) (a k : Nat) (dirty : Bool) : State :=
  let m := smGet Mark.clean s.cache.marks k
  if m = .ue && !dirty then s.dropCleanUe a
  else { s with cache := { s.cache with
    marks := smSet .clean s.cache.marks k (scrubbed m)
    arr := if m = .ue then smSetList 0 s.cache.arr (8 * k) (List.replicate 8 0) else s.cache.arr } }

/-- Check a block of external memory: the DRAM copy, then a resident sector (R253, R260, R261). -/
def State.scrubExt (s : State) (a : Nat) (fix : Bool) : State :=
  match s.regionOf a with
  | none => s
  | some (_, reg) =>
    let pa := reg.pa (reg.line a)
    let ch := paChannel pa
    if s.retiredPage 0 (a / 4096) then s
    else
      let dirty := s.dirtySector a
      let s := if s.dom (domDdr ch) ≠ .on then s
        else s.scrubWords (unitDdr ch) a (fix && !dirty) (s.lineMarks pa) (fun s _ => (List.range 8).foldl (fun s i => s.dramFix (pa / 8 + i)) s)
      if !s.sectorValid a || s.dom (domSlice (cSlice a)) ≠ .on then s
      else
        let s := s.flushRange a (a + 64)
        match s.cFind a with
        | some w =>
          let k := (lineKey (cSlice a) w (cSet a) * 256 + 64 * cSector a) / 8
          s.scrubWords (unitCache (cSlice a)) a fix (smGetList .clean s.cache.marks k 8) (fun s _ =>
            (List.range 8).foldl (fun s i => s.cacheFix a (k + i) dirty) s)
        | none => s

/-- A scratchpad word after a rewriting check. -/
def State.spadFix (s : State) (k : Nat) : State :=
  match s.wMark (.spad (8 * k)) with
  | .ce => { s with spad := { s.spad with marks := smDel s.spad.marks k } }
  | .ue => s.wPut (.spad (8 * k)) (List.replicate 8 (some 0)) .poison
  | _ => s

/-- Check a block of the scratchpad. -/
def State.scrubSpad (s : State) (a : Nat) (fix : Bool) : State :=
  let o := a - 0x1000000000
  let unit := unitSpad (o / 2 ^ 19)
  if s.retiredPage 1 (o / 4096) || s.retiredUnit unit || decide (s.dom (domBank (o / 2 ^ 19)) ≠ .on) then s
  else
    let s := s.flushRange a (a + 64)
    s.scrubWords unit a fix ((List.range 8).map (fun i => s.wMark (.spad (o + 8 * i)))) (fun s _ =>
      (List.range 8).foldl (fun s i => s.spadFix (o / 8 + i)) s)

/-- Check a block of the scratch-lock window. -/
def State.scrubLock (s : State) (a : Nat) (fix : Bool) : State :=
  let o := a - 0x1200000000
  let sl := o / 2 ^ 20
  let w := o / 2 ^ 16 % 16
  if s.retiredUnit (unitCache sl) || decide (s.dom (domSlice sl) ≠ .on) || decide (w = 15) || !(s.lockMask sl).getLsbD w then s
  else
    let s := s.flushRange a (a + 64)
    s.scrubWords (unitCache sl) a fix (smGetList .clean s.cache.marks (o / 8) 8) (fun s _ =>
      (List.range 8).foldl (fun s i => s.cacheFix a (o / 8 + i) true) s)

/-- The unit of a block is under march: its request waits (R265). -/
def State.blockBusy (s : State) (a : Nat) : Bool :=
  if isSpadPlain a then s.marching (unitSpad ((a - 0x1000000000) / 2 ^ 19))
  else isLockWin a && s.marching (unitCache ((a - 0x1200000000) / 2 ^ 20))

/-- Check a row of the Garnet bank: its buffered copy is written out first; the row's state is that of its eight words (log entry 21). -/
def State.scrubGarnet (s : State) (a : Nat) (fix : Bool) : State :=
  let o := a - 0x1100000000
  let sec := garnetSector o
  let row := o / 64
  if s.retiredPage 2 (o / 4096) || decide (s.dom (domSector sec) ≠ .on) then s
  else
    let s := match s.garnet.wbuf.find? (fun x => decide (x.row = row)) with
      | some x => s.rowOut x true
      | none => s
    let m := smGet Mark.clean s.garnet.marks row
    let s := (s.scrubNote m (unitGarnet sec) a 1 fix)
    let s := (List.range 8).foldl (fun s i => s.scrubCount (a + 8 * i) m) s
    if fix && decide (m = .ce ∨ m = .ue) && !s.garnetShut then
      s.rowOut ⟨row, smGetList 0 s.garnet.arr (64 * row) 64, decide (m = .ue)⟩ true
    else s

/-- The worst page so far: most uncorrectable, then most corrected, then lowest (R262). -/
def worstPage (pages : SMap (Nat × Nat)) : Option (Nat × Nat × Nat) :=
  pages.foldl (fun (acc : Option (Nat × Nat × Nat)) e =>
    match acc with
    | none => some (e.1, e.2.1, e.2.2)
    | some (_, u, c) => if e.2.1 > u ∨ (e.2.1 = u ∧ e.2.2 > c) then some (e.1, e.2.1, e.2.2) else acc) none

/-- Put the worst page into its registers. -/
def State.scrubWorst (s : State) (p : Scrub) : State :=
  match worstPage p.pages with
  | none => s
  | some (page, u, c) =>
    let s := (s.wr64 ECC_SWORST_LO (4096 * page)).wr ECC_SWCNT (BitVec.ofNat 32 (Nat.min u 0xFFFF * 2 ^ 16 + Nat.min c 0xFFFF))
    let s := if u ≥ 0xFFFF then s.setBits ECC_CNTOVF 4 else s
    if c ≥ 0xFFFF then s.setBits ECC_CNTOVF 2 else s

/-- One block of the pass. -/
def State.scrubStep (s : State) : State :=
  match s.ecc.scrub with
  | none => s
  | some p =>
    let a := p.next
    let fix := !p.report
    if s.blockBusy a then s
    else
    let s :=
      if isExternal a then s.scrubExt a fix
      else if isSpadPlain a then s.scrubSpad a fix
      else if isGarnet a then s.scrubGarnet a fix
      else s.scrubLock a fix
    match s.ecc.scrub with
    | none => s
    | some q =>
      let q' : Scrub := { q with next := a + 64 }
      let s := ({ s with ecc := { s.ecc with scrub := some q' } }).scrubWorst q'
      if a + 64 ≥ q.stop then s.scrubEnd else s

/-- SCRUB_BLOCK (R260). -/
def execScrubBlock (s : State) : Res' := .next s.scrubStep

/-! Background scrub (R263) -/

/-- The device address of a word of an array of the shared cache: its locked window address, or that of the line that holds it; none for a
word that holds nothing. -/
def State.cacheWordAddr (s : State) (k : Nat) : Option Nat :=
  let sl := k / 2 ^ 20
  let w := k / 2 ^ 16 % 16
  let set := k / 256 % 256
  if w < 15 ∧ (s.lockMask sl).getLsbD w then some (0x1200000000 + k)
  else
    let x := s.cline (lineKey sl w set)
    if x.v.getLsbD (k % 256 / 64) then some (lineAddr sl set x.tag + k % 256) else none

/-- Which of the items of a memory a word holds, where the spec places none: free, or none of them (log entry 4). -/
def State.itemOf (s : State) (n : Nat) : State × Option Nat :=
  let k := s.freeVal.toNat % (n + 1)
  (s.drawn, if k < n then some k else none)

/-- Check the item of index `k` of a list: what its code reports is noted and set right (R261). -/
def State.scrubItem {α : Type} (s : State) (unit word k : Nat) (l : List α) (get : α → Mark) (put : State → List α → State) (set : α → Mark → α) : State :=
  match l[k]? with
  | some x => put (s.scrubNote (get x) unit word 2 true) (l.set k (set x (scrubbed (get x))))
  | none => s

/-- Check a word of an SRAM unit whose items the spec does not place in it: a token of the matching store, a record or reorder entry, a metadata line, an
entry of a commit buffer. -/
def State.bgItem (s : State) (unit word : Nat) : State :=
  let i := unit % 0x1000
  match unit / 0x1000 with
  | 2 =>
    let x := s.itemOf (s.mst.pend.length + s.mst.sticky.length)
    (match x.2 with
     | some k =>
       if k < s.mst.pend.length then
         x.1.scrubItem unit word k s.mst.pend HeldTok.code (fun s l => { s with mst := { s.mst with pend := l } }) (fun h m => { h with code := m })
       else
         x.1.scrubItem unit word (k - s.mst.pend.length) s.mst.sticky HeldTok.code (fun s l => { s with mst := { s.mst with sticky := l } })
           (fun h m => { h with code := m })
     | none => x.1)
  | 3 =>
    let x := s.itemOf (s.flow.recs.length + s.flow.parked.length)
    (match x.2 with
     | some k =>
       if k < s.flow.recs.length then
         x.1.scrubItem unit word k s.flow.recs (fun e => e.2.code) (fun s l => { s with flow := { s.flow with recs := l } })
           (fun e m => (e.1, { e.2 with code := m }))
       else
         x.1.scrubItem unit word (k - s.flow.recs.length) s.flow.parked Parked.code (fun s l => { s with flow := { s.flow with parked := l } })
           (fun h m => { h with code := m })
     | none => x.1)
  | 4 =>
    let x := s.itemOf (s.ddr.md.length + s.ddr.rootMark.length)
    (match x.2 with
     | some k =>
       if k < s.ddr.md.length then
         x.1.scrubItem unit word k s.ddr.md MdLine.code (fun s l => { s with ddr := { s.ddr with md := l } }) (fun h m => { h with code := m })
       else
         match s.ddr.rootMark[k - s.ddr.md.length]? with
         | some e =>
           let t := x.1.scrubNote e.2 unit word 2 true
           { t with ddr := { t.ddr with rootMark := smSet .clean t.ddr.rootMark e.1 (scrubbed e.2) } }
         | none => x.1
     | none => x.1)
  | _ =>
    let x := s.itemOf (s.cluster i).cb.length
    (match x.2 with
     | some k => x.1.scrubItem unit word k (s.cluster i).cb CbEntry.code (fun s l => s.setCluster i { s.cluster i with cb := l })
         (fun e m => { e with code := m })
     | none => x.1)

/-- Check a word of cluster memory. -/
def State.bgCmem (s : State) (unit word : Nat) : State :=
  let i := unit % 0x1000
  let m := smGet Mark.clean (s.cluster i).memMark word
  let s := s.scrubNote m unit word 2 true
  let x := s.cluster i
  s.setCluster i { x with memMark := smSet .clean x.memMark word (scrubbed m)
                          mem := if m = .ue then smSetList 0 x.mem (8 * word) (List.replicate 8 0) else x.mem }

/-- Check a word of a Flint RAM. -/
def State.bgFlint (s : State) (unit word : Nat) : State :=
  let pr := s.mzOfUnit unit
  let k := 256 * pr.2 + word
  let m := smGet Mark.clean (s.part pr.1).ramMark k
  let s := s.scrubNote m unit word 2 true
  let x := s.part pr.1
  s.setPart pr.1 { x with ramMark := smSet .clean x.ramMark k (scrubbed m)
                          ram := if m = .ue then smSetList 0 x.ram (1024 * pr.2 + 4 * word) [0, 0, 0, 0] else x.ram }

/-- Check a word of a cache slice: only words that hold something. -/
def State.bgCache (s : State) (unit word : Nat) : State :=
  let k := unit % 0x1000 * 2 ^ 20 + 8 * (word % 2 ^ 17)
  if s.dom (domSlice (unit % 0x1000)) ≠ .on then s
  else match s.cacheWordAddr k with
  | some a =>
    let s := s.flushWord a
    (s.scrubNote (smGet Mark.clean s.cache.marks (k / 8)) unit a 2 true).cacheFix a (k / 8) (!isExternal a || s.dirtySector a)
  | none => s

/-- Check a word of a scratchpad bank. -/
def State.bgSpad (s : State) (unit word : Nat) : State :=
  let i := unit % 0x1000
  let k := i * 2 ^ 16 + word % 2 ^ 16
  if s.retiredPage 1 (k / 512) || s.retiredUnit unit || decide (s.dom (domBank i) ≠ .on) then s
  else
    let s := s.flushWord (0x1000000000 + 8 * k)
    (s.scrubNote (s.wMark (.spad (8 * k))) unit (0x1000000000 + 8 * k) 2 true).spadFix k

/-- Check a word of installed external memory; one that is dirty in the cache is not rewritten (R261). -/
def State.bgDdr (s : State) (unit word : Nat) : State :=
  let ch := unit % 0x1000
  let pa := wordPa ch word
  match s.devAddr pa with
  | none => s
  | some a =>
    if s.dom (domDdr ch) ≠ .on ∨ s.retiredPage 0 (a / 4096) then s
    else
      let fix := !s.dirtySector a
      let s := s.scrubNote (s.dramMark (pa / 8)) unit a 2 fix
      if fix then s.dramFix (pa / 8) else s

/-- Check a row of a version slot: one that is uncorrectable is poison-flagged (R249, R263). -/
def State.bgSlate (s : State) (unit word : Nat) : State :=
  let k := 2 ^ 21 * (unit % 0x1000 / 8) + 2 ^ 18 * (unit % 8) + word % 2 ^ 18
  let m := smGet Mark.clean s.res.rowMark k
  let s := s.scrubNote m unit word 2 true
  { s with res := { s.res with rowMark := smSet .clean s.res.rowMark k (scrubbed m) } }

/-- Check one word of a unit, correcting and poisoning (R263). A unit under march serves no other request (R265). -/
def State.bgWord (s : State) (unit word : Nat) : State :=
  if s.marching unit then s
  else match unit / 0x1000 with
  | 0 => s.bgCache unit word
  | 1 => s.bgSpad unit word
  | 5 => s.bgCmem unit word
  | 7 => s.bgFlint unit word
  | 8 => s.bgSlate unit word
  | 10 => s.bgDdr unit word
  | 2 => s.bgItem unit word
  | 3 => s.bgItem unit word
  | 4 => s.bgItem unit word
  | 6 => s.bgItem unit word
  | _ => s

/-- BACKGROUND_SCRUB (R263): suspended while the supervisor restarts (R313); the context scrubber, which checks the version slots, is fixed logic (R311) and is
not. -/
def execBackgroundScrub (unit word : Nat) (s : State) : Res' :=
  .next (if s.flt.supvUp || decide (unit / 0x1000 = 8) then ({ s with ecc := { s.ecc with bgLast := word } }).bgWord unit word else s)

/-! Merge buffers and retirement (R268, R270, R271) -/

/-- ECC_MBFLUSH (R270). -/
def execEccMbflush (i : Iface) (s : State) : Res' := .next ((s.flushWhere (fun _ => true)).answer i .ok [])

/-- A retirement entry of this space and target may be written (R271). A unit of kind 0 or 1 with an index of no such unit is refused too (DESIGN CHOICE, log
entry 105). -/
def State.retireOk (s : State) (space target : Nat) : Bool :=
  match space with
  | 0 => s.installed (4096 * target) (4096 * target + 4096)
  | 1 => decide (target < 16384)
  | 2 => decide (target < 16384)
  | _ => decide (target % 2 ^ 16 < 256) || (decide (0x1000 ≤ target % 2 ^ 16) && decide (target % 2 ^ 16 < 0x1080))

/-- Write a retirement entry (R268, R271): a retired external page loses its cache lines, a retired slice is cleaned and emptied as one
that is switched off (log entry 22). -/
def State.retireWrite (s : State) (n : Nat) (v : Word) : State :=
  let space := fld v 29 28
  let target := fld v 23 0
  if (smGet Retire.zero s.ecc.retire n).auto || !s.retireOk space target then s.setBits ECC_STATUS 16
  else
    let s := { s with ecc := { s.ecc with retire := smSet Retire.zero s.ecc.retire n ⟨tb v 31, false, BitVec.ofNat 2 space, BitVec.ofNat 24 target⟩ } }
    if !tb v 31 then s
    else if space = 0 then
      (List.range 16).foldl (fun s j =>
        let a := 4096 * target + 256 * j
        match s.cFind a with
        | some w => s.lineDrop (cSlice a) w (cSet a)
        | none => s) s
    else if space = 3 ∧ target % 2 ^ 16 < 256 then s.treatLines true true (fun k _ => decide (keySlice k = target % 2 ^ 16))
    else s

/-- The retirement entry an interface has selected. -/
def State.rtsel (s : State) (i : Iface) : Nat := fld (s.sel i ECC_RTSEL) 7 0

/-- RETIRE_ENTRY_WRITE (R271). -/
def execRetireEntryWrite (i : Iface) (v : Word) (s : State) : Res' := .next ((s.retireWrite (s.rtsel i) v).answer i .ok [])

/-! March algorithms (R264) -/

/-- An operation of an element on a word: read or write of the contents `c` or their complement; for March C- `c` stands for zero. -/
inductive MarchOp where
  | r (inv : Bool)
  | w (inv : Bool)
deriving DecidableEq, Repr

/-- The order in which an element visits the words. -/
inductive MarchDir where
  | any
  | up
  | down
deriving DecidableEq, Repr

/-- The elements of an algorithm code (R264). -/
def marchElems (code : Nat) : List (MarchDir × List MarchOp) :=
  if code = 2 then [(.up, [.r false, .w true, .r true, .w false, .r false])]
  else [(.any, [.w false]), (.up, [.r false, .w true]), (.up, [.r true, .w false]), (.down, [.r false, .w true]), (.down, [.r true, .w false]),
    (.any, [.r false])]

/-- The accesses an algorithm makes to a word. -/
def marchAccesses (code : Nat) : Nat := ((marchElems code).map (fun e => e.2.length)).foldl (· + ·) 0

/-- What an algorithm leaves in a sound 72-bit word that held `c`: code 0 works on zero, the transparent ones on the contents. -/
def marchLeaves (code : Nat) (c : BitVec 72) : BitVec 72 :=
  let base : BitVec 72 := if code = 0 then 0 else c
  ((marchElems code).flatMap (fun e => e.2)).foldl (fun x op => match op with
    | .r _ => x
    | .w inv => if inv then ~~~base else base) c

/-! March on request (R264-R267) -/

/-- The units a march names. -/
def marchUnits (u : Nat) : List Nat :=
  if u % 0x1000 = 0xFFF then (List.range (unitCount (u / 0x1000))).map (fun i => u / 0x1000 * 0x1000 + i) else [u]

/-- The tile of a Flint RAM unit is powered off (R265). -/
def State.ramOff (s : State) (u : Nat) : Bool := decide (s.dom (domTile (u % 0x1000 / 40)) ≠ .on)

/-- A request is accepted (R265). -/
def State.marchOk (s : State) (v : Word) : Bool :=
  let kind := fld v 15 12
  let us := marchUnits (fld v 15 0)
  s.ecc.march.isNone && (decide (fld v 19 18 = 1) || decide (fld v 19 18 = 2)) &&
  (decide (kind = 0) || decide (kind = 1) || decide (kind = 5) || decide (kind = 6) || (decide (kind = 7) && us.all (fun u => s.ramOff u))) &&
  us.all (fun u => decide (u % 0x1000 < unitCount kind))

/-- A write of MARCH_CTRL (R265). -/
def State.marchCtl (s : State) (v : Word) : State :=
  if !tb v 31 then s.wr MARCH_CTRL (v &&& 0xCFFFF#32)
  else if !s.marchOk v then s.setBits MARCH_STATUS 8
  else
    let s := (s.wr MARCH_CTRL (v &&& 0xCFFFF#32)).wr MARCH_FAILS 0
    let us := marchUnits (fld v 15 0)
    let s := if fld v 15 12 = 0 then s.treatLines true true (fun k _ => us.contains (keySlice k)) else s
    let s := s.flushWhere (fun e => us.contains e.unit)
    { s with ecc := { s.ecc with march := some (fld v 19 18, fld v 15 0) } }

/-- MARCH_START (R265). -/
def execMarchStart (v : Word) (s : State) : Res' := .next (s.marchCtl (v ||| 0x80000000#32))

/-- Take a word out of use for want of a spare (R267). -/
def State.spareOut (s : State) (unit word : Nat) : State :=
  let s := (s.setBits MARCH_STATUS 4).setBits ECC_STATUS 32
  let rec20 (s : State) (action : Nat) : State := s.record 0x20 3 (natBytes 2 unit ++ natBytes 4 word ++ natBytes 1 action)
  let i := unit % 0x1000
  match unit / 0x1000 with
  | 0 =>
    let s := { s with cache := { s.cache with excl := smPut s.cache.excl (i * 4096 + 8 * (word % 2 ^ 17) / 256) true } }
    rec20 s 2
  | 1 => (rec20 s 1).autoRetire unit word 1 ((i * 2 ^ 19 + 8 * word) / 4096)
  | 5 => (rec20 s 3).fenceCluster i 2
  | 6 => (rec20 s 3).fenceCluster i 2
  | 7 =>
    let pr := s.mzOfUnit unit
    let x := s.part pr.1
    let s := s.setPart pr.1 { x with ramDead := (List.range 4).foldl (fun m j => smPut m (1024 * pr.2 + 4 * word + j) true) x.ramDead }
    ((s.setBits (flStatus (i / 40)) 0x400#32).drawn).record 0x20 3 (natBytes 2 unit ++ natBytes 4 word ++ natBytes 1 s.freeVal.toNat)
  | _ =>
    let s := { s with ecc := { s.ecc with heldPoison := smPut s.ecc.heldPoison (2 ^ 32 * unit + word) true } }
    rec20 s 4

/-- A word a march found failing: the next free spare serves every later access to it, with the contents the march leaves it (R264, R266; log entry 106), or
it is taken out of use (R267). -/
def State.marchFail (s : State) (unit word : Nat) : State :=
  let l := smGet [] s.ecc.spares unit
  if l.length < 16 then { s with ecc := { s.ecc with spares := smSet [] s.ecc.spares unit (l ++ [word]) } } else s.spareOut unit word

/-- The clusters of the marched units run no task (R265). -/
def State.marchReady (s : State) (u : Nat) : Bool :=
  (!(decide (u / 0x1000 = 5) || decide (u / 0x1000 = 6))) || (marchUnits u).all (fun x => s.taskGone (x % 0x1000))

/-- MARCH_DONE (R265-R267): the words found failing in the marched units. -/
def execMarchDone (fails : List (Nat × Nat)) (s : State) : Res' :=
  .next (match s.ecc.march with
    | none => s
    | some (_, u) =>
      if !s.marchReady u then s
      else
        let mine := fails.filter (fun f => (marchUnits u).contains f.1)
        let s := mine.foldl (fun s f => (s.bumpW 16 MARCH_FAILS MARCH_STATUS 4 1).marchFail f.1 f.2) s
        ({ s with ecc := { s.ecc with march := none } }).setBits MARCH_STATUS 2)

end Sys2Proof.Machine
end

