-- ==== Sys2Proof/Machine/Secure.lean ====
section
/-! DEFINITION. The authorization session and the grant it gives (R396-R402). -/

namespace Sys2Proof.Machine

/-! Bytes an interface has loaded -/

/-- `n` bytes an interface holds in its registers from an address on, byte 0 lowest (R408). -/
def State.selBytes (s : State) (i : Iface) (a n : Nat) : List Byte :=
  ((List.range ((n + 3) / 4)).flatMap (fun k => wordBytes (s.sel i (a + 4 * k)))).take n

/-- SEC_DATA bytes 0 to SEC_DLEN - 1 (R401). -/
def State.secData (s : State) (i : Iface) : List Byte := s.selBytes i (SEC_DATA 0) (Nat.min 256 (fld (s.sel i SEC_DLEN) 8 0))

/-- SEC_TARGET of an interface. -/
def State.secTarget (s : State) (i : Iface) : Nat := (s.sel i SEC_TARGET_LO).toNat + 2 ^ 32 * (s.sel i SEC_TARGET_HI).toNat

/-- The device is PROVISIONED (R394). -/
def State.provisioned (s : State) : Bool := !s.sec.auth.isEmpty

/-- The interface writes the SEC block without error (R396). -/
def secWriter : Iface → Bool
  | .pcie => true
  | .hp => true
  | .smb => true
  | _ => false

/-! The session -/

def State.setSess (s : State) (x : Sess) : State := { s with sec := { s.sec with sess := x } }

/-- Return to IDLE, keeping the last cause; nonce and ephemeral key are destroyed. -/
def State.sessIdle (s : State) : State := s.setSess { Sess.zero with cause := s.sec.sess.cause }

/-- Note a refusal cause. -/
def State.secCause (s : State) (cause : Nat) : State := s.setSess { s.sec.sess with cause := cause }

/-- Refuse an RWA write or a submission (R399, R401). -/
def State.secDeny (s : State) (cause : Nat) : State := (s.secCause cause).setBits SEC_STATUS 2

/-- The interface owns the session. -/
def State.owns (s : State) (i : Iface) : Bool := decide (s.sec.sess.st ≠ .idle) && decide (s.sec.sess.owner = ifCode i) && secWriter i

/-- OPEN (R397). -/
def State.sessOpen (s : State) (i : Iface) (entropyOk : Bool) : State :=
  if s.sec.sess.st ≠ .idle then s.secCause 1
  else if !entropyOk then s.secCause 2
  else
    let n := s.ddr.draws
    let s := { s with ddr := { s.ddr with draws := n + 2 } }
    s.setSess { st := .open_, owner := ifCode i, signed := [], keys := [], target := s.secTarget i,
                argdig := BitVec.ofNat 384 (bytesNat (s.selBytes i (SEC_ARGDIG 0) 48)), nonce := n, eph := n + 1, refused := 0,
                cause := s.sec.sess.cause }

/-- The nonce of the session. -/
def State.secNonce (s : State) : List Byte := natBytes 32 (Config.entropy s.sec.sess.nonce).toNat

/-- The message an authority signs (R398). -/
def State.secMessage (s : State) (slot : Nat) : List Byte :=
  natBytes 8 s.fuse.uid.toNat ++ s.secNonce ++ natBytes 8 s.sec.sess.target ++ natBytes 48 s.sec.sess.argdig.toNat ++ natBytes 4 slot

/-- The submission belongs to a genesis enrolment (R399). -/
def State.genesis (s : State) : Bool := !s.provisioned && decide (s.sec.sess.target = SEC_AUTH)

/-- Judge a submission: the cause of its refusal, if any (R399). -/
def State.judgeSig (s : State) (i : Iface) : Option Nat :=
  let slot := fld (s.sel i SEC_SIGSLOT) 2 0
  let sig := s.selBytes i (SEC_SIG 0) 192
  let pub := sig.take 96
  let good := Config.ecdsaVerify pub (Config.sha384 (s.secMessage slot)) (sig.drop 96)
  if s.genesis && decide (slot > 1) then some 3
  else if !s.genesis && (smFind s.sec.auth slot).isNone then some 3
  else if !s.genesis && s.sec.authRev.getLsbD slot then some 4
  else if !s.genesis && decide (smFind s.sec.auth slot ≠ some (Config.sha384 pub)) then some 3
  else if s.genesis && decide (pub ≠ s.selBytes i (SEC_DATA (24 * slot)) 96) then some 3
  else if !good then some 5
  else if s.sec.sess.signed.contains slot then some 6
  else none

/-- SUBMIT (R399). -/
def State.sessSubmit (s : State) (i : Iface) : State :=
  if !s.owns i then s.secDeny 7
  else match s.judgeSig i with
    | some cause =>
      let t := s.secDeny cause
      if s.sec.sess.refused ≥ 2 then t.sessIdle else t.setSess { t.sec.sess with refused := t.sec.sess.refused + 1 }
    | none =>
      let x := s.sec.sess
      let x := { x with signed := x.signed ++ [fld (s.sel i SEC_SIGSLOT) 2 0], keys := x.keys ++ [Config.sha384 (s.selBytes i (SEC_SIG 0) 96)] }
      match x.st with
      | .open_ => s.setSess { x with st := .one }
      | .one => (s.setSess { x with st := .granted }).setBits SEC_STATUS 1
      | _ => s

/-- CANCEL (R402). -/
def State.sessCancel (s : State) (i : Iface) : State := if s.owns i then s.sessIdle else s.secCause 7

/-- A session's window, open time or grant passes (R400, R401). -/
def State.sessExpire (s : State) : State := if s.sec.sess.st = .idle then s else (s.secCause 8).sessIdle

/-! The grant (R401) -/

/-- The grant permits this write. -/
def State.grantFits (s : State) (i : Iface) (addr : Nat) (bytes : List Byte) : Bool :=
  decide (s.sec.sess.st = .granted) && s.owns i && decide (s.sec.sess.target = addr) && decide (Config.sha384 bytes = s.sec.sess.argdig)

/-- Use the grant, or deny the write. -/
def State.grantUse (s : State) (i : Iface) (addr : Nat) (bytes : List Byte) : State × Bool :=
  if s.grantFits i addr bytes then (s.sessIdle, true) else (s.secDeny 9, false)

/-! Commands of SEC_ACMD -/

/-- A command register of the SEC block answers an error to the fabric and the supervisor (R396). -/
def secCommand (i : Iface) (f : State → State) (s : State) : Res' :=
  .next (if secWriter i then (f s).answer i .ok [] else s.answer i .error [])

/-- OPEN (R397). -/
def execSessionOpen (i : Iface) (entropyOk : Bool) (s : State) : Res' := secCommand i (fun s => s.sessOpen i entropyOk) s
/-- SUBMIT (R399). -/
def execSessionSubmit (i : Iface) (s : State) : Res' := secCommand i (fun s => s.sessSubmit i) s
/-- CANCEL_SESSION (R402). -/
def execSessionCancel (i : Iface) (s : State) : Res' := secCommand i (fun s => s.sessCancel i) s
/-- SESSION_EXPIRED (R400). -/
def execSessionExpired (s : State) : Res' := .next s.sessExpire

end Sys2Proof.Machine
end

