-- ==== Sys2Proof/Machine/DdrCmd.lean ====
section
/-! DEFINITION. The commands of external memory and its encryption (R273-R299). -/

namespace Sys2Proof.Machine

/-! Training and refresh (R274, R277, R278) -/

/-- Physical capacity in MiB (R273); a reserved density has none. -/
def State.ddrMiB (s : State) : Nat :=
  let gb := match fld s.ddr.cfg 7 5 with
    | 0 => 4
    | 1 => 6
    | 2 => 8
    | 3 => 12
    | 4 => 16
    | _ => 0
  16 * (1 + fld s.ddr.cfg 4 4) * gb * 128

/-- A write of DDR_CTRL.TRAIN = 1 (R274). -/
def State.ddrTrain (s : State) : State :=
  ({ s with ddr := { s.ddr with cfg := s.rd DDR_CFG, ready := false, training := true, pdown := [] } })

/-- DDR_TRAIN (R274). -/
def execDdrTrain (s : State) : Res' := .next s.ddrTrain

/-- TRAIN_DONE (R274): the channels that failed. -/
def execTrainDone (failMask : BitVec 16) (s : State) : Res' :=
  .next (if !s.ddr.training then s
    else
      let t := { s with ddr := { s.ddr with training := false, ready := decide (failMask = 0) } }
      if failMask = 0 then t else (t.setBits DDR_STATUS 4).record 0x28 3 (natBytes 2 failMask.toNat))

/-- A write of DDR_CFG (R274). -/
def State.ddrCfg (s : State) (v : Word) : State := if s.ddr.ready then s.setBits DDR_STATUS 8 else s.wr DDR_CFG (v &&& 0xF3#32)

/-- The multiplier of an MR4 code, coded as REFMUL (R277); code 0 has none stated and takes a free value (log entry 4). -/
def mr4Mul (free : Nat) (code : BitVec 3) : Nat :=
  match code.toNat with
  | 0 => free % 3
  | 4 => 1
  | n => if n ≤ 3 then 0 else 2

/-- One rank's answer to the poll. -/
def State.mr4Rank (s : State) (ch rank : Nat) (code : BitVec 3) : State :=
  if code = 7 then (s.setBits DDR_STATUS 16).record 0x27 3 (natBytes 1 ch ++ natBytes 1 rank) else s

/-- The MR4 codes of one channel arrive: the multiplier of each rank from its own code. -/
def State.mr4Chan (s : State) (ch : Nat) (c : BitVec 3 × BitVec 3) : State :=
  let two := tb s.ddr.cfg 4
  let r1 : BitVec 3 := if two then c.2 else 0
  let free := s.freeVal.toNat
  let m0 := smSet 0 s.ddr.mulNext (2 * ch) (BitVec.ofNat 2 (mr4Mul free c.1))
  let s := { s.drawn with ddr := { s.ddr with
    mr4 := smSet 0 s.ddr.mr4 ch (r1 ++ c.1)
    mulNext := smSet 0 m0 (2 * ch + 1) (BitVec.ofNat 2 (if two then mr4Mul (free / 3) c.2 else 0)) } }
  let s := s.mr4Rank ch 0 c.1
  if two then s.mr4Rank ch 1 c.2 else s

/-- MR4_POLL (R277): the codes of ranks 0 and 1, channel 0 first. -/
def execMr4Poll (codes : List (BitVec 3 × BitVec 3)) (s : State) : Res' :=
  .next (if !s.ddr.ready then s
    else ((List.range 16).zip codes).foldl (fun s e => s.mr4Chan e.1 e.2) s)

/-- The minimum of the device temperature band (R277). -/
def State.bandMul (s : State) : Nat := fld (s.rd TH_BANDS) 11 10 - 1

/-- The multiplier of a channel and rank takes effect. -/
def State.rankMul (s : State) (ch rank : Nat) : State :=
  { s with ddr := { s.ddr with
    mulNow := smSet 0 s.ddr.mulNow (2 * ch + rank) (BitVec.ofNat 2 (Nat.max (smGet 0 s.ddr.mulNext (2 * ch + rank)).toNat s.bandMul)) } }

/-- REFRESH_INTERVAL (R277): of each rank of the channel. -/
def execRefreshInterval (ch : Nat) (s : State) : Res' :=
  if !decide (ch < 16) then .fault .noSuchUnit
  else .next (if tb s.ddr.cfg 4 then (s.rankMul ch 0).rankMul ch 1 else s.rankMul ch 0)

/-- A channel goes to an idle state of `n` (1 power-down, 2 self-refresh), never while its idle time is 0 (R278). -/
def State.chanIdle (s : State) (ch n : Nat) (time : Nat) : State :=
  if time = 0 ∨ !s.ddr.ready then s
  else { s with ddr := { s.ddr with pdown := smSet 0 s.ddr.pdown ch (BitVec.ofNat 2 n) } }

/-- DDR_POWER_DOWN (R278). -/
def execDdrPowerDown (ch : Nat) (s : State) : Res' :=
  if !decide (ch < 16) then .fault .noSuchUnit
  else .next (if smGet 0 s.ddr.pdown ch = 2 then s else s.chanIdle ch 1 (fld (s.rd DDR_LPCFG) 15 0))

/-- DDR_SELF_REFRESH (R278). -/
def execDdrSelfRefresh (ch : Nat) (s : State) : Res' :=
  if !decide (ch < 16) then .fault .noSuchUnit else .next (s.chanIdle ch 2 (fld (s.rd DDR_LPCFG) 31 16))

/-- A reset puts every trained channel in self-refresh (R278). -/
def State.ddrAsleep (s : State) : State :=
  if s.ddr.ready then { s with ddr := { s.ddr with pdown := (List.range 16).map (fun c => (c, 2)) } } else s

/-- Every channel leaves power-down and self-refresh. -/
def State.ddrAwake (s : State) : State := { s with ddr := { s.ddr with pdown := [] } }

/-! Regions (R279-R282, R298, R403) -/

/-- The entry a commit would make. -/
def regionOfWords (v r1 r2 : Word) (st : RegSt) : Region :=
  let prot := BitVec.ofNat 2 (fld v 29 28)
  { valid := tb v 31, init := tb v 30, prot := prot, kid := BitVec.ofNat 6 (fld v 21 16), dbase := BitVec.ofNat 16 (fld r1 15 0),
    dsize := BitVec.ofNat 16 (fld r1 31 16), pbase := BitVec.ofNat 16 (fld r2 15 0), psize := psizeOf prot (fld r1 31 16), st := st }

/-- Two ranges of base and size overlap. -/
def overlaps (a n b m : Nat) : Bool := decide (Nat.max a b < Nat.min (a + n) (b + m))

/-- A commit is accepted (R281). -/
def State.regionOk (s : State) (rid : Nat) (x : Region) : Bool :=
  let old := s.region rid
  let other := s.ddr.regions.filter (fun e => decide (e.1 ≠ rid) && e.2.valid)
  decide (x.dbase.toNat + x.dsize.toNat ≤ 65536) && decide (x.pbase.toNat + x.psize ≤ s.ddrMiB) &&
  other.all (fun e => !overlaps x.dbase.toNat x.dsize.toNat e.2.dbase.toNat e.2.dsize.toNat &&
    !overlaps x.pbase.toNat x.psize e.2.pbase.toNat e.2.psize) &&
  decide (x.prot ≠ 3) &&
  (decide (x.prot = 0) || (decide (x.kid ≠ 0) && (match smGet KidSt.free s.ddr.kids x.kid.toNat with
    | .active _ => true
    | _ => false))) &&
  (!old.valid || (decide (x.prot = old.prot) && decide (x.kid = old.kid) && decide (x.dbase = old.dbase) && decide (x.dsize = old.dsize) &&
    decide (x.pbase = old.pbase)))

/-- Discard every cache line of a device range without write-back (R282). -/
def State.dropRange (s : State) (lo hi : Nat) : State :=
  s.treatLines false true (fun k x => let a := lineAddr (keySlice k) (keySet k) x.tag
                                      decide (lo ≤ a) && decide (a < hi))

/-- A valid region becomes invalid (R282): its cached lines and metadata go, what is stored stays as it is. -/
def State.regionOff (s : State) (rid : Nat) (x : Region) : State :=
  let old := s.region rid
  let s := (s.dropRange (old.dbase.toNat * 2 ^ 20) ((old.dbase.toNat + old.dsize.toNat) * 2 ^ 20)).dropMeta rid
  let s := { s with ddr := { s.ddr with
    rekey := if (s.ddr.rekey.map (fun (k : Rekey) => k.region)) = some rid then none else s.ddr.rekey
    retry := s.ddr.retry.filter (fun r => decide (r ≠ rid)) } }
  s.setRegion rid { x with st := .off }

/-- The commit takes effect (R281, R282). -/
def State.regionSet (s : State) (rid : Nat) (x : Region) : State :=
  let old := s.region rid
  if old.valid && !x.valid then s.regionOff rid x
  else if !old.valid && x.valid then
    s.setRegion rid { x with st := if x.prot ≠ 0 ∨ x.init then .initializing else .active }
  else s.setRegion rid { x with st := old.st }

/-- The mask of PROT values a region allows (R403). -/
def State.rpol (s : State) (rid : Nat) : BitVec 3 := smGet 7 s.sec.rpol rid

/-- A write of DDR_RENT0 by an interface (R281, R298, R401, R403). -/
def State.rentWrite (s : State) (i : Iface) (v : Word) : State :=
  let rid := fld (s.sel i DDR_RSEL) 7 0
  let r1 := s.sel i (DDR_RENT 1)
  let r2 := s.sel i (DDR_RENT 2)
  let x := regionOfWords v r1 r2 .off
  if !s.regionOk rid x then s.setBits DDR_STATUS 8
  else if !x.valid || (s.rpol rid).getLsbD x.prot.toNat then s.regionSet rid x
  else
    let g := s.grantUse i (DDR_RENT 0) (wordBytes v ++ wordBytes r1 ++ wordBytes r2)
    if g.2 then g.1.regionSet rid x else g.1

/-- REGION_COMMIT (R281, R403). -/
def execRegionCommit (i : Iface) (v : Word) (s : State) : Res' := .next ((s.rentWrite i v).answer i .ok [])

/-- Every data line of a region is written zero, its counters, tags and nodes are set, under its key (R282). -/
def State.regionZero (s : State) (rid : Nat) : State :=
  let reg := s.region rid
  s.regionFill rid reg (s.keyOf reg.kid)

/-- REGION_INIT_DONE (R282). -/
def execRegionInitDone (r : Nat) (s : State) : Res' :=
  .next (if (s.region r).st = .initializing then (s.regionZero r).setRegion r { s.region r with st := .active } else s)

/-! Keys (R293) -/

/-- Some region, or the re-key in progress, refers to a KID. -/
def State.kidUsed (s : State) (k : Nat) : Bool :=
  s.ddr.regions.any (fun e => e.2.valid && decide (e.2.prot ≠ 0) && decide (e.2.kid.toNat = k)) ||
  decide ((s.ddr.rekey.map (fun r => r.newKid.toNat)) = some k)

/-- An ACTIVE KID begins to drain. -/
def State.kidDrain (s : State) (k : Nat) : State :=
  match smGet KidSt.free s.ddr.kids k with
  | .active d => { s with ddr := { s.ddr with kids := smPut s.ddr.kids k (.draining d) } }
  | _ => s

/-- A KID is ACTIVE. -/
def State.kidActive (s : State) (k : Nat) : Bool :=
  match smGet KidSt.free s.ddr.kids k with
  | .active _ => true
  | _ => false

/-- KID_ALLOC (R293): the read answers the number. -/
def execKidAlloc (i : Iface) (s : State) : Res' :=
  let x := s.allocKid
  .next (x.1.answer i .ok (wordBytes (BitVec.ofNat 32 x.2)))

/-- A write of MCE_KIDCMD with RETIRE = 1. -/
def State.kidRetire (s : State) (v : Word) : State :=
  let k := fld v 5 0
  if k = 0 ∨ !s.kidActive k ∨ s.kidUsed k then s.setBits MCE_STATUS 16 else s.kidDrain k

/-- KID_RETIRE (R293). -/
def execKidRetire (v : Word) (s : State) : Res' := .next (s.kidRetire v)

/-- A DRAINING KID's lines are cleaned and invalidated, and it becomes FREE: not while a line cannot be written back. -/
def State.kidFree (s : State) (k : Nat) : State :=
  match smGet KidSt.free s.ddr.kids k with
  | .draining _ =>
    let mine (x : CLine) : Bool := decide (x.v ≠ 0) && decide (x.kid.toNat = k)
    let s := s.treatLines true true (fun _ x => mine x)
    if s.cache.lines.any (fun e => mine e.2) then s else { s with ddr := { s.ddr with kids := smDel s.ddr.kids k } }
  | _ => s

/-- KID_FREE (R293). -/
def execKidFree (kid : Nat) (s : State) : Res' := .next (s.kidFree kid)

/-! Re-key (R292, R294) -/

/-- A write of MCE_RKCMD with START = 1. Without a FREE KID only NOKID is set (log entry 23). -/
def State.rekeyCmd (s : State) (v : Word) : State :=
  let rid := fld v 7 0
  let r := s.region rid
  if s.ddr.rekey.isSome ∨ !r.valid ∨ r.prot = 0 ∨ r.st ≠ .active then s.setBits MCE_STATUS 16
  else
    let s := s.wr MCE_RKCMD (BitVec.ofNat 32 rid)
    let t := s.rekeyBegin rid
    if t.ddr.rekey.isNone then { t with ddr := { t.ddr with retry := s.ddr.retry } } else t

/-- REKEY_START (R294). -/
def execRekeyStart (v : Word) (s : State) : Res' := .next (s.rekeyCmd v)

/-- The sweep ends (R294): the pages that are left, then the tree under the new key, the new KID in force, the old one retired. While IO_RESET_N is
asserted the sweep stands still. -/
def State.rekeyEnd (s : State) : State :=
  match s.ddr.rekey with
  | none => s
  | some k =>
    if s.pins.ioRst then s
    else
      let reg := s.region k.region
      let s := s.rekeyRest
      let s := if reg.prot = 2 then s.rebuildTree k.region reg (s.keyOf k.newKid) else s
      let s := s.setRegion k.region { reg with kid := k.newKid, st := .active }
      let s := ({ s with ddr := { s.ddr with rekey := none } }).setBits MCE_STATUS 4
      if s.kidUsed reg.kid.toNat then s else s.kidDrain reg.kid.toNat

/-- REKEY_DONE (R294). -/
def execRekeyDone (s : State) : Res' := .next s.rekeyEnd

/-- NOKID_RETRY (R292). -/
def execNokidRetry (r : Nat) (s : State) : Res' :=
  .next (if s.ddr.retry.contains r && s.ddr.rekey.isNone then
      if (s.region r).valid && decide ((s.region r).prot ≠ 0) && decide ((s.region r).st = .active) then s.rekeyBegin r
      else { s with ddr := { s.ddr with retry := s.ddr.retry.filter (fun x => decide (x ≠ r)) } }
    else s)

end Sys2Proof.Machine
end

