-- ==== Sys2Proof/Machine/Clocks.lean ====
section
/-! DEFINITION. Operating points (R422-R425), the clock monitor and fallback (R409-R417). -/

namespace Sys2Proof.Machine

/-! Operating points (R422-R425, R440) -/

/-- SYS_GRADE.TOP_OPP. -/
def State.topOpp (s : State) : Nat := if s.fuse.gradeA then 2 else 3

/-- Nominal voltage of a point in mV (R422). -/
def nominalMv : Nat → Nat
  | 0 => 600
  | 1 => 680
  | 2 => 760
  | _ => 850

/-- The band adder in mV (R440). -/
def bandMv (opp band : Nat) : Nat :=
  match band, opp with
  | 0, 0 => 20
  | 0, 1 => 15
  | 0, _ => 10
  | 2, 2 => 5
  | 2, 3 => 5
  | 3, 0 => 5
  | 3, 1 => 5
  | 3, 2 => 10
  | 3, _ => 15
  | _, _ => 0

/-- The band of a die, D0 Bedrock to D4 Granite-U (R439). -/
def State.dieBand (s : State) (d : Nat) : Nat := fld (s.rd TH_BANDS) (2 * d + 1) (2 * d)

/-- The ageing offset of a region at a point, in steps of 2.5 mV (R443). -/
def State.offset (s : State) (r o : Nat) : Nat := fld (s.rd (AGE_OFF r)) (5 * o + 4) (5 * o)

/-- The rail voltage of a region at a point in half millivolts, before the clamp (R422, R440). -/
def State.railHalf (s : State) (r o : Nat) : Nat :=
  2 * nominalMv o + 5 * s.offset r o + 2 * bandMv o (s.dieBand (3 + r / 32))

/-- PWR_OPPr.VMV of a region at a point: whole mV, never above 950 (log entry 24). -/
def State.railMv (s : State) (r o : Nat) : Nat := Nat.min 950 (s.railHalf r o / 2)

/-- The region runs on a fallback clock (R425). -/
def State.onFallback (s : State) (r : Nat) : Bool :=
  let o := fld (s.rd (PWR_OPP r)) 9 8
  decide (fld (s.rd CLK_SRC) (2 * o + 5) (2 * o + 4) ≠ 0)

/-- A column-pair instance is placed in pair `k`, or a claim for a column-pair shape names it (R423). -/
def State.coupled (s : State) (k : Nat) : Bool :=
  s.dsp.insts.any (fun x => (match x.st with
    | .placed => true
    | .running => true
    | .ending => true
    | .ended => true
    | _ => false) && columnPair (s.dirEnt x.ctx.toNat).shape && x.clusters.any (fun c => decide (pairOf c = k))) ||
  s.dsp.claims.any (fun q => q.clusters.any (fun c => decide (pairOf c = k)) &&
    (match s.inst q.iid with
     | some x => columnPair (s.dirEnt x.ctx.toNat).shape
     | none => false))

/-- A region's own target (R423). -/
def State.ownTarget (s : State) (r : Nat) : Nat := Nat.min (fld (s.rd (PWR_OPP r)) 1 0) (fld (s.rd (PWR_OPP r)) 5 4)

/-- The target in force (R423). -/
def State.target (s : State) (r : Nat) : Nat :=
  if s.coupled (r % 32) then Nat.min (s.ownTarget (r % 32)) (s.ownTarget (32 + r % 32)) else s.ownTarget r

/-- Set a field of a register. -/
def State.putField (s : State) (a hi lo v : Nat) : State :=
  let m := (2 ^ (hi + 1 - lo) - 1) * 2 ^ lo
  s.wr a ((s.rd a &&& ~~~(BitVec.ofNat 32 m)) ||| BitVec.ofNat 32 (v % 2 ^ (hi + 1 - lo) * 2 ^ lo))

/-- The rail of a region follows its point, ageing offset and band, except on a fallback clock (R424, R425, R440). -/
def State.railPlan (s : State) (r : Nat) : State :=
  if s.onFallback r then s
  else
    let o := fld (s.rd (PWR_OPP r)) 9 8
    let s := if s.railHalf r o > 1900 then s.setBits AGE_STATUS 4 else s
    s.putField (PWR_OPP r) 31 20 (s.railMv r o)

/-- Bring one region to its target. -/
def State.oppGo (s : State) (r : Nat) : State :=
  if s.onFallback r then s else (s.putField (PWR_OPP r) 9 8 (s.target r)).railPlan r

/-- The transition of a region completes; a coupled partner switches on the same edge (R424). -/
def State.oppMove (s : State) (r : Nat) : State :=
  if s.coupled (r % 32) then
    if s.onFallback (r % 32) ∨ s.onFallback (32 + r % 32) then s
    else
      let t := s.target r
      (((s.putField (PWR_OPP (r % 32)) 9 8 t).putField (PWR_OPP (32 + r % 32)) 9 8 t).railPlan (r % 32)).railPlan (32 + r % 32)
  else s.oppGo r

/-- A write of PWR_OPPr.REQ (R423). -/
def State.oppWrite (s : State) (r : Nat) (v : Word) : State :=
  if fld v 1 0 > s.topOpp then s.setBits PWR_STATUS 1 else s.putField (PWR_OPP r) 1 0 (fld v 1 0)

/-- PWR_OPP_WRITE (R423). -/
def execPwrOppWrite (r : Nat) (v : Word) (s : State) : Res' := if decide (r < 64) then .next (s.oppWrite r v) else .fault .noSuchUnit

/-! Clocks (R409-R412) -/

/-- The index of a clock's consumer in CLK_SRC: NCLK, SCLK, OPPCLK0-3, BCLK, FLSRC (R410, R426); none for a clock without fallback. -/
def clkConsumer (c : Nat) : Option Nat :=
  if c = 6 then some 0
  else if c = 7 then some 1
  else if 8 ≤ c ∧ c ≤ 11 then some (c - 6)
  else if c = 12 then some 6
  else if c = 15 then some 7
  else none

/-- Nominal frequency of a clock in kHz (R409, R410); part clocks and balls at their highest. -/
def State.clkKHz (s : State) (c : Nat) : Nat :=
  match c with
  | 0 => 100000
  | 1 => 156250
  | 2 => 156250
  | 3 => 33
  | 4 => 1000
  | 5 => 400000
  | 6 => if s.fuse.gradeA then 950000 else 1200000
  | 7 => 600000
  | 8 => 400000
  | 9 => 700000
  | 10 => 950000
  | 11 => 1200000
  | 12 => 500000
  | 13 => match fld s.ddr.cfg 1 0 with
    | 0 => 400000
    | 1 => 466625
    | _ => 533250
  | 14 => 500000
  | 15 => 400000
  | 44 => 100000
  | 45 => 200000
  | 46 => 250000
  | 47 => 1049
  | n => if n < 20 then 100000
    else if n < 32 then fld (s.rd (LANE_GRATE (n - 20))) 14 0 * 1000 / 32
    else if n < 44 then fld (s.rd (LANE_GRATE (n - 32))) 14 0 * 1000 / 32
    else 0

/-- A clock the monitor judges (R411). -/
def State.clkMonitored (s : State) (c : Nat) : Bool :=
  decide (c ≤ 3) || (decide (5 ≤ c) && decide (c ≤ 15) && !(decide (c = 11) && s.fuse.gradeA)) || decide (c = 46)

/-- Dawn cycles per second by the last calibration, nominal while XTAL32 fails or before the first (R412). -/
def State.dawnHz (s : State) : Nat :=
  if tb (s.rd CLK_STATUS) 6 ∧ s.rd CLK_DAWNCAL ≠ 0 then fld (s.rd CLK_DAWNCAL) 20 0 else 1000000

/-- Tolerance in percent (R411, R412). -/
def State.clkTol (s : State) : Nat := if tb (s.rd CLK_STATUS) 6 ∧ s.rd CLK_DAWNCAL ≠ 0 then 2 else 4

/-- A window count passes (R411): for a clock of f kHz the window of 4,096 Dawn cycles is 4,096 / D seconds; for XTAL32 the count is of Dawn
cycles over 4,096 of its own. -/
def State.clkPass (s : State) (c n : Nat) : Bool :=
  let d := s.dawnHz
  if c = 3 then
    let e := d
    decide ((8 * n) * 100 ≤ e * (100 + s.clkTol)) && decide (e * (100 - s.clkTol) ≤ (8 * n) * 100)
  else
    let e := s.clkKHz c * 1000 * 4096
    decide (n * d * 100 ≤ e * (100 + s.clkTol)) && decide (e * (100 - s.clkTol) ≤ n * d * 100)

/-! Failure and return (R413-R415) -/

/-- CLK_FAIL bit of a clock. -/
def State.clkFailed (s : State) (c : Nat) : Bool := tb (s.rd (CLK_FAIL_LO + 4 * (c / 32))) (c % 32)

/-- Source in use by a consumer: 0 PLL, 1 Zenith, 2 Dawn, 3 stopped. -/
def State.clkSrc (s : State) (k : Nat) : Nat := fld (s.rd CLK_SRC) (2 * k + 1) (2 * k)
def State.setSrc (s : State) (k v : Nat) : State := s.putField CLK_SRC (2 * k + 1) (2 * k) v

/-- The instances a failure aborts (R413): every running one, or those in regions that run on an OPPCLK. -/
def State.clkAborts (s : State) (c : Nat) : State :=
  let hit (x : Inst) : Bool :=
    x.st.open && (decide (c = 0) || decide (c = 6) || decide (c = 7) ||
      (decide (8 ≤ c) && decide (c ≤ 11) && x.clusters.any (fun k => decide (fld (s.rd (PWR_OPP (regionIdx k))) 9 8 = c - 8))))
  (s.dsp.insts.filter hit).foldl (fun s x => s.abort x.iid 6 0) s

/-- One clock moves to its fallback; while Zenith is not ready its consumers stop and BCLK moves to Dawn, whichever clock failed (R413, R414). -/
def State.clkMove (s : State) (c : Nat) : State :=
  match clkConsumer c with
  | none => s
  | some k =>
    if tb (s.rd CLK_STATUS) 5 then s.setSrc k 1
    else ((if k = 6 then s else s.setSrc k 3).setSrc 6 2).setBits CLK_STATUS 16

/-- The clocks that fail with a clock (R413). -/
def failWith (c : Nat) : List Nat := if c = 0 then [0, 6, 7, 8, 9, 10, 11, 12, 13, 14, 15, 46] else [c]

/-- A monitored clock fails (R413, R414): once, until its CLK_FAIL bit is cleared (log entry 25). -/
def State.clkFail (s : State) (c : Nat) : State :=
  if !s.clkMonitored c ∨ s.clkFailed c then s
  else
    let cs := (failWith c).filter (fun x => s.clkMonitored x)
    let s := if c = 3 then { s.clrBits CLK_STATUS 64 with strata := { (s.clrBits CLK_STATUS 64).strata with xtalLost := true } } else s
    let zen := tb (s.rd CLK_STATUS) 5
    let t := if zen then s.clkAborts c else s
    let t := cs.foldl (fun s x => (s.clkMove x).setBits (CLK_FAIL_LO + 4 * (x / 32)) (bitMask (x % 32))) t
    let t := if cs.contains 13 then { t.ddrAsleep with pwr := { t.ddrAsleep.pwr with dclkBad := true } } else t
    let t := t.setBits CLK_STATUS 1
    let t := { t with pins := { t.pins with irq := true, nmi := true }, pwr := { t.pwr with clkGood := 0 } }
    t.record 0x54 3 (natBytes 1 c)

/-- Every consumer returns to its own clock (R415). -/
def State.clkBack (s : State) : State := (s.wr CLK_SRC 0).clrBits CLK_STATUS 16

/-- REFCLK and the PLLs have passed another window (R415). -/
def State.clkGoodWindow (s : State) (ok : Bool) : State :=
  if !ok then ({ s with pwr := { s.pwr with clkGood := 0 } }).clrBits CLK_STATUS 8
  else
    let n := s.pwr.clkGood + 1
    let s := { s with pwr := { s.pwr with clkGood := Nat.min 16 n } }
    if n < 16 then s
    else
      let s := s.setBits CLK_STATUS 8
      if tb (s.rd CLK_CTRL) 0 then s.clkBack else s

/-- One count of a window. Channels have their clock again once a window of DCLK passes (R410; DEDUCED, log entry 116). -/
def State.clkCount (s : State) (c n : Nat) : State :=
  if !s.clkMonitored c then s
  else
    let s := s.wr (CLK_CNT c) (BitVec.ofNat 32 (n % 2 ^ 24))
    if s.clkPass c n then
      if c = 3 then { s.setBits CLK_STATUS 64 with strata := { (s.setBits CLK_STATUS 64).strata with xtalLost := false } }
      else if c = 13 then { s with pwr := { s.pwr with dclkBad := false } }
      else s
    else s.clkFail c

/-- REFCLK or a clock from a PLL (R415). -/
def isPll (c : Nat) : Bool := decide (c = 0) || (decide (6 ≤ c) && decide (c ≤ 15)) || decide (c = 46)

/-- The counts of a window are judged (R411, R415). -/
def State.clkWindow (s : State) (counts : List (Nat × Nat)) : State :=
  let ok := counts.all (fun e => !isPll e.1 || s.clkPass e.1 e.2) && counts.any (fun e => decide (e.1 = 0))
  (counts.foldl (fun s e => s.clkCount e.1 e.2) s).clkGoodWindow ok

/-- DAWN_CALIBRATION (R412). -/
def execDawnCalibration (count : Nat) (s : State) : Res' :=
  .next (if tb (s.rd CLK_STATUS) 6 then s.wr CLK_DAWNCAL (BitVec.ofNat 32 (count % 2 ^ 21)) else s)

/-- ZENITH_READY (R414): stopped consumers start on Zenith, BCLK moves to it, and the aborts take effect. -/
def execZenithReady (s : State) : Res' :=
  let moved := (List.range 8).filter (fun k => decide (s.clkSrc k = 3) || decide (s.clkSrc k = 2))
  let codes := (moved.filterMap (fun k => [6, 7, 8, 9, 10, 11, 12, 15][k]?))
  let t := moved.foldl (fun s k => s.setSrc k 1) s
  let t := codes.foldl (fun s c => s.clkAborts c) t
  .next ((t.setBits CLK_STATUS 32).clrBits CLK_STATUS 16)

/-- A write of CLK_CMD.RETURN (R415, R426). -/
def State.clkReturn (s : State) : State :=
  if tb (s.rd CLK_STATUS) 3 ∧ s.rd CLK_SRC ≠ 0 then s.clkBack else s.setBits CLK_STATUS 4

/-- CLK_RETURN (R415). -/
def execClkReturn (s : State) : Res' := .next s.clkReturn

/-- A write of CLK_OBS (R417). -/
def State.clkObs (s : State) (v : Word) : State :=
  let c := fld v 29 24
  if tb v 31 && decide (c < 48) && decide (s.clkKHz c > 200000 * (fld v 15 0 + 1)) then s.setBits CLK_STATUS 4
  else s.wr CLK_OBS (v &&& 0xBF00FFFF#32)

/-- CLK_OBS_WRITE (R417). -/
def execClkObsWrite (v : Word) (s : State) : Res' := .next (s.clkObs v)

end Sys2Proof.Machine
end

