-- ==== Sys2Proof/Machine/Thermal.lean ====
section
/-! DEFINITION. The thermal manager and the margin planner (R428-R445). -/

namespace Sys2Proof.Machine

/-! Sensors (R428) -/

/-- Sensors of each die, D0 Bedrock to D4 Granite-U: first index and number. -/
def dieSensors (d : Nat) : Nat × Nat :=
  match d with
  | 0 => (44, 8)
  | 1 => (40, 4)
  | 2 => (32, 8)
  | 3 => (0, 16)
  | _ => (16, 16)

/-- The die of a sensor. -/
def sensorDie (i : Nat) : Nat := if i < 16 then 3 else if i < 32 then 4 else if i < 40 then 2 else if i < 44 then 1 else 0

/-- The sensors that cover a region. -/
def covering (r : Nat) : List Nat :=
  let k := r % 32
  [16 * (r / 32) + k / 2, 32 + k / 4, 40 + k / 8, 44 + k / 4]

/-- Thresholds in 1/16 °C (R431): WARN, THROTTLE, CRIT. -/
def State.thrAt (s : State) (base : Nat) : Int := 16 * ((base + (if s.fuse.suffixX then 5 else 0) : Nat) : Int)
def State.warnT (s : State) : Int := s.thrAt 95
def State.throtT (s : State) : Int := s.thrAt 100
def State.critT (s : State) : Int := s.thrAt 110
/-- THROTTLE less the hysteresis. -/
def State.coolT (s : State) : Int := s.throtT - 16 * ((fld (s.rd TH_CTRL) 3 0 : Nat) : Int)
/-- The value that stands for a broken sensor (R436). -/
def State.substT (s : State) : Int := s.throtT + 80

/-- A sensor is marked broken. -/
def State.broken (s : State) (i : Nat) : Bool := tb (s.rd (TH_BROKEN_LO + 4 * (i / 32))) (i % 32)

/-- A signed 16-bit field. -/
def temp16 (t : Int) : Nat := narrow 16 t

/-! Broken sensors (R436-R438) -/

/-- Insert in rising order. -/
def insInt (x : Int) : List Int → List Int
  | [] => [x]
  | y :: ys => if x ≤ y then x :: y :: ys else y :: insInt x ys

/-- The median of an odd number of readings. -/
def median (xs : List Int) : Int :=
  let ys := xs.foldl (fun acc x => insInt x acc) []
  ys.getD (ys.length / 2) 0

/-- The largest spread of a list of readings. -/
def spread (xs : List Int) : Int :=
  match xs with
  | [] => 0
  | x :: r => r.foldl (fun m y => if y > m then y else m) x - r.foldl (fun m y => if y < m then y else m) x

/-- The value each sensor contributes in a sample: its reading, or the substitute (R436, R437), which also stands for a conversion that fails in this
sample (DEDUCED, log entry 117). -/
def State.contributes (s : State) (raw : List (Option Int)) (i : Nat) : Int :=
  if s.broken i then s.substT else (raw.getD i none).getD s.substT

/-- The bound of Mica sensor `m` in 1/1,024 °C, from the sensors that are not broken and gave a reading (R438). -/
def State.micaBound (s : State) (raw : List (Option Int)) (plow m : Nat) : Option Int :=
  let term (i : Nat) : Option Int := if s.broken i then none else raw.getD i none
  let g := match term (2 * m), term (2 * m + 1) with
    | some a, some b => some (if a ≤ b then a else b)
    | some a, none => some a
    | none, x => x
  let mx := match g, term (40 + m / 2) with
    | some a, some b => some (if a ≥ b then a else b)
    | some a, none => some a
    | none, x => x
  mx.map (fun t => 64 * t + ((fld (s.rd TH_MICAK) 7 0 * plow : Nat) : Int))

/-- The reading of a sensor is implausible in this sample (R436, R438). -/
def State.implausible (s : State) (raw : List (Option Int)) (i : Nat) : Bool :=
  match raw.getD i none with
  | none => false
  | some t =>
    if sensorDie i = 2 then
      match smGet [] s.therm.lb (i - 32) with
      | [] => false
      | b :: bs => decide (64 * t < bs.foldl (fun m y => if y < m then y else m) b - 8 * 1024)
    else
      let d := dieSensors (sensorDie i)
      let others := ((List.range d.2).map (fun j => d.1 + j)).filter (fun j => decide (j ≠ i))
      let md := median (others.map (fun j => s.contributes raw j))
      decide (t - md > 400) || decide (md - t > 400)

/-- Take the sample into the histories that the conditions of R436 look at. -/
def State.sensorHist (s : State) (raw : List (Option Int)) (plow : Nat) : State :=
  let lb := (List.range 8).foldl (fun m k =>
    match s.micaBound raw plow k with
    | some b => smPut m k ((b :: smGet [] m k).take 4)
    | none => smDel m k) s.therm.lb
  let s := { s with therm := { s.therm with lb := lb } }
  let th := (List.range 52).foldl (fun (th : Therm) i =>
    { th with raw := (match raw.getD i none with
                | some t => smPut th.raw i ((t :: smGet [] th.raw i).take 256)
                | none => smDel th.raw i)
              impl := (if s.implausible raw i then smPut th.impl i (smGet 0 th.impl i + 1) else smDel th.impl i) }) s.therm
  { s with therm := th }

/-- The condition of R436 a sensor meets: 1 range, 2 stuck, 3 implausible. -/
def State.sensorCond (s : State) (raw : List (Option Int)) (i : Nat) : Option Nat :=
  match raw.getD i none with
  | none => some 1
  | some t =>
    if t < -640 ∨ t > 2400 then some 1
    else
      let h := smGet [] s.therm.raw i
      let d := dieSensors (sensorDie i)
      let moved := (List.range d.2).any (fun j => decide (d.1 + j ≠ i) && decide (spread (smGet [] s.therm.raw (d.1 + j)) ≥ 32))
      if h.length = 256 ∧ spread h = 0 ∧ moved then some 2
      else if smGet 0 s.therm.impl i ≥ 4 then some 3
      else none

/-- The marks asked to be cleared: cleared unless the sensor meets a condition now (R437). -/
def State.clearMarks (s : State) (raw : List (Option Int)) : State :=
  let out := s.therm.clr.foldl (fun s i =>
    if (s.sensorCond raw i).isSome then s.setBits TH_STATUS 256
    else
      let s := s.clrBits (TH_BROKEN_LO + 4 * (i / 32)) (bitMask (i % 32))
      { s with therm := { s.therm with hist := smDel s.therm.hist i } }) s
  { out with therm := { out.therm with clr := [] } }

/-- Mark the sensors that meet a condition (R436). -/
def State.markBroken (s : State) (raw : List (Option Int)) : State :=
  (List.range 52).foldl (fun s i =>
    if s.broken i then s
    else match s.sensorCond raw i with
      | none => s
      | some c =>
        ((s.setBits (TH_BROKEN_LO + 4 * (i / 32)) (bitMask (i % 32))).setBits TH_STATUS 8).record 0x52 2 (natBytes 1 i ++ natBytes 1 c)) s

/-! Steps, caps and the halt (R432-R434) -/

/-- The greatest of the values of sensors lo .. lo + n - 1, with the first sensor that gives it. -/
def maxOf (v : Nat → Int) (lo n : Nat) : Nat × Int :=
  (List.range n).foldl (fun acc j => if v (lo + j) > acc.2 then (lo + j, v (lo + j)) else acc) (lo, v lo)

/-- A rate condition holds for a sensor at the present time (R432). -/
def State.rateHolds (s : State) (i : Nat) : Bool := decide (s.therm.now < smGet 0 s.therm.rateT i) && !s.broken i

/-- Judge the rate of rise of every sensor that is not broken, and keep its last three values (R432). -/
def State.rates (s : State) (v : Nat → Int) : State :=
  (List.range 52).foldl (fun s i =>
    if s.broken i then { s with therm := { s.therm with hist := smDel s.therm.hist i } }
    else
      let h := smGet [] s.therm.hist i
      let fast := match h.getLast? with
        | some (t, at_) => decide ((v i - t) * 1000 ≥ 48 * ((s.therm.now - at_ : Nat) : Int)) && decide (s.therm.now > at_)
        | none => false
      let s := { s with therm := { s.therm with hist := smPut s.therm.hist i (((v i, s.therm.now) :: h).take 3) } }
      if fast then
        ({ s with therm := { s.therm with rateT := smPut s.therm.rateT i (s.therm.now + 10001) } }).setBits TH_STATUS 16
      else s) s

/-- The throttle step of a region. -/
def State.step_ (s : State) (r : Nat) : Nat := fld (s.rd (TH_REG r)) 1 0

/-- The thermal cap of a region (R433, R434). -/
def State.capOf (s : State) (r : Nat) : Nat := if tb (s.rd TH_STATUS) 6 then 0 else s.topOpp - s.step_ r

/-- Put a region's cap in force (R433). -/
def State.setCap (s : State) (r : Nat) : State := (s.putField (TH_REG r) 5 4 (s.capOf r)).putField (PWR_OPP r) 5 4 (s.capOf r)

/-- The step of one region after a sample (R432, R437): the new step, with rise and cool times. -/
def State.stepRegion (s : State) (v : Nat → Int) (r : Nat) : State :=
  let cov := covering r
  let now := s.therm.now
  let old := s.step_ r
  let hot := cov.any (fun i => !s.broken i && decide (v i ≥ s.throtT))
  let rate := cov.any (fun i => s.rateHolds i)
  let brk := cov.any (fun i => s.broken i)
  let rt := smGet 0 s.therm.riseT r
  let up := hot && (decide (rt = 0) || decide (now - (rt - 1) ≥ 1000))
  let st := if up then Nat.min 3 (old + 1) else old
  let st := if rate || brk then Nat.max 1 st else st
  let cool := cov.all (fun i => decide (v i < s.coolT)) && !rate && !brk
  let ct := smGet 0 s.therm.coolT r
  let down := cool && decide (ct ≠ 0) && decide (now - (ct - 1) ≥ 10000)
  let st := if down then st - 1 else st
  let s := { s with therm := { s.therm with
    riseT := (if hot then (if up then smPut s.therm.riseT r (now + 1) else s.therm.riseT) else smDel s.therm.riseT r)
    coolT := (if cool then (if ct = 0 || down then smPut s.therm.coolT r (now + 1) else s.therm.coolT) else smDel s.therm.coolT r) } }
  let s := (s.putField (TH_REG r) 1 0 st).putField (TH_REG r) 8 8 (Bool.bit rate)
  if st > old then s.record 0x50 2 (natBytes 1 r ++ natBytes 1 st) else s

/-- Budget caps of the pairs (R433). -/
def State.budgetCaps (s : State) : State :=
  (List.range 32).foldl (fun s k =>
    let st := Nat.max (s.step_ k) (s.step_ (32 + k))
    s.wr (DSP_BCAP k) (if st = 0 then 0x3FFFF#32 else s.rd (TH_BCAP1 + 4 * (st - 1)))) s

/-- Put every cap in force. -/
def State.allCaps (s : State) : State := (List.range 64).foldl (fun s r => s.setCap r) s

/-- Enter or keep the halt at a sample that reads CRIT (R434). -/
def State.critSample (s : State) (v : Nat → Int) : State :=
  match (List.range 52).find? (fun i => !s.broken i && decide (v i ≥ s.critT)) with
  | none => s
  | some i =>
    let bed := (List.range 8).any (fun j => !s.broken (44 + j) && decide (v (44 + j) ≥ s.critT))
    let s := (s.setBits TH_STATUS 4)
    let s := if bed then { s with therm := { s.therm with flintStop := true } } else s
    if tb (s.rd TH_STATUS) 6 then s
    else
      let s := ((s.setBits TH_STATUS 64).bump TH_HALTS TH_CNTOVF 0).record 0x51 3 (natBytes 1 i ++ natBytes 2 (temp16 (v i)))
      (s.dsp.insts.filter (fun x => x.st.open)).foldl (fun s x => s.abort x.iid 6 0) s

/-- The halt may end: every sensor that is not broken has been cool for 10 ms. -/
def State.haltOver (s : State) : Bool :=
  match s.therm.haltCool with
  | some t => decide (s.therm.now - t ≥ 10000)
  | none => false

/-- End the halt (R434). -/
def State.haltEnd (s : State) : State :=
  let s := s.clrBits TH_STATUS 64
  ({ s with therm := { s.therm with haltCool := none, flintStop := false } }).allCaps

/-- Follow the cooling of a halt, ending it at once with AUTORES (R434). -/
def State.haltFollow (s : State) (v : Nat → Int) : State :=
  if !tb (s.rd TH_STATUS) 6 then s
  else
    let cool := (List.range 52).all (fun i => s.broken i || decide (v i < s.coolT))
    let s := { s with therm := { s.therm with
      haltCool := if cool then (match s.therm.haltCool with
        | some t => some t
        | none => some s.therm.now) else none } }
    if s.haltOver && tb (s.rd TH_CTRL) 8 then s.haltEnd else s

/-! Bands (R439) -/

/-- Lower bound of a band in 1/16 °C. -/
def bandLow : Nat → Int
  | 1 => 720
  | 2 => 1360
  | _ => 1600

/-- Fall while the maximum is 3 °C or more below the bound. -/
def bandFall (m : Int) : Nat → Nat
  | 0 => 0
  | b + 1 => if m ≤ bandLow (b + 1) - 48 then bandFall m b else b + 1

/-- The next band (R439). -/
def bandNext (old : Nat) (m : Int) : Nat :=
  let up := if m ≥ bandLow 3 then 3 else if m ≥ bandLow 2 then 2 else if m ≥ bandLow 1 then 1 else 0
  if up > old then up else bandFall m old

/-- The bands after a sample; a changed Granite band moves the rails of its die (R440). -/
def State.bands (s : State) (v : Nat → Int) : State :=
  let s := (List.range 5).foldl (fun s d =>
    let p := dieSensors d
    let m := maxOf v p.1 p.2
    let s := s.wr (TH_MAXDIE d) (BitVec.ofNat 32 (m.1 * 2 ^ 24 + temp16 m.2))
    let b := bandNext (s.dieBand d) m.2
    if b = s.dieBand d then s
    else
      let s := s.putField TH_BANDS (2 * d + 1) (2 * d) b
      if d ≥ 3 then (List.range 32).foldl (fun s k => s.railPlan (32 * (d - 3) + k)) s else s) s
  let m := maxOf v 0 52
  (s.wr TH_MAXDEV (BitVec.ofNat 32 (m.1 * 2 ^ 24 + temp16 m.2))).putField TH_BANDS 11 10 (bandNext (fld (s.rd TH_BANDS) 11 10) m.2)

/-- The sampling period (R430). -/
def State.sampling (s : State) (v : Nat → Int) : State :=
  if (List.range 52).any (fun i => decide (v i ≥ s.warnT - 160)) then
    ({ s with therm := { s.therm with slow := 0 } }).setBits TH_STATUS 32
  else
    let n := s.therm.slow + 1
    let s := { s with therm := { s.therm with slow := Nat.min 20 n } }
    if n ≥ 20 then s.clrBits TH_STATUS 32 else s

/-- One sample (R429): `us` microseconds after the one before, the raw readings in 1/16 °C, the lower-die power in 1/16 W. -/
def State.thermal (s : State) (us : Nat) (raw : List (Option Int)) (plow : Nat) : State :=
  let s := { s with therm := { s.therm with now := s.therm.now + us } }
  let s := (s.wr TH_PLOW (BitVec.ofNat 32 (plow % 2 ^ 16))).sensorHist raw (plow % 2 ^ 16)
  let s := s.clearMarks raw
  let vals := (List.range 52).map (fun i => s.contributes raw i)
  let v (i : Nat) : Int := vals.getD i 0
  let s := s.markBroken raw
  let s := (List.range 52).foldl (fun s i =>
    s.wr (TH_SENS i) (BitVec.ofNat 32 (if s.broken i then 2 ^ 31 + temp16 s.substT else temp16 (v i)))) s
  let s := (List.range 52).foldl (fun s i => s.statSample i (v i)) s
  let s := (s.bands v).sampling v
  let s := if (List.range 52).any (fun i => decide (v i ≥ s.warnT)) then s.setBits TH_STATUS 1 else s
  let s := if (List.range 52).any (fun i => !s.broken i && decide (v i ≥ s.throtT)) then s.setBits TH_STATUS 2 else s
  let s := s.rates v
  let s := (List.range 64).foldl (fun s r => s.stepRegion v r) s
  ((s.critSample v).haltFollow v).allCaps.budgetCaps

/-- THERMAL_SAMPLE (R429): sampling starts at the release of POR_N. -/
def execThermalSample (us : Nat) (raw : List (Option Int)) (plow : Nat) (s : State) : Res' := .next (if s.pins.por then s else s.thermal us raw plow)

/-- A write of TH_CTRL.RESUME = 1 (R434). -/
def State.thResume (s : State) : State := if tb (s.rd TH_STATUS) 6 && s.haltOver then s.haltEnd else s.setBits TH_STATUS 256

/-- RESUME (R434). -/
def execThermResume (s : State) : Res' := .next s.thResume

/-- A write of 1 to a TH_BROKEN bit: judged at the next sample (R437). -/
def State.brokenClear (s : State) (i : Nat) : State :=
  if s.broken i && !(s.therm.clr.contains i) then { s with therm := { s.therm with clr := s.therm.clr ++ [i] } } else s

/-- BROKEN_CLEAR (R437). -/
def execBrokenClear (sensor : Nat) (s : State) : Res' := if decide (sensor < 52) then .next (s.brokenClear sensor) else .fault .noSuchUnit

/-- A write of TH_CTRL (R444): a hysteresis below 2 is ignored with CFGERR, so that the field keeps its value (log entry 32). -/
def State.thCtrl (s : State) (v : Word) : State :=
  let s := if fld v 3 0 < 2 then (s.wr TH_CTRL ((v &&& 0x100#32) ||| (s.rd TH_CTRL &&& 0xF#32))).setBits TH_STATUS 256 else s.wr TH_CTRL (v &&& 0x10F#32)
  if tb v 31 then s.thResume else s

/-! Ageing (R441-R443) -/

/-- The degradation per step at a point of a region (R443). -/
def State.ageStep (s : State) (r o : Nat) : Nat := smGet 1500 s.fuse.step (4 * r + o)

/-- Plan the offsets of one region from a degradation (R443). -/
def State.agePlan (s : State) (r d : Nat) : State :=
  let base (o : Nat) : Nat := fld (s.rd (AGE_BASE r)) (5 * o + 4) (5 * o)
  let new (o : Nat) : Nat := Nat.min 16 (Nat.max (s.offset r o) (Nat.max (base o) ((d + s.ageStep r o - 1) / s.ageStep r o)))
  let w := BitVec.ofNat 32 (new 0 + new 1 * 2 ^ 5 + new 2 * 2 ^ 10 + new 3 * 2 ^ 15)
  let s := (s.wr (AGE_OFF r) w).railPlan r
  if (List.range 4).any (fun o => decide (s.offset r o > 14)) then
    let s := s.setBits AGE_STATUS 2
    if smGet false s.age.eom r then s
    else ({ s with age := { s.age with eom := smPut s.age.eom r true } }).record 0x53 2 (natBytes 1 r ++ natBytes 4 w.toNat)
  else s

/-- The regions beside a Granite monitor (R441). -/
def qmRegions (q : Nat) : List Nat := [32 * (q / 16) + 2 * (q % 16), 32 * (q / 16) + 2 * (q % 16) + 1]

/-- A region is ON with no transition running (R442): no cluster of it is asleep beyond CIRRUS (log entry 26). -/
def State.qmReady (s : State) (r : Nat) : Bool :=
  decide (fld (s.rd (PWR_OPP r)) 9 8 = s.target r) &&
  (List.range 1024).all (fun c => decide (regionIdx c ≠ r) || decide (s.dom c = .on) || decide (s.dom c = .cirrus))

/-- Measure one monitor now, or leave it due. -/
def State.measure1 (s : State) (q d : Nat) : State :=
  let d := Nat.min d 65535
  if q < 32 ∧ !((qmRegions q).all (fun r => s.qmReady r)) then
    { s with age := { s.age with due := s.age.due.filter (fun e => decide (e.1 ≠ q)) ++ [(q, d)] } }
  else
    let s := s.wr (AGE_QM q) (BitVec.ofNat 32 d)
    if q < 32 then (qmRegions q).foldl (fun s r => s.agePlan r d) s else s

/-- A round of measurement (R442): monitors still due are skipped. -/
def State.measure (s : State) (ds : List (Nat × Nat)) : State :=
  let s := { s with age := { s.age with due := [] } }
  let s := (ds.filter (fun e => decide (e.1 < 48))).foldl (fun s e => s.measure1 e.1 e.2) s
  (s.bump AGE_MEAS AGE_CNTOVF 0).setBits AGE_STATUS 1

/-- Monitors whose first moment has come are measured (R442). -/
def State.measureDue (s : State) : State :=
  s.age.due.foldl (fun s e =>
    if (qmRegions e.1).all (fun r => s.qmReady r) then
      ({ s with age := { s.age with due := s.age.due.filter (fun x => decide (x.1 ≠ e.1)) } }).measure1 e.1 e.2
    else s) s

/-- OPP_TRANSITION (R424); a monitor that waited for its regions to stand still is measured (R442). -/
def execOppTransition (r : Nat) (s : State) : Res' := if decide (r < 64) then .next (s.oppMove r).measureDue else .fault .noSuchUnit

/-- AGE_MEASUREMENT (R442): the degradations the monitors report. -/
def execAgeMeasurement (ds : List (Nat × Nat)) (s : State) : Res' := .next (s.measure ds)

/-- MEASURE (R442). -/
def execAgeMeasure (ds : List (Nat × Nat)) (s : State) : Res' := .next (s.measure ds)

end Sys2Proof.Machine
end

