-- ==== Sys2Proof/Machine/Lanes.lean ====
section
/-! DEFINITION. Serial lanes and links (R446-R465): reception of blocks, alignment, raw and Dalyel links. -/

namespace Sys2Proof.Machine

/-! Registers and parts -/

/-- A register kept for a lane or link, by the plain address of its register (R472). -/
def State.lrd (s : State) (l a : Nat) : Word := smGet (regReset s.fuse.gradeA a) s.lanes.reg (0x1000 * l + offsetOf a)
def State.lwr (s : State) (l a : Nat) (v : Word) : State :=
  { s with lanes := { s.lanes with reg := smSet (regReset s.fuse.gradeA a) s.lanes.reg (0x1000 * l + offsetOf a) v } }
/-- Count in a counter of a lane; bit `b` of its LANE_CNTOVF marks saturation (R190). -/
def State.lbump (s : State) (l a b n : Nat) : State :=
  let v := (s.lrd l a).toNat + n
  if v ≥ 2 ^ 32 - 1 then (s.lwr l a 0xFFFFFFFF#32).lwr l LANE_CNTOVF (s.lrd l LANE_CNTOVF ||| bitMask b) else s.lwr l a (BitVec.ofNat 32 v)

def State.lane (s : State) (l : Nat) : Lane := smGet Lane.zero s.lanes.lanes l
def State.setLane (s : State) (l : Nat) (x : Lane) : State :=
  { s with lanes := { s.lanes with lanes := smSet Lane.zero s.lanes.lanes l x } }
def State.link (s : State) (f : Nat) : Link := smGet Link.zero s.lanes.links f
def State.setLink (s : State) (f : Nat) (x : Link) : State :=
  { s with lanes := { s.lanes with links := smSet Link.zero s.lanes.links f x } }

/-! Link configuration (R447) -/

def State.linkEn (s : State) (f : Nat) : Bool := tb (s.lrd f LANE_LCFG) 31
def State.dalyel (s : State) (f : Nat) : Bool := tb (s.lrd f LANE_LCFG) 30
def State.width (s : State) (f : Nat) : Nat := 2 ^ fld (s.lrd f LANE_LCFG) 29 27
/-- Data lanes a = w - SPARES. -/
def State.dataSlots (s : State) (f : Nat) : Nat := s.width f - fld (s.lrd f LANE_LCFG) 26 25
/-- The enabled link a lane belongs to, by its first lane. -/
def State.linkOf (s : State) (l : Nat) : Option Nat :=
  ([1, 2, 4, 8, 16].map (fun w => l / w * w)).find? (fun f => s.linkEn f && decide (l < f + s.width f))
/-- Lanes of a link. -/
def State.linkLanes (s : State) (f : Nat) : List Nat := (List.range (s.width f)).map (fun i => f + i)
/-- A lane with a pattern test takes no part in its link (R455). -/
def State.prbsOn (s : State) (l : Nat) : Bool := tb (s.lrd l LANE_PRBS) 31 || tb (s.lrd l LANE_PRBS) 30
/-- A lane counts as failed (R454, R455). -/
def State.laneBad (s : State) (l : Nat) : Bool := (s.lane l).failed || s.prbsOn l || decide (s.dom (domLane l) ≠ .on)
/-- The rate of a lane's group. -/
def State.rate (s : State) (l : Nat) : Nat := fld (s.rd (LANE_GRATE (l / 4))) 14 0

/-- The queue of a link's egress (R461, R462). -/
def linkQueue (s : State) (f : Nat) : Nat := fld (s.lrd f LANE_LQ) 17 0

/-! Sinks -/

/-- Present a token to its sink; nothing moves while GSR holds the fabric. -/
def State.sinkG (s : State) (src : PortId) (queue : Bool) (t : Token) : State × Bool := if s.gsr then (s, false) else s.sinkToken src queue t

/-- Place tokens in order until one stays. -/
def State.sinkAll (s : State) (src : PortId) : List (Bool × Token) → State × List (Bool × Token)
  | [] => (s, [])
  | t :: ts =>
    let x := s.sinkG src t.1 t.2
    if x.2 then x.1.sinkAll src ts else (x.1, t :: ts)

/-- Send a block on a link (the model's own output). -/
def State.linkSend (s : State) (f : Nat) (ctl : Bool) (w : DWord) : State :=
  s.setLink f { s.link f with sent := (s.link f).sent ++ [(ctl, w)] }

/-- The bytes of a payload, byte 0 being bits [7:0]. -/
def dwBytes (w : DWord) : List Byte := natBytes 8 w.toNat
/-- A field of a payload. -/
def dfld (w : DWord) (hi lo : Nat) : Nat := w.toNat / 2 ^ lo % 2 ^ (hi + 1 - lo)

/-! Raw receive (R458-R460) -/

/-- The token of data block `i` of a frame, with DEST of its descriptor (R458). -/
def State.rawToken (s : State) (f : Nat) (x : RawFrame) (i : Nat) (w : DWord) (bad : Bool) : Bool × Token :=
  let a := s.lrd f (LANE_IDESC_A x.sel.toNat)
  let b := s.lrd f (LANE_IDESC_B x.sel.toNat)
  (tb a 30,
   { ctx := BitVec.ofNat 12 (fld a 23 12), inst := x.inst + BitVec.ofNat 24 (i / 16), port := BitVec.ofNat 4 (i % 16),
     kind := kindOf (fld a 29 28), pri := BitVec.ofNat 3 (fld a 27 25), flow := BitVec.ofNat 18 (fld b 17 0), poison := bad, value := w })

/-- Blocks in the receive buffer. -/
def Link.occupancy (x : Link) : Nat := x.rbuf.length + (match x.frame with
  | some y => y.blocks.length
  | none => 0)

/-- XOFF at 1,536 blocks, XON at 512 (R460). -/
def State.rawFlow (s : State) (f : Nat) : State :=
  let x := s.link f
  if !x.xoffTx && decide (x.occupancy ≥ 1536) then (s.setLink f { x with xoffTx := true }).linkSend f true 0x2D#64
  else if x.xoffTx && decide (x.occupancy ≤ 512) then (s.setLink f { x with xoffTx := false }).linkSend f true 0x2E#64
  else s

/-- Place what the receive buffer has released. -/
def State.rawPlace (s : State) (f : Nat) : State :=
  let out := s.sinkAll (lanePort f) (s.link f).rbuf
  (out.1.setLink f { out.1.link f with rbuf := out.2 }).rawFlow f

/-- A frame ends: its tokens are released, poisoned when it is damaged (R458, R459). -/
def State.rawEnd (s : State) (f : Nat) (bad : Bool) : State :=
  match (s.link f).frame with
  | none => s
  | some x =>
    let s := s.setLink f { s.link f with frame := none }
    if x.drop then s
    else
      let b := bad || x.bad
      let ws := x.blocks.reverse
      let ts := ((List.range ws.length).zip ws).map (fun e => s.rawToken f x e.1 e.2 b)
      let s := if b then s.lbump f LANE_FRMERR 3 1 else s
      (s.setLink f { s.link f with rbuf := (s.link f).rbuf ++ ts }).rawPlace f

/-- A raw frame meets a full buffer (R460). -/
def State.rawDrop (s : State) (f : Nat) (x : RawFrame) : State :=
  ((s.setLink f { s.link f with frame := some { x with drop := true, blocks := [] } }).lbump f LANE_RXDROP 2 1).setBits LANE_STATUS 16

/-- START (R458): a disabled descriptor discards the frame, a START inside a frame damages the open one. -/
def State.rawStart (s : State) (f : Nat) (w : DWord) : State :=
  let s := s.rawEnd f true
  let x : RawFrame := { sel := BitVec.ofNat 4 (dfld w 11 8), inst := BitVec.ofNat 24 (dfld w 39 16), blocks := [], bad := false, drop := false }
  if !tb (s.lrd f (LANE_IDESC_A x.sel.toNat)) 31 then
    (s.setLink f { s.link f with frame := some { x with drop := true } }).lbump f LANE_FRMERR 3 1
  else if (s.link f).occupancy ≥ 2048 then s.rawDrop f x
  else s.setLink f { s.link f with frame := some x }

/-- A data block of a raw link (R458-R460). -/
def State.rawData (s : State) (f : Nat) (w : DWord) : State :=
  match (s.link f).frame with
  | none => s.lbump f LANE_FRMERR 3 1
  | some x =>
    if x.drop || x.bad then s
    else if x.blocks.length ≥ 256 then s.setLink f { s.link f with frame := some { x with bad := true } }
    else if (s.link f).occupancy ≥ 2048 then s.rawDrop f x
    else (s.setLink f { s.link f with frame := some { x with blocks := w :: x.blocks } }).rawFlow f

/-- The frame being received is damaged. -/
def State.rawHurt (s : State) (f : Nat) : State :=
  match (s.link f).frame with
  | some x => s.setLink f { s.link f with frame := some { x with bad := true } }
  | none => s

/-- TERM: the CRC over the data payloads is judged and the tokens released (R458). -/
def State.rawTerm (s : State) (f : Nat) (w : DWord) : State :=
  match (s.link f).frame with
  | none => s
  | some x => s.rawEnd f (decide ((crc32c (x.blocks.reverse.flatMap dwBytes)).toNat ≠ dfld w 39 8))

/-- A block of a raw link (R450, R458-R460). -/
def State.rawBlk (s : State) (f : Nat) (b : LBlk) : State :=
  match b with
  | .data w => s.rawData f w
  | .bad => s.rawHurt f
  | .ctl w =>
    match dfld w 7 0 with
    | 0x1E => s
    | 0x33 => s
    | 0x78 => s.rawStart f w
    | 0x87 => s.rawTerm f w
    | 0x2D => s.setLink f { s.link f with xoffRx := true }
    | 0x2E => s.setLink f { s.link f with xoffRx := false }
    | _ => s.rawHurt f

/-! Dalyel receive (R462, R463) -/

/-- Present the tokens of accepted frames in order; ACK follows a frame whose tokens have all been placed (R463). -/
def State.dalPlace (s : State) (f : Nat) : Nat → State
  | 0 => s
  | n + 1 =>
    match (s.link f).rx with
    | [] => s
    | (seq, ts) :: rest =>
      let q := tb (s.lrd f LANE_LCFG) 23
      let out := s.sinkAll (lanePort f) (ts.map (fun t => (q, t)))
      match out.2 with
      | [] => (out.1.setLink f { out.1.link f with rx := rest, ackSeq := seq }).dalPlace f n
      | left => out.1.setLink f { out.1.link f with rx := (seq, left.map (fun e => e.2)) :: rest }

/-- Drop `n` head entries of a queue. -/
def State.qDropN (s : State) (q : Nat) : Nat → State
  | 0 => s
  | n + 1 => (s.qDrop q).qDropN q n

/-- What a good DFRAME says to the transmitter: ACK releases tokens, CREDIT, RETRY (R462, R463). -/
def State.dalHeader (s : State) (f : Nat) (w : DWord) : State :=
  let x := s.link f
  let n := (BitVec.ofNat 16 (dfld w 39 24) + 1 - x.base).toNat
  let s :=
    if n ≤ x.cnts.length then
      (s.setLink f { x with base := x.base + BitVec.ofNat 16 n, cnts := x.cnts.drop n, tpos := x.tpos - n }).qDropN (linkQueue s f)
        ((x.cnts.take n).foldl (· + ·) 0)
    else s
  s.setLink f { s.link f with credit := dfld w 55 40, tpos := if dfld w 60 60 = 1 then 0 else (s.link f).tpos }

/-- Tokens of pairs of payloads, bits [127:64] first (R462). -/
def dalTokens : List DWord → List Token
  | hi :: lo :: r => tokenOf (hi.toNat * 2 ^ 64 + lo.toNat) :: dalTokens r
  | _ => []

/-- DEND: the frame is judged (R463). A frame with no token takes no sequence number (log entry 27). -/
def State.dalEnd (s : State) (f : Nat) (w : DWord) : State :=
  match (s.link f).dal with
  | none => s
  | some x =>
    let s := s.setLink f { s.link f with dal := none }
    let ws := x.blocks.reverse
    let n := dfld x.hdr 59 56
    let good := !x.bad && decide (ws.length = 2 * n) &&
      decide ((crc32c ((dwBytes x.hdr).drop 1 ++ ws.flatMap dwBytes)).toNat = dfld w 39 8)
    let room := decide ((((s.link f).rx.map (fun e => e.2.length)).foldl (· + ·) 0) + n ≤ 4096)
    if !good then s.setLink f { s.link f with retry := true }
    else if n = 0 then s.dalHeader f x.hdr
    else if dfld x.hdr 23 8 = (s.link f).expSeq.toNat ∧ room then
      let s := s.dalHeader f x.hdr
      let y := s.link f
      (s.setLink f { y with expSeq := y.expSeq + 1, rx := y.rx ++ [(y.expSeq, dalTokens ws)] }).dalPlace f (y.rx.length + 1)
    else s.setLink f { s.link f with retry := true }

/-- A block of a Dalyel link. -/
def State.dalBlk (s : State) (f : Nat) (b : LBlk) : State :=
  let hurt (s : State) : State := match (s.link f).dal with
    | some x => s.setLink f { s.link f with dal := some { x with bad := true } }
    | none => s
  match b with
  | .data w => match (s.link f).dal with
    | some x => s.setLink f { s.link f with dal := some { x with blocks := w :: x.blocks } }
    | none => s
  | .bad => hurt s
  | .ctl w =>
    match dfld w 7 0 with
    | 0x55 =>
      let lost := (s.link f).dal.isSome
      s.setLink f { s.link f with dal := some { hdr := w, blocks := [], bad := false }, retry := (s.link f).retry || lost }
    | 0x66 => s.dalEnd f w
    | _ => s

/-! Deskew (R453) -/

/-- The lane that carries a data slot, by the markers received. -/
def State.slotLane (s : State) (f j : Nat) : Option Nat :=
  (s.linkLanes f).find? (fun l => decide ((s.lane l).slot.toNat = j) && decide ((s.lane l).laneid ≠ none))

/-- Take blocks in order of data slots; a lane that has failed gives damaged blocks. -/
def State.pump (s : State) (f : Nat) : Nat → State
  | 0 => s
  | n + 1 =>
    let x := s.link f
    if x.st ≠ 3 then s
    else
      let j := x.ptr
      let next := (j + 1) % s.dataSlots f
      let give (s : State) (b : LBlk) : State :=
        let s := s.setLink f { s.link f with ptr := next }
        (if s.dalyel f then s.dalBlk f b else s.rawBlk f b).pump f n
      match s.slotLane f j with
      | none => s
      | some l =>
        match (s.lane l).fifo with
        | b :: r => give (s.setLane l { s.lane l with fifo := r }) b
        | [] =>
          if s.laneBad l && (s.linkLanes f).any (fun k => decide ((s.lane k).fifo.length ≥ 40)) then give s .bad else s

/-! Link state (R452-R454, R464) -/

/-- The link leaves any state for DOWN: a raw frame in progress is damaged, a Dalyel frame is lost and will be sent again. -/
def State.linkDown (s : State) (f : Nat) : State :=
  let x := s.link f
  let s := if x.st = 0 then s else s.setBits LANE_STATUS 1
  let s := if s.dalyel f then s else s.rawEnd f true
  let s := (s.linkLanes f).foldl (fun s l => s.setLane l { s.lane l with mseq := none, ok := 0, fifo := [], alignok := false }) s
  s.setLink f { s.link f with st := 0, ptr := 0, dal := none, tpos := 0, maperr := false, xoffRx := false, eg := none }

/-- A spare that works: a lane of the link with no data slot (R464). -/
def State.freeSpare (s : State) (f : Nat) : Bool :=
  s.dalyel f && (s.linkLanes f).any (fun l => !s.laneBad l && (s.lane l).lock && decide ((s.lane l).slot = 15))

/-- A lane fails (R454): unless a spare takes its slot, the failure is recorded; `hard` says that its link cannot go on without it. -/
def State.laneFail (s : State) (l : Nat) (hard : Bool) : State :=
  if (s.lane l).failed then s
  else
    let s := (s.setLane l { s.lane l with failed := true, ok := 0, bover := 0 }).setBits LANE_STATUS 8
    match s.linkOf l with
    | none => s.record 0x61 2 (natBytes 1 l)
    | some f =>
      if decide ((s.lane l).slot ≠ 15) && decide ((s.link f).st = 3) && s.freeSpare f then s
      else
        let s := s.record 0x61 2 (natBytes 1 l)
        if decide ((s.lane l).slot ≠ 15) && (hard || s.dalyel f) then s.linkDown f else s

/-- The lane map of a link: `some true` reversed, `some false` straight, none while it is incomplete or refused (R452). -/
def State.laneMapOk (s : State) (f : Nat) : Option Bool :=
  let w := s.width f
  let all (g : Nat → Nat) : Bool := (List.range w).all (fun i => s.laneBad (f + i) || decide ((s.lane (f + i)).laneid.map (fun b => b.toNat) = some (g i)))
  if all (fun i => i) then some false else if all (fun i => w - 1 - i) then some true else none

/-- Judge the state of a link (R453). -/
def State.linkJudge (s : State) (f : Nat) : State :=
  let ls := (s.linkLanes f).filter (fun l => !s.laneBad l)
  let enough := decide (ls.length ≥ s.dataSlots f)
  let x := s.link f
  if x.st = 0 then if enough && ls.all (fun l => (s.lane l).lock) then s.setLink f { x with st := 1 } else s
  else if x.st = 1 then
    let same := match ls with
      | [] => false
      | l :: r => r.all (fun k => decide ((s.lane k).mseq = (s.lane l).mseq))
    if enough && ls.all (fun l => decide ((s.lane l).ok ≥ 2)) && same then
      match s.laneMapOk f with
      | some rev =>
        if x.maperr then s
        else if s.dalyel f then s.setLink f { x with st := 2, rev := rev, ptr := 0 }
        else (s.setLink f { x with st := 3, rev := rev, ptr := 0 }).setBits LANE_STATUS 2
      | none => s.setLink f { x with maperr := true }
    else s
  else if x.st = 2 then
    if ls.all (fun l => (s.lane l).alignok) then (s.setLink f { x with st := 3 }).setBits LANE_STATUS 2 else s
  else s

/-! Markers (R451, R452, R454, R464) -/

/-- Blocks between markers (R451). -/
def State.amPeriod (s : State) (f : Nat) : Nat := (fld (s.lrd f LANE_LPCFG) 23 20 + 1) * 1024

/-- Even parity over payload bits i, i + 8, ... -/
def bipOf (b : Byte) (w : DWord) : Byte := (dwBytes w).foldl (fun a x => a ^^^ x) b

/-- Number of ones of a byte. -/
def ones8 (b : Byte) : Nat := (List.range 8).countP (fun i => b.getLsbD i)

/-- The transmitter moves the data slots of lanes that two markers in a row have named failed to the lowest good spare (R464). -/
def State.moveSlots (s : State) (f : Nat) (both fmap : BitVec 16) : State :=
  let w := s.width f
  let a := s.dataSlots f
  let own (i : Nat) : Nat := if (s.link f).rev then w - 1 - i else i
  (List.range a).foldl (fun s j =>
    let at_ := smGet j (s.link f).txLane j
    if !(both.getLsbD (own at_)) then s
    else
      let used := (List.range a).map (fun k => smGet k (s.link f).txLane k)
      match (List.range w).find? (fun p => !used.contains p && !(fmap.getLsbD (own p))) with
      | none => s
      | some p =>
        ((s.setLink f { s.link f with txLane := smPut (s.link f).txLane j p }).setBits LANE_STATUS 4).record 0x60 1
          (natBytes 1 (f + at_) ++ natBytes 1 j ++ natBytes 1 (f + p))) s

/-- A marker is missing or wrong (R453, R454). -/
def State.markerMissed (s : State) (l : Nat) : State :=
  let x := s.lane l
  let s := s.setLane l { x with miss := x.miss + 1, ok := 0 }
  if x.miss + 1 ≥ 4 then s.laneFail l true else s

/-- A marker arrives on a lane of link `f` (R451-R454). -/
def State.marker (s : State) (f l : Nat) (w : DWord) : State :=
  let x := s.lane l
  let seq : Byte := BitVec.ofNat 8 (dfld w 31 24)
  let good := match x.mseq with
    | none => true
    | some q => decide (x.since + 1 = s.amPeriod f) && decide (seq = q + 1)
  let wrong := ones8 (x.bip ^^^ BitVec.ofNat 8 (dfld w 39 32))
  let judged := decide (x.mseq ≠ none) && good
  let s := if judged && decide (wrong > 0) then (s.lbump l LANE_BIPERR 1 wrong).statCount (676 + l) wrong else s
  let fmap := BitVec.ofNat 16 (dfld w 63 48)
  let ovr := if judged then (if wrong > fld (s.lrd f LANE_LCFG) 15 8 then x.bover + 1 else 0) else x.bover
  let s := s.setLane l { s.lane l with
    since := 0, bip := 0, mseq := some seq, laneid := some (BitVec.ofNat 4 (dfld w 11 8)), slot := BitVec.ofNat 4 (dfld w 15 12),
    fmap := fmap, alignok := decide (dfld w 40 40 = 1), bover := ovr, miss := if good then 0 else x.miss,
    ok := if good then x.ok + 1 else 0,
    fifo := if (s.link f).st.toNat < 2 ∨ x.slot.toNat ≠ dfld w 15 12 then [] else x.fifo }
  let s := if good then s else s.markerMissed l
  let s := if (s.lane l).failed && decide ((s.lane l).ok ≥ 16) && (s.lane l).lock then s.setLane l { s.lane l with failed := false } else s
  let s := if ovr ≥ 3 then s.laneFail l false else s
  let s := if dfld w 23 16 ≠ fld (s.lrd f LANE_LCFG) 7 0 ∧ (s.link f).st.toNat ≤ 1 then s.setLink f { s.link f with maperr := true } else s
  let s := if s.dalyel f then s.moveSlots f (x.fmap &&& fmap) fmap else s
  s.linkJudge f

/-! Reception of a block (R448-R452) -/

/-- A block takes its place among those of the lane: counted, and judged when a marker was due (R453). -/
def State.plainBlock (s : State) (f l : Nat) (b : LBlk) (w : DWord) : State :=
  let x := s.lane l
  let s := s.setLane l { x with since := x.since + 1, bip := bipOf x.bip w }
  let s := if decide (x.mseq ≠ none) && decide (x.since + 1 = s.amPeriod f) then
      let x := s.lane l
      (s.setLane l { x with since := 0, bip := 0, mseq := x.mseq.map (fun q => q + 1) }).markerMissed l
    else s
  let s := if (s.link f).st ≠ 0 && decide ((s.lane l).slot ≠ 15) then s.setLane l { s.lane l with fifo := (s.lane l).fifo ++ [b] } else s
  if (s.lane l).fifo.length > 48 ∧ (s.link f).st.toNat ≥ 2 then s.linkDown f
  else
    let s := if (s.link f).st.toNat < 2 then s.setLane l { s.lane l with fifo := (s.lane l).fifo.drop ((s.lane l).fifo.length - 48) } else s
    s.pump f (64 * s.width f)

/-- Header bookkeeping: block lock after 64 good headers, lost at 16 bad of 64 (R449). -/
def State.header (s : State) (l : Nat) (valid : Bool) : State :=
  let x := s.lane l
  let good := if valid then x.good + 1 else 0
  if !x.lock then s.setLane l { x with good := good, lock := decide (good ≥ 64), hist := 0, pwr := 0 }
  else
    let h := (x.hist <<< 1) ||| (if valid then 0 else 1)
    let n := (List.range 64).countP (fun i => h.getLsbD i)
    let s := s.setLane l { x with hist := h, good := Nat.min 64 good, pwr := 0 }
    if n ≥ 16 then
      (s.setLane l { s.lane l with lock := false, good := 0, hist := 0, mseq := none, ok := 0, fifo := [] }).laneFail l true
    else s

/-- A complemented payload that is a marker: the lane's input is inverted (R452). -/
def invMarker (w : DWord) : Bool := decide (dfld (~~~w) 7 0 = 0xB4) && decide (dfld (~~~w) 47 41 = 0)

/-- A lane takes no blocks: held by IO_RESET_N, under a pattern test, or not powered (R455, R465). -/
def State.laneDeaf (s : State) (l : Nat) : Bool := s.pins.ioRst || s.prbsOn l || decide (s.dom (domLane l) ≠ .on)

/-- A lane receives a block (R448-R452): header bits in the order sent, bit 0 first, and the payload as the receiver decodes it. -/
def State.laneRx (s : State) (l : Nat) (hdr : BitVec 2) (w : DWord) : State :=
  if s.laneDeaf l then s
  else
    let valid := decide (hdr = 1) || decide (hdr = 2)
    let s := s.header l valid
    match s.linkOf l with
    | none => s
    | some f =>
      let s := s.linkJudge f
      let x := s.lane l
      if !x.lock then s
      else if hdr = 1 ∧ dfld w 7 0 = 0xB4 then s.marker f l w
      else if hdr = 2 && !x.polinv && invMarker w && (decide (x.mseq = none)) then
        if x.since + 1 = s.amPeriod f then (s.setLane l { x with polinv := true }).marker f l (~~~w)
        else s.setLane l { x with since := 0 }
      else s.plainBlock f l (if hdr = 2 then .data w else if hdr = 1 then .ctl w else .bad) w

/-- A block command names a lane of the 48. -/
def laneRow (l : Nat) (f : State → State) (s : State) : Res' := if decide (l < 48) then .next (f s) else .fault .noSuchUnit

/-- A payload with its type. -/
def typed (w : DWord) (t : Nat) : DWord := (w &&& ~~~0xFF#64) ||| BitVec.ofNat 64 t

/-- DATA_BLOCK (R448). -/
def execDataBlock (lane : Nat) (hdr : BitVec 2) (w : DWord) (s : State) : Res' := laneRow lane (fun s => s.laneRx lane hdr w) s
/-- IDLE (R450). -/
def execLaneIdle (lane : Nat) (s : State) : Res' := laneRow lane (fun s => s.laneRx lane 1 0x1E#64) s
/-- SLEEP (R456): the lane's receiver keeps lock and alignment in HAZE. -/
def execLaneSleep (lane : Nat) (s : State) : Res' :=
  laneRow lane (fun s =>
    let t := s.laneRx lane 1 0x33#64
    if (t.lane lane).lock && !s.laneDeaf lane then t.setLane lane { t.lane lane with pwr := 1 } else t) s
/-- START (R458). -/
def execLaneStart (lane : Nat) (w : DWord) (s : State) : Res' := laneRow lane (fun s => s.laneRx lane 1 (typed w 0x78)) s
/-- TERM (R458). -/
def execLaneTerm (lane : Nat) (w : DWord) (s : State) : Res' := laneRow lane (fun s => s.laneRx lane 1 (typed w 0x87)) s
/-- XOFF (R460). -/
def execLaneXoff (lane : Nat) (s : State) : Res' := laneRow lane (fun s => s.laneRx lane 1 0x2D#64) s
/-- XON (R460). -/
def execLaneXon (lane : Nat) (s : State) : Res' := laneRow lane (fun s => s.laneRx lane 1 0x2E#64) s
/-- DFRAME (R463). -/
def execLaneDframe (lane : Nat) (w : DWord) (s : State) : Res' := laneRow lane (fun s => s.laneRx lane 1 (typed w 0x55)) s
/-- DEND (R463). -/
def execLaneDend (lane : Nat) (w : DWord) (s : State) : Res' := laneRow lane (fun s => s.laneRx lane 1 (typed w 0x66)) s
/-- MARKER (R451). -/
def execLaneMarker (lane : Nat) (w : DWord) (s : State) : Res' := laneRow lane (fun s => s.laneRx lane 1 (typed w 0xB4)) s

/-! Egress (R456, R461-R463) -/

/-- The link sends again: HAZE ends (R456). -/
def State.hazeEnd (s : State) (f : Nat) : State :=
  if (s.link f).hazeTx then
    (s.linkLanes f).foldl (fun s l => s.setLane l { s.lane l with pwr := 0 }) (s.setLink f { s.link f with hazeTx := false })
  else s

/-- The egress of a link may take tokens from its queue: UP, not reset, CONS = 0b01, and the way from the queue engine open (R24). -/
def State.egressOk (s : State) (f : Nat) : Bool :=
  s.linkEn f && decide ((s.link f).st = 3) && !s.pins.ioRst && decide ((s.qrec (linkQueue s f)).cons = 1) &&
  s.oneWay (queuePort (linkQueue s f)) (lanePort f)

/-- End the frame being sent: the CRC, or its complement for a damaged frame (R461). -/
def State.egTerm (s : State) (f : Nat) : State :=
  match (s.link f).eg with
  | none => s
  | some x =>
    let c := crc32c (x.sent.reverse.flatMap dwBytes)
    let c := if x.bad then ~~~c else c
    (s.setLink f { s.link f with eg := none }).linkSend f true (BitVec.ofNat 64 (0x87 + c.toNat * 2 ^ 8))

/-- Send tokens of the frame in progress until the queue is empty or the frame ends (R461). -/
def State.egTokens (s : State) (f : Nat) : Nat → State
  | 0 => s
  | n + 1 =>
    let q := linkQueue s f
    match s.qPeek q ((s.qrec q).depth + 1) with
    | (s, none) => s
    | (s, some t) =>
      match (s.link f).eg with
      | none => s
      | some x =>
        let i := x.sent.length
        if i < 256 ∧ t.inst = x.inst + BitVec.ofNat 24 (i / 16) ∧ t.port.toNat = i % 16 then
          let s := ((s.qDrop q).countFlits (lanePort f) 1).setLink f { s.link f with eg := some { x with
            sent := t.value :: x.sent
            bad := x.bad || t.poison || decide (t.kind = .error) } }
          let s := { s with lanes := { s.lanes with links := smSet Link.zero s.lanes.links f { s.link f with sent := (s.link f).sent ++ [(false, t.value)] } } }
          s.egTokens f n
        else s.egTerm f

/-- A raw egress sends (R461): a frame in progress goes on; otherwise the head token begins one, when its PORT is 0 (log entry 28). -/
def State.rawEgress (s : State) (f : Nat) : State :=
  if !s.egressOk f || s.dalyel f then s
  else
    let q := linkQueue s f
    let s := if (s.qrec q).depth = 0 then s else s.hazeEnd f
    match (s.link f).eg with
    | some _ => s.egTokens f ((s.qrec q).depth + 1)
    | none =>
      if (s.link f).xoffRx then s
      else match s.qPeek q ((s.qrec q).depth + 1) with
        | (s, none) => s
        | (s, some t) =>
          if t.port ≠ 0 then s
          else
            let s := s.setLink f { s.link f with eg := some { inst := t.inst, sent := [], bad := false } }
            let s := s.linkSend f true (BitVec.ofNat 64 (0x78 + fld (s.lrd f LANE_LCFG) 22 19 * 2 ^ 8 + t.inst.toNat * 2 ^ 16))
            s.egTokens f ((s.qrec q).depth + 1)

/-- RAW_EGRESS_FRAME (R461). -/
def execRawEgressFrame (lane : Nat) (s : State) : Res' := laneRow lane (fun s => s.rawEgress lane) s

/-- RAW_EGRESS_EMPTY_TIMEOUT (R461). -/
def execRawEgressEmptyTimeout (lane : Nat) (s : State) : Res' :=
  laneRow lane (fun s => if (s.qrec (linkQueue s lane)).depth = 0 then s.egTerm lane else s) s

/-- Send one Dalyel frame of the given tokens (R462, R463); the link leaves HAZE for it (R456). -/
def State.dalSend (s : State) (f : Nat) (ts : List Token) : State :=
  let s := s.hazeEnd f
  let x := s.link f
  let h := BitVec.ofNat 64 (0x55 + ((x.base + BitVec.ofNat 16 x.tpos).toNat) * 2 ^ 8 + x.ackSeq.toNat * 2 ^ 24 + 4096 * 2 ^ 40 + ts.length * 2 ^ 56 +
    Bool.bit x.retry * 2 ^ 60)
  let ws := ts.flatMap (fun t => [BitVec.ofNat 64 (tokenNat t / 2 ^ 64), BitVec.ofNat 64 (tokenNat t)])
  let c := crc32c ((dwBytes h).drop 1 ++ ws.flatMap dwBytes)
  s.setLink f { x with
    retry := false,
    sent := x.sent ++ [(true, h)] ++ ws.map (fun w => (false, w)) ++ [(true, BitVec.ofNat 64 (0x66 + c.toNat * 2 ^ 8))] }

/-- Read entries of a queue beyond its head without taking them, up to `n`, ending before one that cannot be read (R462). -/
def State.qRead (s : State) (q i : Nat) : Nat → State × List Token
  | 0 => (s, [])
  | n + 1 =>
    let r := s.qrec q
    if i ≥ r.depth then (s, [])
    else match s.memRead .agent (r.entry i) 16 with
      | (s, .ok, bs) =>
        let x := s.qRead q (i + 1) n
        (x.1, tokenOf (bytesNat bs) :: x.2)
      | (s, _, _) => (s, [])

/-- A Dalyel transmitter sends a frame: the next unsent one, or a new one within its credit (R462, R463). -/
def State.dalTransmit (s : State) (f : Nat) : State :=
  if !s.egressOk f || !s.dalyel f then s
  else
    let q := linkQueue s f
    let s := (s.qPeek q ((s.qrec q).depth + 1)).1
    let x := s.link f
    let before := ((x.cnts.take x.tpos).foldl (· + ·) 0)
    if x.tpos < x.cnts.length then
      let y := s.qRead q before (x.cnts.getD x.tpos 0)
      let s := y.1.dalSend f y.2
      s.setLink f { s.link f with tpos := x.tpos + 1 }
    else
      let k := Nat.min 8 (x.credit - before)
      match s.qRead q before k with
      | (s, []) => s
      | (s, ts) =>
        let s := (s.countFlits (lanePort f) ts.length).dalSend f ts
        s.setLink f { s.link f with cnts := x.cnts ++ [ts.length], tpos := x.tpos + 1 }

/-- DALYEL_TRANSMIT (R462). -/
def execDalyelTransmit (lane : Nat) (s : State) : Res' := laneRow lane (fun s => s.dalTransmit lane) s

/-- DALYEL_RESEND_TIMEOUT (R463). -/
def execDalyelResendTimeout (lane : Nat) (s : State) : Res' :=
  laneRow lane (fun s => if s.linkEn lane && s.dalyel lane then s.setLink lane { s.link lane with tpos := 0 } else s) s

/-- DALYEL_ACK_FRAME (R463). -/
def execDalyelAckFrame (lane : Nat) (s : State) : Res' :=
  laneRow lane (fun s =>
    if s.linkEn lane && s.dalyel lane && decide ((s.link lane).st = 3) && !s.pins.ioRst then
      let s := s.dalPlace lane ((s.link lane).rx.length + 1)
      s.dalSend lane []
    else s) s

/-- HAZE_ENTRY (R456). -/
def execHazeEntry (lane : Nat) (s : State) : Res' :=
  laneRow lane (fun s =>
    if s.linkEn lane && decide ((s.link lane).st = 3) && decide (fld (s.lrd lane LANE_LPCFG) 19 0 ≠ 0) &&
        (s.dalyel lane || tb (s.lrd lane LANE_LCFG) 24) && !(s.link lane).hazeTx && (s.link lane).eg.isNone &&
        decide ((s.qrec (linkQueue s lane)).depth = 0) then
      let s := (s.setLink lane { s.link lane with hazeTx := true }).linkSend lane true 0x33#64
      (s.linkLanes lane).foldl (fun s l => s.setLane l { s.lane l with pwr := 1 }) s
    else s) s

/-- DUSK_ENTRY (R456). -/
def execDuskEntry (lane : Nat) (s : State) : Res' :=
  laneRow lane (fun s =>
    let f := (s.linkOf lane).getD lane
    if (s.lane lane).pwr = 1 ∧ fld (s.lrd f LANE_LPCFG) 31 24 ≠ 0 then s.setLane lane { s.lane lane with pwr := 2 } else s) s

/-! Configuration writes (R446, R447, R455, R472) -/

/-- A write that enables link `f` with configuration word `v` is accepted (R447). -/
def State.lcfgOk (s : State) (f : Nat) (v : Word) : Bool :=
  let w := 2 ^ fld v 29 27
  decide (fld v 29 27 ≤ 4) && decide (f % w = 0) && decide (f + w ≤ 48) && decide (fld v 26 25 ≤ 2) && decide (fld v 26 25 < w) &&
  (tb v 30 || decide (fld v 26 25 = 0)) &&
  (List.range w).all (fun i => decide (s.rate (f + i) = s.rate f) && (s.linkOf (f + i)).isNone)

/-- A write of LANE_LCFG of lane `f` (R447, R472): other fields are written only while EN is 0. -/
def State.lcfgWrite (s : State) (f : Nat) (v : Word) : State :=
  if s.linkEn f then
    if tb v 31 then s
    else (s.linkDown f).lwr f LANE_LCFG (s.lrd f LANE_LCFG &&& 0x7FFFFFFF#32)
  else if tb v 31 && !s.lcfgOk f v then s.setBits LANE_STATUS 32
  else s.lwr f LANE_LCFG (v &&& 0xFFF8FFFF#32)

/-- The lane an interface has selected. -/
def State.lsel (s : State) (i : Iface) : Nat := fld (s.sel i LANE_SEL) 5 0

/-- LANE_LCFG_WRITE (R447); a selection above 47 names no lane and is ignored with CFGERR. -/
def execLaneLcfgWrite (i : Iface) (v : Word) (s : State) : Res' :=
  .next ((if s.lsel i < 48 then s.lcfgWrite (s.lsel i) v else s.setBits LANE_STATUS 32).answer i .ok [])

/-- A write of LANE_GRATEg (R446). -/
def State.grateWrite (s : State) (g : Nat) (v : Word) : State :=
  let r := fld v 14 0
  if (List.range 4).any (fun j => (s.linkOf (4 * g + j)).isSome) || !(decide (r = 0) || (decide (1250 ≤ r) && decide (r ≤ 32000))) then
    s.setBits LANE_STATUS 32
  else s.wr (LANE_GRATE g) (BitVec.ofNat 32 r)

/-- LANE_GRATE_WRITE (R446). -/
def execLaneGrateWrite (g : Nat) (v : Word) (s : State) : Res' := if decide (g < 12) then .next (s.grateWrite g v) else .fault .noSuchUnit

/-- INJ (R455): one transmitted bit is inverted. -/
def State.injBit (s : State) (l : Nat) : State := s.setLane l { s.lane l with inj := (s.lane l).inj + 1 }
/-- INJ (R455). -/
def execLaneInj (lane : Nat) (s : State) : Res' := laneRow lane (fun s => s.injBit lane) s

/-- A write of LANE_PRBS of a lane (R455): a lane with TXEN or RXEN counts as failed. -/
def State.prbsWrite (s : State) (l : Nat) (v : Word) : State :=
  let r := fld v 4 0
  let bad := !(decide (r = 0) || (decide (10 ≤ r) && decide (r ≤ 30)))
  let old := s.lrd l LANE_PRBS
  let s := s.lwr l LANE_PRBS (if bad then (v &&& 0xF0000000#32) ||| (old &&& 0x1F#32) else v &&& 0xF000001F#32)
  let s := if bad then s.setBits LANE_STATUS 32 else s
  let s := if tb v 27 then s.injBit l else s
  let s := if tb v 30 && !tb old 30 then s.setLane l { s.lane l with prbs := 0, seen := 0, run := 0, rxlock := false } else s
  if tb v 31 || tb v 30 then s.laneFail l true else s

/-- Taps of a pattern (R455). -/
def prbsTaps (pat : Nat) : Nat × Nat :=
  match pat with
  | 0 => (7, 6)
  | 1 => (15, 14)
  | 2 => (23, 18)
  | _ => (31, 28)

/-- The checker takes one bit (R455): it seeds itself, locks after 64 correct bits, then runs free and counts wrong bits. -/
def State.prbsBit (s : State) (l : Nat) (b : Bool) : State :=
  let x := s.lane l
  let tp := prbsTaps (fld (s.lrd l LANE_PRBS) 29 28)
  let want := x.prbs.getLsbD (tp.1 - 1) != x.prbs.getLsbD (tp.2 - 1)
  let push (y : Bool) : BitVec 31 := (x.prbs <<< 1) ||| (if y then 1 else 0)
  if x.seen < tp.1 then s.setLane l { x with prbs := push b, seen := x.seen + 1 }
  else if x.rxlock then
    let s := s.setLane l { x with prbs := push want }
    if b = want then s else s.lbump l LANE_PRBSERR 0 1
  else
    let n := if b = want then x.run + 1 else 0
    s.setLane l { x with prbs := push b, run := n, rxlock := decide (n ≥ 64) }

/-- PRBS_RECEIVE (R455). -/
def execPrbsReceive (lane : Nat) (bits : List Bool) (s : State) : Res' :=
  laneRow lane (fun s =>
    if tb (s.lrd lane LANE_PRBS) 30 && !s.pins.ioRst && decide (s.dom (domLane lane) = .on) then bits.foldl (fun s b => s.prbsBit lane b) s else s) s

/-- A write of an ingress descriptor's first word: a KIND of 0b10 is ignored with CFGERR, so that the field keeps its value (R472, log entry 32). -/
def State.idescWrite (s : State) (l a : Nat) (v : Word) : State :=
  if fld v 29 28 = 2 then (s.lwr l a ((v &&& 0xCEFFF000#32) ||| (s.lrd l a &&& 0x30000000#32))).setBits LANE_STATUS 32
  else s.lwr l a (v &&& 0xFEFFF000#32)

/-- IO_RESET_N falls (R465): every link is DOWN, raw buffers discarded, a frame in progress damaged. -/
def State.linksReset (s : State) : State :=
  ((List.range 48).filter (fun f => s.linkEn f)).foldl (fun s f => (s.setLink f { s.link f with rbuf := [] }).linkDown f) s

/-- Retry what links hold for their sinks. -/
def State.linksRetry (s : State) : State :=
  ((List.range 48).filter (fun f => s.linkEn f)).foldl (fun s f =>
    if s.dalyel f then s.dalPlace f ((s.link f).rx.length + 1) else s.rawPlace f) s

end Sys2Proof.Machine
end

