-- ==== Sys2Proof/Machine/Power.lean ====
section
/-! DEFINITION. Power domains (R416, R418-R421, R427): requests, the steps by which a domain leaves ON, cluster sleep and waking. -/

namespace Sys2Proof.Machine

/-! PWR_DRES (R427): each interface's word holds RESULT in bits 2:0, the domain in bits 18:8, the request in bits 25:24 -/

/-- Settle the pending results for a domain and a request. -/
def State.dresSet (s : State) (d req res : Nat) : State :=
  { s with ifc := { s.ifc with sel := s.ifc.sel.map (fun e =>
    if e.1 % 2 ^ 48 = PWR_DRES ∧ fld e.2 2 0 = 1 ∧ fld e.2 18 8 = d ∧ fld e.2 25 24 = req then (e.1, BitVec.ofNat 32 (res + d * 2 ^ 8 + req * 2 ^ 24))
    else e) } }

/-- A domain has reached ON, or its deepest state: the requests for it are done. -/
def State.dresDone (s : State) (d : Nat) (on : Bool) : State := s.dresSet d (if on then 1 else 2) 0

/-- PWR_DCTL.REQ of a domain. -/
def State.pwrReq (s : State) (d : Nat) : Nat := (smGet 0 s.pwr.req d).toNat

/-- PWR_DCTL.STATE. -/
def domCode : DomSt → Nat
  | .on => 0
  | .cirrus => 1
  | .stratus => 2
  | .nimbus => 3
  | .off => 4
  | .switching => 5

/-! Cluster sleep (R420, R421) -/

/-- A cluster is idle for placement, runs no task and holds no entry (R420). -/
def State.sleepIdle (s : State) (c : Nat) : Bool :=
  decide ((s.cluster c).run = none) && !s.placedOn c && !s.fenced c && !s.held c && s.dsp.claims.all (fun k => !k.clusters.contains c) &&
  decide ((s.cluster c).cb = []) && !s.pwr.waking.contains c

/-- No plane is FILLING or reserved, so that power may go (R420). -/
def State.planesQuiet (s : State) (c : Nat) : Bool :=
  physPlanes.all (fun p => decide ((s.plane c p).st ≠ .filling) && decide ((s.plane c p).resv = none))

/-- The port of the cluster holds nothing for it and it has nothing outstanding: from DRAIN it passes through DRAINED to OFF as steps 1 to 4 of R419 follow
each other (log entry 72). -/
def State.portIdle (s : State) (c : Nat) : Bool :=
  !(s.cluster c).loadsOut && s.noc.pkts.all (fun p => !(decide (p.h.dst = clusterPort c) && decide (p.net = (clusterPort c).net) && decide (p.node = (clusterPort c).node)))

/-- The deepest state PWR_RDEEP allows the region of a cluster: 0 ON to 3 NIMBUS. -/
def State.deepest (s : State) (c : Nat) : Nat :=
  let r := regionIdx c
  fld (s.rd (PWR_RDEEP (r / 16))) (2 * (r % 16) + 1) (2 * (r % 16))

/-- Power leaves the memory, response slots and cells of a cluster (R418). -/
def State.clusterDark (s : State) (c : Nat) : State :=
  let s := (List.range 32).foldl (fun s k => s.setCell c k Cell.zero) s
  let s := s.dropLoads c (fun _ => true)
  (s.setCluster c { s.cluster c with slots := [], rlds := [], mem := [], written := [], memMark := [], memLost := true, entry := [] }).setPort (clusterPort c) .off

/-- Enter NIMBUS: the planes go too (R105, R418). -/
def State.toNimbus (s : State) (c : Nat) : State := ((((s.clusterDark c).invalidateAll c).setDom c .nimbus).pinScan (busOf c)).dresDone c false

/-- The conditions of a direct entry by REQ = OFF hold (R420). -/
def State.offNow (s : State) (c : Nat) : Bool :=
  decide (s.pwrReq c = 2) && s.sleepIdle c && s.planesQuiet c && decide (s.dom c ≠ .nimbus)

/-- A cluster takes the steps of R419: while its port is not empty it stays in DRAIN, and the entry goes on when it has drained. -/
def State.sleepBy (s : State) (c : Nat) (enter : State → State) : State :=
  if s.portIdle c then enter (s.seqOver c)
  else if s.pwr.leaving.contains c ∨ s.pwr.gating.contains c then s
  else { s with pwr := { s.pwr with leaving := s.pwr.leaving ++ [c] } }.portDrain (clusterPort c)

/-- CIRRUS_ENTRY (R420). -/
def execCirrusEntry (c : Nat) (s : State) : Res' :=
  if !decide (c < 1024) then .fault .noSuchUnit
  else .next (if s.dom c = .on ∧ s.sleepIdle c ∧ s.pwrReq c = 0 ∧ s.deepest c ≥ 1 then s.setDom c .cirrus else s)

/-- STRATUS_ENTRY (R419, R420). -/
def execStratusEntry (c : Nat) (s : State) : Res' :=
  if !decide (c < 1024) then .fault .noSuchUnit
  else .next (if s.dom c = .cirrus ∧ s.sleepIdle c ∧ s.pwrReq c = 0 ∧ s.deepest c ≥ 2 ∧ s.planesQuiet c then
    s.sleepBy c (fun s => (s.clusterDark c).setDom c .stratus) else s)

/-- NIMBUS_ENTRY (R419, R420): after the dwell in STRATUS, or as REQ = OFF asks. -/
def execNimbusEntry (c : Nat) (s : State) : Res' :=
  if !decide (c < 1024) then .fault .noSuchUnit
  else .next (if s.offNow c then s.sleepBy c (fun s => s.toNimbus c)
    else if s.dom c = .stratus ∧ s.sleepIdle c ∧ s.pwrReq c = 0 ∧ s.deepest c ≥ 3 ∧ s.planesQuiet c ∧ !(s.pin c 0).en ∧ !(s.pin c 1).en then s.toNimbus c
    else s)

/-- The wake on its way ends. -/
def State.wakeOver (s : State) (d : Nat) : State := { s with pwr := { s.pwr with waking := s.pwr.waking.filter (fun x => decide (x ≠ d)) } }

/-- A woken cluster reaches ON (R421). -/
def State.clusterOn (s : State) (c : Nat) : State :=
  let s := ((s.wakeOver c).setDom c .on).bump PWR_WAKES PWR_CNTOVF 0
  let s := (s.portWake (clusterPort c)).portUp (clusterPort c)
  ((s.pinScan (busOf c)).dresDone c true).measureDue

/-- CLUSTER_WAKE (R421). -/
def execClusterWake (c : Nat) (s : State) : Res' :=
  if !decide (c < 1024) then .fault .noSuchUnit
  else .next (if s.pwr.waking.contains c ∧ (s.dom c = .stratus ∨ s.dom c = .nimbus) then s.clusterOn c else s)

/-! Other domains (R418, R419) -/

/-- The sequence ends and the domain stays ON (R419); its port takes packets again. -/
def State.seqCancel (s : State) (d : Nat) : State :=
  let s := s.seqOver d
  match domPort d with
  | some q => s.portWake q
  | none => s

/-- A switch-off is refused: REFUSE_EV, and PWR_DRES tells why (R419, R427). -/
def State.pwrRefuse (s : State) (d res : Nat) : State := ((s.seqCancel d).setBits PWR_STATUS 2).dresSet d 2 res

/-- The port of a domain has drained, so its gate is asked to close (R419 steps 1 to 3). -/
def State.domDrained (s : State) (d : Nat) : State :=
  if s.pwr.leaving.contains d then
    let s := s.seqOver d
    { s with pwr := { s.pwr with gating := s.pwr.gating ++ [d] } }
  else s

/-- A channel whose power stays on while a valid region exists (R278). -/
def State.regionsHold (s : State) (d : Nat) : Bool := decide (1456 ≤ d) && decide (d < 1472) && s.ddr.regions.any (fun e => e.2.valid)

/-- OFF is asked of a domain other than a cluster (R419, R278). -/
def State.domOffReq (s : State) (d : Nat) : State :=
  if s.dom d = .off then s.dresDone d false
  else if s.dom d = .switching ∨ s.pwr.leaving.contains d ∨ s.pwr.gating.contains d then s
  else if s.regionsHold d then s.pwrRefuse d 4
  else
    let s := { s with pwr := { s.pwr with leaving := s.pwr.leaving ++ [d] } }
    match domPort d with
    | some q => s.portDrain q
    | none => s.domDrained d

/-- ON is asked of such a domain, or an access wakes it (R419, R236). -/
def State.domOnReq (s : State) (d : Nat) : State :=
  match s.dom d with
  | .on => ((s.wakeOver d).seqCancel d).dresDone d true
  | .off =>
    match domPort d with
    | some q => (s.wakeDom d).portWake q
    | none => (s.setDom d .on).dresDone d true
  | _ => s.wakeDom d

/-- A slice is cleaned, its lines and locked ways gone (R221). False while a line could not be written back. -/
def State.sliceOff (s : State) (sl : Nat) : State × Bool :=
  let mine (k : Nat) (_ : CLine) : Bool := decide (keySlice k = sl)
  let s := s.treatLines true true mine
  if s.cache.lines.any (fun e => mine e.1 e.2 && decide (e.2.d ≠ 0)) then (s, false)
  else
    let s := s.treatLines false true mine
    ({ s with
      ecc := { s.ecc with merge := s.ecc.merge.filter (fun e => decide (e.unit ≠ unitCache sl)) }
      cache := { s.cache with
        lock := smDel s.cache.lock sl, trans := smDel s.cache.trans sl
        arr := smDrop (fun i => decide (i / 2 ^ 20 = sl)) s.cache.arr
        marks := smDrop (fun i => decide (i / 2 ^ 17 = sl)) s.cache.marks } }, true)

/-- A sector's buffered rows are written out (R419 step 2). -/
def State.sectorOff (s : State) (k : Nat) : State × Bool :=
  if s.garnetShut then (s, decide (s.sectorRows k = [])) else ((s.sectorRows k).foldl (fun s x => s.rowOut x true) s, true)

/-- Step 2 of R419. -/
def State.domPrepare (s : State) (d : Nat) : State × Bool :=
  if 1024 ≤ d ∧ d < 1280 then s.sliceOff (d - 1024)
  else if 1472 ≤ d ∧ d < 1480 then s.sectorOff (d - 1472)
  else (s, true)

/-- CLOCK_GATE_CLOSE (R416, R419): the gate of a domain that is leaving ON closes and step 4 begins, unless a wake request has come; that of a cluster
closes as its entry is taken, and any other gate has no state. -/
def execClockGateClose (dom : Nat) (s : State) : Res' :=
  if !decide (dom ≤ 1482) then .fault .noSuchUnit
  else .next (if s.pwr.gating.contains dom && decide (1024 ≤ dom) then
      if s.regionsHold dom then s.pwrRefuse dom 4 else
      if s.pwr.waking.contains dom then (s.wakeOver dom).seqCancel dom else
      let x := s.domPrepare dom
      if x.2 then (x.1.seqOver dom).setDom dom .switching else x.1
    else s)

/-- CG_TIMEOUT (R416, R419). -/
def execCgTimeout (dom : Nat) (s : State) : Res' :=
  if !decide (dom ≤ 1482) then .fault .noSuchUnit
  else
    let t := (s.bump CLK_CGTO CLK_CNTOVF 0).setBits CLK_STATUS 2
    .next (if s.pwr.gating.contains dom ∨ (dom < 1024 ∧ (s.pwrReq dom = 2 ∨ s.dom dom = .cirrus ∨ s.dom dom = .stratus)) then t.pwrRefuse dom 3 else t)

/-- What is lost with a domain (R418). -/
def State.domLost (s : State) (d : Nat) : State :=
  if 1280 ≤ d ∧ d < 1408 then
    let n := d - 1280
    { s with
      spad := { s.spad with arr := smDrop (fun i => decide (i / 2 ^ 19 = n)) s.spad.arr, marks := smDrop (fun i => decide (i / 2 ^ 16 = n)) s.spad.marks, lost := smDel s.spad.lost n }
      ecc := { s.ecc with merge := s.ecc.merge.filter (fun e => decide (e.unit ≠ unitSpad n)) } }
  else if 1408 ≤ d ∧ d < 1456 then
    (s.laneFail (d - 1408) true).setLane (d - 1408) { Lane.zero with failed := true }
  else if 1456 ≤ d ∧ d < 1472 then
    { s with ddr := { s.ddr with dram := [], chk := [], marks := [], scr := [(0, 2 ^ 36)], epoch := s.freeCtr + 1, ready := false, pdown := [] },
             freeCtr := s.freeCtr + 1 }
  else s

/-- A domain is off (R419 step 4); a wake that came meanwhile begins at once. -/
def State.domOff (s : State) (d : Nat) : State :=
  let s := (s.domLost d).setDom d .off
  let s := match domPort d with
    | some q => s.setPort q .off
    | none => s
  let s := s.dresDone d false
  if s.pwr.waking.contains d then (s.wakeOver d).domOnReq d else s

/-- DOMAIN_SWITCH_OFF (R419). -/
def execDomainSwitchOff (dom : Nat) (s : State) : Res' :=
  if !decide (dom ≤ 1482) then .fault .noSuchUnit else .next (if s.dom dom = .switching then if s.regionsHold dom then (s.pwrRefuse dom 4).setDom dom .on else s.domOff dom else s)

/-- The port of a waking domain is READY: the domain is ON (R210). -/
def State.domReady (s : State) (d : Nat) : State := if s.dom d = .off then ((s.wakeOver d).setDom d .on).dresDone d true else s

/-! Register writes (R427) -/

/-- The domain an interface has selected. -/
def State.dsel (s : State) (i : Iface) : Nat := fld (s.sel i PWR_DSEL) 10 0

/-- A write of PWR_DSEL. -/
def State.dselWrite (s : State) (i : Iface) (v : Word) : State :=
  if fld v 10 0 > 1482 then s.setBits PWR_STATUS 4 else s.setSel i PWR_DSEL (BitVec.ofNat 32 (fld v 10 0))

/-- PWR_DSEL_WRITE (R427). -/
def execPwrDselWrite (i : Iface) (v : Word) (s : State) : Res' := .next ((s.dselWrite i v).answer i .ok [])

/-- REQ of a cluster is written (R420). -/
def State.clusterReq (s : State) (d req : Nat) : State :=
  if req = 1 then
    let t := s.clusterWakeReq d
    if decide (t.dom d = .on) then t.dresDone d true else t
  else if req = 2 then
    if decide (s.dom d = .nimbus) then s.dresDone d false
    else if s.offNow d then s.sleepBy d (fun s => s.toNimbus d) else s
  else s

/-- A write of PWR_DCTL.REQ: 0 AUTO, 1 ON, 2 OFF. -/
def State.dctlWrite (s : State) (i : Iface) (req : Nat) : State :=
  let d := s.dsel i
  if d ≥ 1480 ∨ req ≥ 3 then s.setBits PWR_STATUS 4
  else
    let s := { s with pwr := { s.pwr with req := smSet 0 s.pwr.req d (BitVec.ofNat 2 req) } }
    let s := s.setSel i PWR_DRES (BitVec.ofNat 32 ((if req = 0 then 0 else 1) + d * 2 ^ 8 + req * 2 ^ 24))
    if d < 1024 then s.clusterReq d req
    else if req = 2 then s.domOffReq d
    else s.domOnReq d

/-- PWR_REQ_AUTO (R427). -/
def execPwrReqAuto (i : Iface) (s : State) : Res' := .next ((s.dctlWrite i 0).answer i .ok [])
/-- PWR_REQ_ON (R420). -/
def execPwrReqOn (i : Iface) (s : State) : Res' := .next ((s.dctlWrite i 1).answer i .ok [])
/-- PWR_REQ_OFF (R420). -/
def execPwrReqOff (i : Iface) (s : State) : Res' := .next ((s.dctlWrite i 2).answer i .ok [])

/-- A write of PWR_CPOL (R427). -/
def State.cpolWrite (s : State) (v : Word) : State :=
  if fld v 28 24 < 8 ∨ fld v 28 24 > 30 ∨ fld v 20 16 < 8 ∨ fld v 20 16 > 30 then s.setBits PWR_STATUS 4 else s.wr PWR_CPOL (v &&& 0x1F1F00FF#32)

/-- PWR_CPOL_WRITE (R427). -/
def execPwrCpolWrite (v : Word) (s : State) : Res' := .next (s.cpolWrite v)

end Sys2Proof.Machine
end

