-- ==== Sys2Proof/Machine/SecCmd.lean ====
section
/-! DEFINITION. Changes that need two authorities: keys, authorities, fuse policy, region policy, scan (R389-R408). -/

namespace Sys2Proof.Machine

/-! Key programming (R404) -/

/-- The key-wrapping key of the session with a host's ephemeral point. -/
def State.wrapKey (s : State) (point : List Byte) : BitVec 256 :=
  BitVec.ofNat 256 (Config.sha384 (Config.ecdh s.sec.sess.eph point ++ s.secNonce)).toNat

/-- The key bytes SEC_DATA delivers; none where their integrity check fails. -/
def State.unwrapped (s : State) (data : List Byte) : Option (List Byte) := Config.keyUnwrap (s.wrapKey (data.take 96)) (data.drop 96)

/-- Some hash slot but `slot` is programmed and not revoked. -/
def State.otherHash (s : State) (slot : Nat) : Bool :=
  s.sec.hash.any (fun e => decide (e.1 ≠ slot) && !s.sec.hashRev.getLsbD e.1)

/-- SEC_KEYPROG with its data, under the session `s` still holds; none where the cause given refuses it (R404). -/
def State.keyProg (s : State) (v : Word) (data : List Byte) : Sum Nat Sec :=
  let slot := fld v 3 0
  let put (f : Nat → Sec) : Sum Nat Sec :=
    match s.unwrapped data with
    | none => .inl 10
    | some k => .inr (f (bytesNat k))
  match fld v 31 28 with
  | 1 => if slot > 3 then .inr s.sec
    else if (smFind s.sec.imgE slot).isSome then .inl 11
    else put (fun k => { s.sec with imgE := smPut s.sec.imgE slot (BitVec.ofNat 256 k) })
  | 2 => if slot > 3 then .inr s.sec else put (fun k => { s.sec with imgB := smPut s.sec.imgB slot (BitVec.ofNat 256 k) })
  | 3 => if slot > 7 then .inr s.sec
    else if slot % 2 = 0 ∧ (smFind s.sec.mzKey slot).isSome then .inl 11
    else put (fun k => { s.sec with mzKey := smPut s.sec.mzKey slot (BitVec.ofNat 128 k) })
  | 4 => if slot > 3 then .inr s.sec
    else if (smFind s.sec.hash slot).isSome then .inl 11
    else .inr { s.sec with hash := smPut s.sec.hash slot (BitVec.ofNat 384 (bytesNat (data.take 48))) }
  | 5 => if slot > 3 then .inr s.sec
    else if decide (s.sec.hash ≠ []) && !s.otherHash slot then .inl 12
    else .inr { s.sec with hashRev := s.sec.hashRev ||| BitVec.ofNat 4 (2 ^ slot) }
  | _ => .inr s.sec

/-! Authorities (R405) -/

/-- Authorities enrolled and not revoked, but for one. -/
def State.liveAuths (s : State) (but : Nat) : Nat := (s.sec.auth.filter (fun e => decide (e.1 ≠ but) && !s.sec.authRev.getLsbD e.1)).length

/-- SEC_AUTH with its data (R405). A genesis whose data are not the keys that signed does not match its grant (cause NOMATCH; DEDUCED, log entry 115). -/
def State.authProg (s : State) (v : Word) (data : List Byte) : Sum Nat Sec :=
  let slot := fld v 2 0
  if tb v 30 then
    if s.provisioned then .inr s.sec
    else
      let keys := [Config.sha384 (data.take 96), Config.sha384 ((data.drop 96).take 96)]
      if (s.sec.sess.signed.zip s.sec.sess.keys).all (fun e => decide (keys[e.1]? = some e.2)) then
        .inr { s.sec with auth := smPut (smPut [] 0 (keys.getD 0 0)) 1 (keys.getD 1 0) }
      else .inl 9
  else if tb v 31 then
    if s.liveAuths slot < 2 then .inl 12 else .inr { s.sec with authRev := s.sec.authRev ||| BitVec.ofNat 8 (2 ^ slot) }
  else if (smFind s.sec.auth slot).isSome then .inl 11
  else .inr { s.sec with auth := smPut s.sec.auth slot (Config.sha384 (data.take 96)) }

/-! Scan enable (R406) -/

/-- A scratchpad bank is written with zero. -/
def State.bankZero (s : State) (n : Nat) : State := s.domLost (domBank n)

/-- A row of Garnet is written with zero. -/
def State.rowZero (s : State) (row : Nat) : State := s.rowOut ⟨row, List.replicate 64 0, false⟩ true

/-- A 1 MiB block of Garnet is written with zero. -/
def State.mibZero (s : State) (m : Nat) : State := (List.range 16384).foldl (fun s i => s.rowZero (16384 * m + i)) s

/-- Every secret is cleared and the device is out of service (R406). -/
def State.scanOpen (s : State) : State :=
  let s := (s.dsp.insts.filter (fun x => x.st.open)).foldl (fun s x => s.abort x.iid 6 0) s
  let s := { s with sec := { s.sec with sess := { Sess.zero with cause := s.sec.sess.cause }, blocked := true } }
  let s := (s.ddr.regions.filter (fun e => e.2.valid && decide (e.2.prot ≠ 0))).foldl (fun s e => s.regionOff e.1 { e.2 with valid := false }) s
  let s := { s with ddr := { s.ddr with kids := [], md := [], root := [], rootMark := [], rekey := none, retry := [] } }
  let s := ((List.range 128).filter (fun n => tb (s.rd (SEC_SECSP (n / 32))) (n % 32))).foldl (fun s n => s.bankZero n) s
  let s := ((List.range 64).filter (fun m => tb (s.rd (SEC_SECG (m / 32))) (m % 32))).foldl (fun s m => s.mibZero m) s
  (s.garnetFlush.fenceCount.wr SEC_DBG 1).setBits SEC_STATUS 4

/-! The authorized write (R395, R401) -/

/-- An RWA register of the SEC block. -/
def isRwa (a : Nat) : Bool :=
  decide (a = SEC_KEYPROG) || decide (a = SEC_AUTH) || decide (a = SEC_FPOL) || decide (a = SEC_ARBSET) || decide (a = SEC_RPOL) || decide (a = SEC_DBG)

/-- What a register would do with a word, or the cause that refuses it (R392, R393, R403-R406). -/
def State.rwaEffect (s : State) (a : Nat) (v : Word) (data : List Byte) : Sum Nat State :=
  let keep (x : Sum Nat Sec) (m : Word) : Sum Nat State :=
    match x with
    | .inl c => .inl c
    | .inr sec => .inr ({ s with sec := sec }.wr a (v &&& m))
  if a = SEC_KEYPROG then keep (s.keyProg v data) 0xF000000F#32
  else if a = SEC_AUTH then keep (s.authProg v data) 0xC0000007#32
  else if a = SEC_FPOL then .inr { s with sec := { s.sec with fpol := s.sec.fpol ||| BitVec.ofNat 4 (fld v 3 0) } }
  else if a = SEC_ARBSET then
    .inr (if fld v 8 0 ≤ 256 then { s with sec := { s.sec with arbMin := Nat.max s.sec.arbMin (fld v 8 0) } } else s)
  else if a = SEC_RPOL then
    .inr ({ s with sec := { s.sec with rpol := smSet 7 s.sec.rpol (fld v 7 0) (BitVec.ofNat 3 (fld v 10 8)) } }.wr a (v &&& 0x7FF#32))
  else if !tb v 0 then .inr s
  else if s.sec.fpol.getLsbD 3 then .inl 12
  else .inr s.scanOpen

/-- A write of an RWA register of the SEC block (R394, R395, R401): without a matching grant it is denied; a refused change has no effect and keeps
the grant (log entry 30). -/
def State.rwaWrite (s : State) (i : Iface) (a : Nat) (v : Word) : State :=
  if !s.provisioned && !(decide (a = SEC_AUTH) && tb v 30) then s
  else if !s.grantFits i a (wordBytes v ++ s.secData i) then s.secDeny 9
  else match s.rwaEffect a v (s.secData i) with
    | .inl cause => s.secDeny cause
    | .inr t => t.sessIdle

/-- A row that writes an RWA register (R396). -/
def rwaRow (i : Iface) (a : Nat) (v : Word) (s : State) : Res' :=
  .next (if secWriter i then (s.rwaWrite i a v).answer i .ok [] else s.answer i .error [])

/-- GRANTED_WRITE (R401). -/
def execGrantedWrite (i : Iface) (addr : Nat) (v : Word) (s : State) : Res' :=
  if isRwa addr then rwaRow i addr v s
  else if addr = DDR_RENT 0 then .next ((s.rentWrite i v).answer i .ok [])
  else .fault .noSuchUnit

/-- SEC_KEYPROG with its KIND (R404). -/
def kindWord (kind : Nat) (v : Word) : Word := (v &&& 0x0FFFFFFF#32) ||| BitVec.ofNat 32 (kind * 2 ^ 28)

/-- PROGRAM_IMAGE_KEY_E (R404). -/
def execProgramImageKeyE (i : Iface) (v : Word) (s : State) : Res' := rwaRow i SEC_KEYPROG (kindWord 1 v) s
/-- PROGRAM_IMAGE_KEY_B (R404). -/
def execProgramImageKeyB (i : Iface) (v : Word) (s : State) : Res' := rwaRow i SEC_KEYPROG (kindWord 2 v) s
/-- PROGRAM_MZ_KEY (R404). -/
def execProgramMzKey (i : Iface) (v : Word) (s : State) : Res' := rwaRow i SEC_KEYPROG (kindWord 3 v) s
/-- PROGRAM_SIGNING_HASH (R404). -/
def execProgramSigningHash (i : Iface) (v : Word) (s : State) : Res' := rwaRow i SEC_KEYPROG (kindWord 4 v) s
/-- REVOKE_SIGNING_HASH (R404). -/
def execRevokeSigningHash (i : Iface) (v : Word) (s : State) : Res' := rwaRow i SEC_KEYPROG (kindWord 5 v) s
/-- GENESIS (R405). -/
def execSecGenesis (i : Iface) (v : Word) (s : State) : Res' := rwaRow i SEC_AUTH (v ||| 0x40000000#32) s
/-- ENROL_AUTHORITY (R405). -/
def execEnrolAuthority (i : Iface) (v : Word) (s : State) : Res' := rwaRow i SEC_AUTH (v &&& 0x3FFFFFFF#32) s
/-- REVOKE_AUTHORITY (R405). -/
def execRevokeAuthority (i : Iface) (v : Word) (s : State) : Res' := rwaRow i SEC_AUTH ((v &&& 0x3FFFFFFF#32) ||| 0x80000000#32) s
/-- FUSE_POLICY_WRITE (R393). -/
def execFusePolicyWrite (i : Iface) (v : Word) (s : State) : Res' := rwaRow i SEC_FPOL v s
/-- ARBSET_WRITE (R392). -/
def execArbsetWrite (i : Iface) (v : Word) (s : State) : Res' := rwaRow i SEC_ARBSET v s
/-- RPOL_WRITE (R403). -/
def execRpolWrite (i : Iface) (v : Word) (s : State) : Res' := rwaRow i SEC_RPOL v s
/-- SCANEN (R406). -/
def execSecScanen (i : Iface) (v : Word) (s : State) : Res' := rwaRow i SEC_DBG (v ||| 1#32) s

/-! JTAG (R407) -/

/-- The scan instructions are available. -/
def State.scanAllowed (s : State) : Bool := tb (s.rd SEC_DBG) 0 || !s.provisioned

/-- JTAG_INSTRUCTION (R407): a boundary-scan or scan-chain instruction moves bits the spec gives no further meaning; one that is not available
does nothing, and IDCODE and BYPASS change nothing. The port's answer is whether it ran. -/
def execJtagInstruction (ins : JtagIns) (s : State) : Res' :=
  let ok := match ins with
    | .idcode => true
    | .bypass => true
    | _ => s.scanAllowed
  .next { s with ifc := { s.ifc with ans := smSet Answer.none s.ifc.ans 3000 ⟨if ok then .ok else .error, []⟩ } }

end Sys2Proof.Machine
end

