-- ==== Sys2Proof/Machine/Strata.lean ====
section
/-! DEFINITION. The recorder, BOLT origins and in-service BIST (R498-R516). -/

namespace Sys2Proof.Machine

/-! The RTC (R499) -/

/-- Set the RTC; an RTC_SET record carries the time word before. -/
def State.rtcSet (s : State) (v : BitVec 64) (note : Bool) : State :=
  let old := s.timeWord
  let s := { s with strata := { s.strata with rtc := v, tset := true } }
  if note then s.record 0x02 0 (natBytes 8 old.toNat) else s

/-! Statistics (R502-R504) -/

/-- What statistic `i` takes when its moment comes (R502): nothing while it is not sampled; the DEPTH of a monitored queue, and what statistics 81-723 have
counted since their last sample, are the model's own. -/
def State.statValue (s : State) (i : Nat) (v : Int) : Option Int :=
  if i ≥ 724 then none
  else if 57 ≤ i ∧ i ≤ 72 then
    let m := s.rd (STRATA_QMON (i - 57))
    if tb m 31 then some ((s.qrec (fld m 17 0)).depth : Nat) else none
  else if 676 ≤ i then
    (match s.linkOf (i - 676) with
     | some f => if (s.link f).st.toNat ≥ 3 then some (smGet 0 s.strata.acc i : Nat) else none
     | none => none)
  else if 81 ≤ i then some (smGet 0 s.strata.acc i : Nat)
  else some v

/-- STATISTIC_SAMPLE (R503). -/
def execStatisticSample (idx : Nat) (v : Int) (s : State) : Res' :=
  if !decide (idx < 724) then .fault .noSuchUnit
  else .next (match s.statValue idx v with
    | some x => { s.statSample idx x with strata := { (s.statSample idx x).strata with acc := smDel s.strata.acc idx } }
    | none => s)

/-- Write a checkpoint to the older copy (R504); not while Garnet accepts no write. -/
def State.checkpoint (s : State) : State :=
  if s.garnetShut then s
  else
    let x := s.strata
    let n := Nat.max ((x.ckA.map (fun c => c.1)).getD 0) ((x.ckB.map (fun c => c.1)).getD 0) + 1
    let inB := decide ((x.ckB.map (fun c => c.1)).getD 0 < (x.ckA.map (fun c => c.1)).getD 0)
    { s with strata := if inB then { x with ckB := some (n, x.stats) } else { x with ckA := some (n, x.stats) } }

/-- CHECKPOINT_TIMER (R504). -/
def execCheckpointTimer (s : State) : Res' := .next s.checkpoint
/-- CKPT (R504). -/
def execStrataCkpt (s : State) : Res' := .next s.checkpoint

/-- At POR the statistics are those of the newer copy, or start at zero (R504). -/
def State.strataReload (s : State) : State :=
  let x := s.strata
  let newer := match x.ckA, x.ckB with
    | some a, some b => some (if a.1 < b.1 then b.2 else a.2)
    | some a, none => some a.2
    | none, some b => some b.2
    | none, none => none
  { s with strata := { x with stats := newer.getD [], noCkpt := newer.isNone, uptime := 0, timeSeen := false } }

/-! Records (R507) -/

/-- The newest of the records left: the one whose SEQ lies least behind. -/
def newestRec (seq : BitVec 32) (m : SMap Rec) : Option Nat :=
  (m.foldl (fun (acc : Option (Nat × Nat)) e =>
    let d := seqBehind (seq - 1) e.2.seq
    match acc with
    | none => some (e.1, d)
    | some a => if d < a.2 then some (e.1, d) else acc) none).map (fun x => x.1)

/-- Clear every record of a severity or lower. -/
def State.clrRec (s : State) (sev : BitVec 2) : State :=
  let m := s.strata.recs.filter (fun e => decide (sev.toNat < e.2.sev.toNat))
  let keep := match s.strata.newest with
    | some i => (smFind m i).isSome
    | none => false
  { s with strata := { s.strata with recs := m, newest := if keep then s.strata.newest else newestRec s.strata.seq m } }

/-- CLRREC (R507). -/
def execStrataClrrec (sev : BitVec 2) (s : State) : Res' := .next (s.clrRec sev)

/-- Clear one statistic, or all (R517); an index of none is ignored. -/
def State.clrStat (s : State) (idx : Nat) : State :=
  if idx = 0x3FF then ({ s with strata := { s.strata with stats := [] } }).clrBits STRATA_STATUS 4
  else if idx < 724 then ({ s with strata := { s.strata with stats := smDel s.strata.stats idx } }).clrBits STRATA_STATUS 4
  else s.setBits STRATA_STATUS 8

/-- CLRSTAT (R517). -/
def execStrataClrstat (idx : Nat) (s : State) : Res' := .next (s.clrStat idx)

/-! BOLTs (R509, R511) -/

/-- BOLT_IN (R509). -/
def execBoltIn (s : State) : Res' := .next (if tb (s.rd SNAP_CTRL) 16 then s.originBolt 0 else s)

/-- BOLT (R509). -/
def execSnapBolt (s : State) : Res' := .next (s.originBolt 3)

/-- A HELD snapshot is released (R511). -/
def State.rearm (s : State) : State := { s with snap := { s.snap with held := none } }

/-- REARM (R511). -/
def execSnapRearm (s : State) : Res' := .next s.rearm

/-! BIST (R512-R516) -/

def State.bistRun (s : State) (die : Nat) : Option BistRun := if die = 0 then s.bist.runL else s.bist.runU
def State.setRun (s : State) (die : Nat) (r : Option BistRun) : State :=
  let s := { s with bist := if die = 0 then { s.bist with runL := r } else { s.bist with runU := r } }
  let busy := if die = 0 then 16 else 32
  let s := if r.isSome then s.setBits BIST_STATUS busy else s.clrBits BIST_STATUS busy
  let w (r : Option BistRun) : Nat := match r with
    | some b => 2 ^ 15 + b.cluster
    | none => 0
  s.wr BIST_CUR (BitVec.ofNat 32 (w s.bist.runL + 2 ^ 16 * w s.bist.runU))
def State.bistNext (s : State) (die : Nat) : Nat := if die = 0 then s.bist.nextL else s.bist.nextU
def State.setNext (s : State) (die c : Nat) : State :=
  { s with bist := if die = 0 then { s.bist with nextL := c } else { s.bist with nextU := c } }
/-- The cluster after one in its die. -/
def bistAfter (die c : Nat) : Nat := 512 * die + (c % 512 + 1) % 512

/-- The next cluster of a die that is not fenced, from its turn on (R512). -/
def State.bistPick (s : State) (die : Nat) : Option Nat :=
  ((List.range 512).map (fun i => 512 * die + (s.bistNext die % 512 + i) % 512)).find? (fun c => !s.fenced c)

/-- Conditions of R512 beside the rail: OPP2 or OPP3 on its own clock, no halt, the Shadow budget. -/
def State.bistFits (s : State) (c : Nat) : Bool :=
  decide (s.curOpp (regionIdx c) ≥ 2) && !s.onFallback (regionIdx c) && !s.halted &&
  decide (s.shadow (pairOf c) + s.contrib 15 [c] ≤ s.beff (pairOf c))

/-- A test begins on a cluster (R513 steps 1 to 3): it is held, and woken where it sleeps. -/
def State.bistStart (s : State) (die c : Nat) : State := (s.setRun die (some { cluster := c, saved := true })).clusterWakeReq c

/-- BIST_TEST_START (R512). -/
def execBistTestStart (die : Nat) (railOk : Bool) (s : State) : Res' :=
  if !decide (die < 2) then .fault .noSuchUnit
  else if s.gsr ∨ !tb (s.rd BIST_CTRL) 31 ∨ (s.bistRun die).isSome then .next s
  else match s.bistPick die with
    | none => .next s
    | some c =>
      let s := s.setNext die (bistAfter die c)
      .next (if railOk && s.bistFits c then s.bistStart die c
        else (s.bump BIST_DEFERS BIST_CNTOVF 2).setBits BIST_STATUS 4)

/-- BIST_LAST. -/
def State.bistLast (s : State) (c result : Nat) : State := (s.wr BIST_LAST (BitVec.ofNat 32 (result * 2 ^ 30 + c))).setBits BIST_STATUS 2

/-- One signature is judged: the counters, and the result. -/
def State.bistJudge (s : State) (c : Nat) (pass : Bool) : State :=
  if pass then (s.bump BIST_PASSES BIST_CNTOVF 0).bistLast c 1
  else ((s.bump BIST_FAILS BIST_CNTOVF 1).setBits BIST_STATUS 1).bistLast c 2

/-- The test has come past step 2 (R513). -/
def State.bistReady (s : State) (c : Nat) : Bool :=
  decide ((s.cluster c).run = none) && decide ((s.cluster c).cb = []) && (decide (s.dom c = .on) || decide (s.dom c = .cirrus))

/-- A test of a cluster cannot go on (R514): a protective halt, a clock failure of its region, or an operating point below OPP2. -/
def State.bistUpset (s : State) (c : Nat) : Bool :=
  s.halted || s.onFallback (regionIdx c) || decide (s.curOpp (regionIdx c) < 2)

/-- The test of a die is interrupted (R514): the result is discarded, and the same cluster is tested again. -/
def State.bistStop (s : State) (die : Nat) (b : BistRun) : State :=
  ((s.setRun die none).setNext die b.cluster).bistLast b.cluster 3

/-- BIST_SIGNATURE_CHECK (R513, R514, R515): nothing while the cluster's task has not ended; a test that cannot go on is interrupted. -/
def execBistSignatureCheck (die : Nat) (pass : Bool) (s : State) : Res' :=
  if !decide (die < 2) then .fault .noSuchUnit
  else match s.bistRun die with
    | none => .next s
    | some b =>
      if !s.bistReady b.cluster then .next s
      else if s.bistUpset b.cluster then .next (s.bistStop die b)
      else
        let s := (s.setRun die none).bistJudge b.cluster pass
        .next (if pass then s.sweepCluster b.cluster else s.fenceCluster b.cluster 1)

/-- BIST_INTERRUPT (R514): the same cluster is tested again. -/
def execBistInterrupt (die : Nat) (s : State) : Res' :=
  if !decide (die < 2) then .fault .noSuchUnit
  else match s.bistRun die with
    | none => .next s
    | some b => .next (s.bistStop die b)

/-- A command of BIST_CMD is ignored (R516). -/
def State.bistErr (s : State) : State := s.setBits BIST_STATUS 8

/-- Three tests of a fenced cluster (R516). -/
def State.bistUnfence (s : State) (c : Nat) (passes : List Bool) : State :=
  if (s.bistRun (c / 512)).isSome ∨ !s.fenced c then s.bistErr
  else
    let s := (passes.take 3).foldl (fun s p => s.bistJudge c p) s
    if passes.take 3 = [true, true, true] then s.unfence c else s

/-- UNFENCE (R516). -/
def execBistUnfence (c : Nat) (passes : List Bool) (s : State) : Res' :=
  if decide (c < 1024) then .next (s.bistUnfence c passes) else .fault .noSuchUnit

/-- A test on request (R516). -/
def State.bistTest (s : State) (c : Nat) : State := if (s.bistRun (c / 512)).isSome ∨ s.fenced c then s.bistErr else s.bistStart (c / 512) c

/-- TEST (R516). -/
def execBistTest (c : Nat) (s : State) : Res' := if decide (c < 1024) then .next (s.bistTest c) else .fault .noSuchUnit

end Sys2Proof.Machine
end

