-- ==== Sys2Proof/Machine/Gpio.lean ====
section
/-! DEFINITION. The GPIO block (R489-R494, R497). -/

namespace Sys2Proof.Machine

/-- The GPIO block is in reset (R531). -/
def State.gpioHeld (s : State) : Bool := s.pins.ioRst

/-- A row of bank `b`. -/
def bankRow (b : Nat) (f : State → State) (s : State) : Res' :=
  if decide (b < 20) then .next (if s.gpioHeld then s else f s) else .fault .noSuchUnit

/-- The sixteen pin bits of a word. -/
def pins16 (v : Word) : Word := v &&& 0xFFFF#32

/-- GPIO_DATA_WRITE (R491). -/
def execGpioDataWrite (b : Nat) (v : Word) (s : State) : Res' := bankRow b (fun s => s.wr (GPIO_DATA b) (pins16 v)) s
/-- GPIO_SET (R491). -/
def execGpioSet (b : Nat) (v : Word) (s : State) : Res' := bankRow b (fun s => s.setBits (GPIO_DATA b) (pins16 v)) s
/-- GPIO_CLR (R491). -/
def execGpioClr (b : Nat) (v : Word) (s : State) : Res' := bankRow b (fun s => s.clrBits (GPIO_DATA b) (pins16 v)) s
/-- GPIO_FOUT_WRITE (R491). -/
def execGpioFoutWrite (b : Nat) (v : Word) (s : State) : Res' := bankRow b (fun s => s.wr (GPIO_FOUT b) (pins16 v)) s
/-- GPIO_FSET (R491). -/
def execGpioFset (b : Nat) (v : Word) (s : State) : Res' := bankRow b (fun s => s.setBits (GPIO_FOUT b) (pins16 v)) s
/-- GPIO_FCLR (R491). -/
def execGpioFclr (b : Nat) (v : Word) (s : State) : Res' := bankRow b (fun s => s.clrBits (GPIO_FOUT b) (pins16 v)) s
/-- The event generator of a bank has seen the levels that now stand at its pads. -/
def State.gpioSeen (s : State) (b : Nat) : State :=
  { s with gpio := { s.gpio with seen := smSet 0 s.gpio.seen b (BitVec.ofNat 16 (s.gpioIn b).toNat) } }

/-- A write of GPIO_FSELb (R492): at the next pad edge the pins have their new functions; no event comes of the switch. -/
def State.fselWrite (s : State) (b : Nat) (v : Word) : State := (s.wr (GPIO_FSEL b) v).gpioSeen b

/-- GPIO_FSEL_WRITE (R492). -/
def execGpioFselWrite (b : Nat) (v : Word) (s : State) : Res' := bankRow b (fun s => s.fselWrite b v) s

/-- A write of GPIO_EVTAb: a KIND of 0b10 is ignored with CFGERR, so that the field keeps its value (log entry 32). -/
def State.evtaWrite (s : State) (b : Nat) (v : Word) : State :=
  if fld v 29 28 = 2 then
    (s.wr (GPIO_EVTA b) ((v &&& 0xCEFFF000#32) ||| (s.rd (GPIO_EVTA b) &&& 0x30000000#32))).setBits GPIO_STATUS 2
  else s.wr (GPIO_EVTA b) (v &&& 0xFEFFF000#32)

/-- A write of GPIO_HOLD (R494): a bank newly held latches what it drives. -/
def State.holdWrite (s : State) (v : Word) : State :=
  let word (f : Nat → Bool) : BitVec 16 := BitVec.ofNat 16 (((List.range 16).map (fun i => 2 ^ i * Bool.bit (f i))).foldl (· + ·) 0)
  let s := (List.range 20).foldl (fun s b =>
    if tb v b then
      (if (smFind s.gpio.latch b).isSome then s
       else { s with gpio := { s.gpio with latch := smPut s.gpio.latch b (word (fun i => (s.nativeDrive b i).2), word (fun i => (s.nativeDrive b i).1)) } })
    else { s with gpio := { s.gpio with latch := smDel s.gpio.latch b } }) s
  s.wr GPIO_HOLD (v &&& 0xFFFFF#32)

/-- GPIO_HOLD_WRITE (R494). -/
def execGpioHoldWrite (v : Word) (s : State) : Res' := .next (if s.gpioHeld then s else s.holdWrite v)

/-! Events (R493) -/

/-- A selected edge on an EVT pin: code 1 rise, 2 fall, 3 both. -/
def edgeHit (code : Nat) (old new : Bool) : Bool :=
  (decide (code % 2 = 1) && !old && new) || (decide (code / 2 = 1) && old && !new)

/-- The token of pin `i` of a bank with the sample of the bank. -/
def State.eventToken (s : State) (b i : Nat) (sample : Word) : Token :=
  let a := s.rd (GPIO_EVTA b)
  { ctx := BitVec.ofNat 12 (fld a 23 12), inst := BitVec.ofNat 24 (fld (s.rd (GPIO_EVINST b)) 23 0), port := BitVec.ofNat 4 i, kind := kindOf (fld a 29 28),
    pri := BitVec.ofNat 3 (fld a 27 25), flow := BitVec.ofNat 18 (fld (s.rd (GPIO_EVTB b)) 17 0), poison := false
    value := BitVec.ofNat 64 (s.strata.rtc.toNat % 2 ^ 48 * 2 ^ 16 + sample.toNat % 2 ^ 16) }

/-- One edge: a token in the bank's buffer, or a lost edge. -/
def State.gpioEdge (s : State) (b i : Nat) (sample : Word) : State :=
  let q := smGet [] s.gpio.ev b
  if q.length ≥ 16 then (s.bump GPIO_EVDROP GPIO_CNTOVF 0).setBits GPIO_STATUS 1
  else
    let e := (tb (s.rd (GPIO_EVTA b)) 30, s.eventToken b i sample)
    let n := (fld (s.rd (GPIO_EVINST b)) 23 0 + 1) % 2 ^ 24
    { s.wr (GPIO_EVINST b) (BitVec.ofNat 32 n) with gpio := { s.gpio with ev := smSet [] s.gpio.ev b (q ++ [e]) } }

/-- The tokens a bank holds go to their sinks in order. -/
def State.gpioDrain (s : State) (b : Nat) : State :=
  let x := s.sinkAll gpioPort (smGet [] s.gpio.ev b)
  { x.1 with gpio := { x.1.gpio with ev := smSet [] x.1.gpio.ev b x.2 } }

/-- A pad-clock edge samples a bank: an edge is a change since the sample before it (R490, R493). -/
def State.gpioSample (s : State) (b : Nat) (pads : BitVec 16) : State :=
  let old : Word := BitVec.ofNat 32 (smGet 0 s.gpio.seen b).toNat
  let s := s.gpioDrain b
  let s := { s with gpio := { s.gpio with pad := smSet 0 s.gpio.pad b pads } }
  let new := s.gpioIn b
  let on (i : Nat) : Bool := tb (s.rd (GPIO_EVTA b)) 31 && decide (fld (s.rd (GPIO_FSEL b)) (2 * i + 1) (2 * i) = 2) &&
    edgeHit (fld (s.rd (GPIO_EDGE b)) (2 * i + 1) (2 * i)) (tb old i) (tb new i) && !s.hostBusPin b i
  let s := if s.gpioHeld || s.gsr then s else ((List.range 16).filter on).foldl (fun s i => s.gpioEdge b i new) s
  (s.gpioSeen b).gpioDrain b

/-- GPIO_EVENT_EDGE (R493): the levels that stand at the pads of a bank. -/
def execGpioEventEdge (b : Nat) (pads : BitVec 16) (s : State) : Res' :=
  if decide (b < 20) then .next (s.gpioSample b pads) else .fault .noSuchUnit

end Sys2Proof.Machine
end

