-- ==== Sys2Proof/Machine/Dma.lean ====
section
/-! DEFINITION. The DMA channels of the PCIe endpoint (R479-R482): descriptors, halts, registers. The work of a descriptor stands in DmaRun.lean. -/

namespace Sys2Proof.Machine

def State.dma (s : State) (c : Nat) : Dma := smGet Dma.zero s.pcie.dma c
def State.setDma (s : State) (c : Nat) (x : Dma) : State := { s with pcie := { s.pcie with dma := smSet Dma.zero s.pcie.dma c x } }

/-- The PCIe subsystem works: its domain is ON and no reset holds it (R474, R477). -/
def State.pcieOn (s : State) : Bool := decide (s.dom domPcie = .on) && !s.pins.por && !s.pins.sysRst && !s.pins.ioRst

/-- STATE of a channel: 0 IDLE, 1 RUN, 2 PAUSED, 3 HALTED. -/
def State.dmaSt (s : State) (c : Nat) : Nat := fld (s.rd (PCIE_DMA_STAT c)) 31 30
def State.setDmaSt (s : State) (c st : Nat) : State := s.putField (PCIE_DMA_STAT c) 31 30 st

/-! Descriptors (R479) -/

/-- RLOG, HEAD and the address of the descriptor at HEAD. -/
def State.dmaSize (s : State) (c : Nat) : Nat := 2 ^ fld (s.rd (PCIE_DMA_CTRL c)) 4 0
def State.dmaHead (s : State) (c : Nat) : Nat := fld (s.rd (PCIE_DMA_HEAD c)) 15 0 % s.dmaSize c
def State.ringHost (s : State) (c : Nat) : Bool := tb (s.rd (PCIE_DMA_CTRL c)) 8
def State.ringAddr (s : State) (c : Nat) : Nat :=
  let a := s.rd64 (PCIE_DMA_RING_LO c) / 32 * 32 + 32 * s.dmaHead c
  if s.ringHost c then a % 2 ^ 64 else a % 2 ^ 48

def dOp (d : Nat) : Nat := d / 2 ^ 28 % 16
def dIrq (d : Nat) : Bool := decide (d / 2 ^ 27 % 2 = 1)
def dShost (d : Nat) : Bool := decide (d / 2 ^ 26 % 2 = 1)
def dDhost (d : Nat) : Bool := decide (d / 2 ^ 25 % 2 = 1)
def dQueue (d : Nat) : Bool := decide (d / 2 ^ 24 % 2 = 1)
def dLen (d : Nat) : Nat := d / 2 ^ 32 % 2 ^ 32
def dSrc (d : Nat) : Nat := d / 2 ^ 64 % 2 ^ 64
def dDst (d : Nat) : Nat := d / 2 ^ 128 % 2 ^ 64

/-- A descriptor is valid (R479). -/
def descOk (d : Nat) : Bool :=
  let op := dOp d
  decide (1 ≤ op) && decide (op ≤ 3) && !(dShost d && dDhost d) && decide (1 ≤ dLen d) && decide (dLen d ≤ 16777216) &&
  (decide (op = 1) || decide (dLen d % 16 = 0)) && (decide (op ≠ 3) || decide (dSrc d = 0)) && (decide (op ≠ 2) || decide (dDst d = 0)) &&
  decide (d % 2 ^ 24 = 0) && (dShost d || decide (dSrc d < 2 ^ 48)) && (dDhost d || decide (dDst d < 2 ^ 48))

/-! Host memory -/

/-- A posted write to host memory; lost while the link is down. -/
def State.hostWr (s : State) (a : Nat) (bs : List Byte) : State :=
  if tb (s.rd PCIE_LINK) 8 then { s with pcie := { s.pcie with out := s.pcie.out ++ [.wr a bs] } } else s

/-- A read request to host memory. -/
def State.hostRd (s : State) (c a n : Nat) (w : DmaWant) : State :=
  let s := s.setDma c { s.dma c with want := w }
  if tb (s.rd PCIE_LINK) 8 then { s with pcie := { s.pcie with out := s.pcie.out ++ [.rd c a n] } } else s

/-! Halting (R482) -/

/-- RESULT and COUNT are written to the descriptor; false where the ring refuses. -/
def State.dmaResult (s : State) (c result : Nat) : State × AnsKind :=
  let a := s.ringAddr c + 24
  let bs := natBytes 4 result ++ natBytes 4 (s.dma c).cnt
  if s.ringHost c then (s.hostWr a bs, .ok)
  else
    let x := s.memXferFrom (some pciePort) ⟨.dma c, a, bs.length, true, bs.map some⟩
    (x.1, x.2.1)

/-- The channel halts on the current descriptor with a cause and the failing address. -/
def State.dmaHalt (s : State) (c cause addr : Nat) : State :=
  let s := if cause = 5 then s else (s.dmaResult c (cause * 2 ^ 28)).1
  let s := s.setDma c { s.dma c with want := .none, left := [] }
  let s := (s.setDmaSt c 3).putField (PCIE_DMA_STAT c) 18 16 cause
  let s := if cause = 5 ∨ cause = 6 then s else s.wr64 (PCIE_DMA_FADDR_LO c) addr
  s.setBits (PCIE_DMA_STAT c) 0x200#32

/-! Running (R480) -/

/-- A fetched descriptor is taken or halts the channel. -/
def State.dmaTake (s : State) (c d : Nat) : State :=
  let s := s.setDma c { s.dma c with desc := some d, want := .none, left := [], done := false }
  if descOk d then s else s.dmaHalt c 1 (s.ringAddr c)

/-- Fetch the descriptor at HEAD. -/
def State.dmaFetch (s : State) (c : Nat) : State :=
  if (s.dma c).desc.isSome ∨ (s.dma c).want ≠ .none then s
  else if s.ringHost c then s.hostRd c (s.ringAddr c) 32 .desc
  else match s.memXferFrom (some pciePort) ⟨.dma c, s.ringAddr c, 32, false, []⟩ with
    | (s, .ok, bs) => s.dmaTake c (bytesNat bs)
    | (s, .error, _) => s.dmaHalt c 1 (s.ringAddr c)
    | (s, .poisoned, _) => s.dmaHalt c 1 (s.ringAddr c)
    | (s, _, _) => s

/-- An idle, enabled channel with descriptors left starts on the next. -/
def State.dmaKick (s : State) (c : Nat) : State :=
  if tb (s.rd (PCIE_DMA_CTRL c)) 31 && decide (s.dmaSt c = 0) && s.pcieOn && decide (s.dmaHead c ≠ fld (s.rd (PCIE_DMA_TAIL c)) 15 0 % s.dmaSize c) then
    ((s.setDma c { Dma.zero with desc := none }).setDmaSt c 1).dmaFetch c
  else s

/-- The channel runs a descriptor of an operation now: the descriptor, if so. -/
def State.dmaRuns (s : State) (c op : Nat) : Option Nat :=
  if !s.pcieOn ∨ !tb (s.rd (PCIE_DMA_CTRL c)) 31 ∨ !(s.dmaSt c = 1 ∨ s.dmaSt c = 2) then none
  else match (s.dma c).desc with
    | some d => if dOp d = op ∧ !(s.dma c).done then some d else none
    | none => none

/-- Bytes completed. -/
def State.dmaCount (s : State) (c n : Nat) : State := s.setDma c { s.dma c with cnt := (s.dma c).cnt + n, want := .none }

/-- The descriptor's work is complete. -/
def State.dmaOver (s : State) (c : Nat) : State := s.setDma c { s.dma c with done := true }

/-- HEAD passes the descriptor; the channel goes on with the next one. -/
def State.dmaAdvance (s : State) (c : Nat) : State :=
  let s := s.wr (PCIE_DMA_HEAD c) (BitVec.ofNat 32 ((s.dmaHead c + 1) % s.dmaSize c))
  (s.setDma c Dma.zero).setDmaSt c 0

/-- A completed descriptor: RESULT and COUNT, HEAD, DONE_EV (R480). -/
def State.dmaDone (s : State) (c d : Nat) : State :=
  match s.dmaResult c (2 ^ 31) with
  | (s, .ok) =>
    let s := s.dmaAdvance c
    let s := if dIrq d then s.setBits (PCIE_DMA_STAT c) 0x100#32 else s
    s.dmaKick c
  | (s, .waits) => s
  | (s, .halted) => s
  | (s, _) => s.dmaHalt c 3 (s.ringAddr c + 24)

/-- DMA_DESCRIPTOR_DONE (R480). -/
def execDmaDescriptorDone (ch : Nat) (s : State) : Res' :=
  if !decide (ch < 64) then .fault .noSuchUnit
  else match (s.dma ch).desc with
    | some d => .next (if (s.dma ch).done && s.pcieOn && decide (s.dmaSt ch = 1) then s.dmaDone ch d else s)
    | none => .next s

/-! Host completions (R482) -/

/-- A read of host memory failed: of the ring, cause DESC; of data, the cause given. -/
def State.hostFail (s : State) (c cause : Nat) : State :=
  match (s.dma c).want, (s.dma c).desc with
  | .desc, _ => s.dmaHalt c 1 (s.ringAddr c)
  | .data _, some d => s.dmaHalt c cause (dSrc d + (s.dma c).cnt)
  | _, _ => s

/-- COMPLETION_TIMEOUT (R482). -/
def execCompletionTimeout (ch : Nat) (s : State) : Res' :=
  if !decide (ch < 64) then .fault .noSuchUnit
  else .next (if s.dmaSt ch = 1 ∨ s.dmaSt ch = 2 then s.hostFail ch 2 else s)

/-! Registers of a channel (R482, R495) -/

def State.pcieErr (s : State) : State := s.setBits PCIE_STATUS 8

/-- A write of PCIE_DMAc_TAIL. -/
def State.tailWrite (s : State) (c : Nat) (v : Word) : State := (s.wr (PCIE_DMA_TAIL c) (v &&& 0xFFFF#32)).dmaKick c

/-- DMA_TAIL_WRITE (R480). -/
def execDmaTailWrite (ch : Nat) (v : Word) (s : State) : Res' :=
  if decide (ch < 64) then .next (if s.pcieOn then s.tailWrite ch v else s) else .fault .noSuchUnit

/-- RESUME: the descriptor goes on from COUNT; one that was refused as invalid or could not be read is fetched again. -/
def State.dmaResume (s : State) (c : Nat) : State :=
  if s.dmaSt c ≠ 3 then s.pcieErr
  else
    let bad := decide (fld (s.rd (PCIE_DMA_STAT c)) 18 16 = 1)
    let s := (s.setDmaSt c 1).putField (PCIE_DMA_STAT c) 18 16 0
    if bad then (s.setDma c Dma.zero).dmaFetch c else s

/-- SKIP. -/
def State.dmaSkip (s : State) (c : Nat) : State :=
  if s.dmaSt c ≠ 3 then s.pcieErr else ((s.putField (PCIE_DMA_STAT c) 18 16 0).dmaAdvance c).dmaKick c

/-- STOP: ignored where the channel works on nothing. -/
def State.dmaStop (s : State) (c : Nat) : State := if s.dmaSt c = 1 ∨ s.dmaSt c = 2 then s.dmaHalt c 6 0 else s.pcieErr

/-- A command row of a channel. -/
def dmaCmd (c : Nat) (f : State → State) (s : State) : Res' :=
  if decide (c < 64) then .next (if s.pcieOn then f s else s) else .fault .noSuchUnit

/-- RESUME_DMA (R482). -/
def execDmaResume (ch : Nat) (s : State) : Res' := dmaCmd ch (fun s => s.dmaResume ch) s
/-- SKIP (R482). -/
def execDmaSkip (ch : Nat) (s : State) : Res' := dmaCmd ch (fun s => s.dmaSkip ch) s
/-- STOP (R482). -/
def execDmaStop (ch : Nat) (s : State) : Res' := dmaCmd ch (fun s => s.dmaStop ch) s

/-- A write of PCIE_DMAc_CTRL: RHOST and RLOG change only while EN is 0; an RLOG outside 4-16 is ignored with CFGERR (log entry 32). -/
def State.dmaCtrl (s : State) (c : Nat) (v : Word) : State :=
  let old := s.rd (PCIE_DMA_CTRL c)
  let en := tb old 31
  let rlogBad := decide (fld v 4 0 < 4) || decide (fld v 4 0 > 16)
  let keep : Word := if en then old &&& 0x11F#32 else (v &&& 0x100#32) ||| (if rlogBad then old &&& 0x1F#32 else v &&& 0x1F#32)
  let err := (!en && rlogBad) || (en && decide (v &&& 0x11F#32 ≠ old &&& 0x11F#32)) || decide (fld v 30 28 > 3)
  let s := s.wr (PCIE_DMA_CTRL c) ((v &&& 0x80000000#32) ||| keep)
  let s := if err then s.pcieErr else s
  let s := match fld v 30 28 with
    | 1 => s.dmaResume c
    | 2 => s.dmaSkip c
    | 3 => s.dmaStop c
    | _ => s
  s.dmaKick c

/-- The PCIe subsystem is reset: every channel that works halts with HALT (R477, R482). -/
def State.dmaHaltAll (s : State) : State :=
  (List.range 64).foldl (fun s c => if s.dmaSt c = 1 ∨ s.dmaSt c = 2 then s.dmaHalt c 5 0 else s) s

end Sys2Proof.Machine
end

