-- ==== Sys2Proof/Machine/FlintStream.lean ====
section
/-! DEFINITION. Configuration streams of the Flint parts, the MZ host bus and the repair of frames (R314, R331, R337-R348). -/

namespace Sys2Proof.Machine

/-! What a part's stream needs to know of the part -/

/-- Columns, RAMs, identity word and the two keys of a part (R342-R344). -/
structure MzEnv where
  cols : Nat
  rams : Nat
  ident : Half
  key0 : Option (BitVec 128)
  key1 : Option (BitVec 128)

/-- MZ key slot 4 x tile + 2 x h + KEYSRC (R344); none may be read after scan access was opened (R406). -/
def State.mzKeyOf (s : State) (p src : Nat) : Option (BitVec 128) := if s.sec.blocked then none else smFind s.sec.mzKey (2 * p + src)

/-- MZID of a part (R339). -/
def State.mzIdent (s : State) (p : Nat) : Half := if (s.tile (p / 2)).mode = 1 then 0x0640#16 else 0x0620#16

def State.mzEnv (s : State) (p : Nat) : MzEnv := ⟨s.mzCols p, s.mzRams p, s.mzIdent p, s.mzKeyOf p 0, s.mzKeyOf p 1⟩

/-! Running check and blocks -/

/-- The running check over one word, low byte first, before its final XOR (R343). -/
def mzCrc (c : Word) (w : Half) : Word := crcByte 0xEDB88320#32 (crcByte 0xEDB88320#32 c (BitVec.ofNat 8 w.toNat)) (BitVec.ofNat 8 (w.toNat / 256))

/-- 128 bits from 8 words, byte 0 in the low byte of the first (R344). -/
def mzBlock (ws : List Half) : BitVec 128 := BitVec.ofNat 128 (ws.foldr (fun w n => w.toNat + 65536 * n) 0)

/-- The 8 words of 128 bits. -/
def mzUnblock (b : BitVec 128) : List Half := (List.range 8).map (fun i => BitVec.ofNat 16 (b.toNat / 2 ^ (16 * i)))

def MzPart.setStream (x : MzPart) (t : MzStream) : MzPart := { x with stream := t }

/-- The stream is aborted (R343): 1 CRCERR, 3 IDERR, 4 KEYERR, 5 ADRERR. -/
def MzPart.mzAbort (x : MzPart) (bit : Nat) : MzPart :=
  { x with stat := x.stat ||| BitVec.ofNat 6 (2 ^ bit), stream := { x.stream with phase := .idle } }

/-- Await the next header. -/
def MzPart.mzNextBlock (x : MzPart) : MzPart := x.setStream { x.stream with phase := .header }

/-- The next frame in sequence (R342). -/
def nextFrame (a : Half) : Half := if a.getLsbD 15 then a + 1 else if a.toNat % 8 = 7 then a - 7 + 256 else a + 1

/-- Write one plaintext FILL word (R342); false beyond the part. -/
def MzPart.fillWord (e : MzEnv) (x : MzPart) (w : Half) : MzPart × Bool :=
  match x.stream.addr with
  | none => (x, false)
  | some a =>
    let ram := a.getLsbD 15
    let n := a.toNat % 2 ^ 15
    if ram ∧ n ≥ e.rams ∨ !ram ∧ n / 256 ≥ e.cols then (x, false)
    else
      let pos := x.stream.pos
      let last := decide (pos + 1 = if ram then 1024 else 20)
      let x' : MzPart :=
        if ram then x.ramPut n pos w
        else
          let k := (8 * (n / 256) + n % 8) * 10 + pos / 2
          let old := smGet 0 x.frames k
          { x with frames := smSet 0 x.frames k (BitVec.ofNat 32 (if pos % 2 = 0 then old.toNat / 65536 * 65536 + w.toNat else w.toNat * 65536 + old.toNat % 65536)) }
      (x'.setStream { x.stream with addr := some (if last then nextFrame a else a), pos := if last then 0 else pos + 1
                                    crc := mzCrc x.stream.crc w, checked := false }, true)

/-- Write plaintext FILL words, aborting at one that falls beyond the part. -/
def MzPart.fillWords (e : MzEnv) (x : MzPart) : List Half → MzPart
  | [] => x
  | w :: ws =>
    let r := x.fillWord e w
    if r.2 then r.1.fillWords e ws else x.mzAbort 5

/-- A SEEK payload keeps its must-be-zero bits zero (R342). -/
def seekOk (a : Half) : Bool := if a.getLsbD 15 then decide (a.toNat / 64 % 512 = 0) else decide (a.toNat / 8 % 32 = 0) && !a.getLsbD 14

/-- The whole payload of a block other than PAD and FILL has come (R341, R343, R344). -/
def MzPart.mzAct (e : MzEnv) (x : MzPart) (code : Nat) (ws : List Half) : MzPart :=
  let t := x.stream
  let crc := ws.foldl mzCrc t.crc
  let w0 := ws.getD 0 0
  let y := (x.setStream { t with crc := crc }).mzNextBlock
  match code with
  | 1 => if ws = [0x4D5A#16, e.ident] then y else x.mzAbort 3
  | 2 => if seekOk w0 then (x.setStream { t with crc := crc, addr := some w0, pos := 0 }).mzNextBlock else x.mzAbort 5
  | 4 => (x.setStream { t with crc := crc, sealed := w0.getLsbD 0, keysrc := w0.getLsbD 1, chain := t.iv.getD 0 }).mzNextBlock
  | 5 => (x.setStream { t with crc := crc, iv := some (mzBlock ws), chain := mzBlock ws }).mzNextBlock
  | 6 =>
    if BitVec.ofNat 32 (w0.toNat + 65536 * (ws.getD 1 0).toNat) = t.crc ^^^ 0xFFFFFFFF#32 then (x.setStream { t with checked := true }).mzNextBlock
    else x.mzAbort 1
  | 7 => (x.setStream { t with crc := 0xFFFFFFFF#32 }).mzNextBlock
  | 8 => if t.checked then ({ x with go := true, image := x.frames }).mzNextBlock else x.mzAbort 1
  | 9 => x.setStream { t with phase := .idle }
  | _ => x.mzNextBlock

/-- The payload length the table of R341 fixes. -/
def mzLen : Nat → Option Nat
  | 1 => some 2
  | 2 => some 1
  | 4 => some 1
  | 5 => some 8
  | 6 => some 2
  | 7 => some 0
  | 8 => some 0
  | 9 => some 0
  | _ => none

/-- A header has come whole: its block begins (R341-R344). -/
def MzPart.mzBegin (e : MzEnv) (x : MzPart) (code len : Nat) : MzPart :=
  let t := x.stream
  if code ≥ 10 then x.mzAbort 5
  else if (match mzLen code with
    | some n => decide (n ≠ len)
    | none => false) then x.mzAbort 5
  else if code = 3 ∧ (t.addr = none ∨ t.sealed ∧ (t.iv = none ∨ len % 8 ≠ 0)) then x.mzAbort 5
  else if code = 3 ∧ t.sealed ∧ (if t.keysrc then e.key1 else e.key0) = none then x.mzAbort 4
  else if len = 0 then x.mzAct e code []
  else x.setStream { t with phase := .body (BitVec.ofNat 4 code) len [] }

/-- A group of 8 ciphertext words is decrypted and written (R344). -/
def MzPart.fillSealed (e : MzEnv) (x : MzPart) (ws : List Half) : MzPart :=
  let t := x.stream
  let b := mzBlock ws
  let plain := Config.mzDecrypt ((if t.keysrc then e.key1 else e.key0).getD 0) t.chain b
  (x.setStream { t with chain := b }).fillWords e (mzUnblock plain)

/-- One payload word of a block. -/
def MzPart.mzBody (e : MzEnv) (x : MzPart) (code : BitVec 4) (len : Nat) (got : List Half) (w : Half) : MzPart :=
  let t := x.stream
  let go (y : MzPart) (keep : List Half) : MzPart :=
    if y.stream.phase = .idle then y
    else if len ≤ 1 then y.mzNextBlock
    else y.setStream { y.stream with phase := .body code (len - 1) keep }
  if code = 0 then go x []
  else if code = 3 then
    if !t.sealed then go (x.fillWords e [w]) []
    else if got.length = 7 then go (x.fillSealed e (w :: got).reverse) []
    else go x (w :: got)
  else if len ≤ 1 then x.mzAct e code.toNat (w :: got).reverse
  else x.setStream { t with phase := .body code (len - 1) (w :: got) }

/-- One word of a configuration stream (R341); a start mark begins a stream anew. -/
def MzPart.mzWord (e : MzEnv) (x : MzPart) (w : Half) (host : Bool) : MzPart :=
  let t := x.stream
  match t.phase with
  | .idle => if w = 0xB7D2#16 then x.setStream { t with phase := .mark } else x
  | .mark =>
    if w = 0x4C19#16 then x.setStream { MzStream.zero with phase := .header, host := host }
    else if w = 0xB7D2#16 then x
    else x.setStream { t with phase := .idle }
  | .header =>
    if w.toNat % 4096 = 4095 ∧ w.toNat / 4096 < 10 then x.setStream { t with phase := .lenHi (BitVec.ofNat 4 (w.toNat / 4096)) }
    else x.mzBegin e (w.toNat / 4096) (w.toNat % 4096)
  | .lenHi code => x.setStream { t with phase := .lenLo code w }
  | .lenLo code hi => x.mzBegin e code.toNat ((hi.toNat * 65536 + w.toNat) % 2 ^ 24)
  | .body code len got => x.mzBody e code len got w

/-- A word of a stream reaches a part. -/
def State.mzFeed (s : State) (p : Nat) (w : Half) (host : Bool) : State := s.setPart p ((s.part p).mzWord (s.mzEnv p) w host)

/-! The host bus (R331, R337-R340) -/

/-- The part has a host bus: its tile's section says HOSTBUS = 1 (R337). -/
def State.hostOn (s : State) (p : Nat) : Bool := s.partOn p && (s.tile (p / 2)).hostbus

/-- The RAM of a window whose words the host sees: one whose port B faces the host (R339). -/
def State.hostRam (s : State) (p : Nat) (a : Nat) : Option Nat :=
  let x := s.part p
  let r := (if a < 0x400 then x.wselA else x.wselB).toNat
  if r < s.mzRams p ∧ x.hostB r then some r else none

/-- CONT of a half (R330, R359). -/
def contMask (p : Nat) : Word := if p % 2 = 0 then 64 else 128

/-- MZSTAT (R339). -/
def State.mzstat (s : State) (p : Nat) : Half :=
  let x := s.part p
  let cont := if s.rd (flStatus (p / 2)) &&& contMask p ≠ 0 then 4 else 0
  BitVec.ofNat 16 (x.stat.toNat / 2 * 2 + cont + Bool.bit x.run)

/-- The value a host-bus address reads (R339). -/
def State.hostVal (s : State) (p a : Nat) : Half :=
  let x := s.part p
  if a < 0x800 then (match s.hostRam p a with
    | some r => x.ramWord r (a % 1024)
    | none => 0)
  else match a with
    | 0xFF0 => BitVec.ofNat 16 x.wselA.toNat
    | 0xFF1 => BitVec.ofNat 16 x.wselB.toNat
    | 0xFF8 => s.mzstat p
    | 0xFFF => s.mzIdent p
    | _ => 0

/-- The parts that answer a host-bus cycle: one half, numbered as parts are, or both halves of tile `n` as 4 + n, HCS_N and HCS1_N being low in one cycle
(R340). -/
def State.hostSel (s : State) (part : Nat) : List Nat :=
  (if part < 4 then [part] else [2 * (part - 4), 2 * (part - 4) + 1]).filter (fun p => s.hostOn p)

/-- The read access of a part (R338, R339); it may still collide until its edge (R332). -/
def State.hostRead (s : State) (p n : Nat) : State :=
  match (if n < 0x800 then s.hostRam p n else none) with
  | some r =>
    let u := s.ramNote p r (n % 1024)
    u.setPart p { u.part p with host := some { ram := r, word := n % 1024, data := none, hit := false } }
  | none => s

/-- HOST_BUS_READ (R338-R340): HD carries the value, of both halves the OR. -/
def execHostBusRead (part : Nat) (a : BitVec 12) (s : State) : Res' :=
  if !decide (part < 6) then .fault .noSuchUnit
  else
    let ps := s.hostSel part
    let t := ps.foldl (fun s p => s.hostCycle p) s
    let v := ps.foldl (fun v p => v ||| t.hostVal p a.toNat) 0
    .next (ps.foldl (fun s p => (s.hostRead p a.toNat).setPart p { (s.hostRead p a.toNat).part p with hd := v }) t)

/-- PROG (R348): the part is in GSR with every frame zero; RAM stays. -/
def State.mzClear (s : State) (p : Nat) : State :=
  let x := s.part p
  (s.setPart p { x with frames := [], image := [], cells := [], lines := [], mid := [], put := [], last := none, run := false, go := false
                        stat := 0, stream := MzStream.zero }).clrBits (flStatus (p / 2)) (contMask p)

/-- A host-bus register is written (R339). -/
def State.hostWrite (s : State) (p n : Nat) (v : Half) : State :=
  let x := s.part p
  if n < 0x800 then
    match s.hostRam p n with
    | some r => s.setPart p { x with host := some { ram := r, word := n % 1024, data := some v, hit := false } }
    | none => s
  else match n with
    | 0xFF0 => s.setPart p { x with wselA := BitVec.ofNat 6 v.toNat }
    | 0xFF1 => s.setPart p { x with wselB := BitVec.ofNat 6 v.toNat }
    | 0xFF8 => if v.getLsbD 2 then s.clrBits (flStatus (p / 2)) (contMask p) else s
    | 0xFFC => s.mzFeed p v true
    | 0xFFD => if v.getLsbD 0 then s.mzClear p else s
    | _ => s

/-- A host-bus write cycle reaches every half it selects (R339, R340). -/
def State.hostPut (s : State) (part n : Nat) (v : Half) : State := (s.hostSel part).foldl (fun s p => (s.hostCycle p).hostWrite p n v) s

/-- HOST_BUS_WRITE (R331, R339, R340). -/
def execHostBusWrite (part : Nat) (a : BitVec 12) (v : BitVec 16) (s : State) : Res' :=
  if !decide (part < 6) then .fault .noSuchUnit else .next (s.hostPut part a.toNat v)

/-- CFGD_WRITE (R341). -/
def execCfgdWrite (part : Nat) (w : BitVec 16) (s : State) : Res' :=
  if !decide (part < 6) then .fault .noSuchUnit else .next (s.hostPut part 0xFFC w)

/-! Whole blocks (R341): a block delivered where the stream of the part stands at a header -/

/-- The words of a block: header, length words where the payload needs them, payload. -/
def mzWords (code : Nat) (ws : List Half) : List Half :=
  (if ws.length < 4095 then [BitVec.ofNat 16 (code * 4096 + ws.length)]
   else [BitVec.ofNat 16 (code * 4096 + 4095), BitVec.ofNat 16 (ws.length / 65536), BitVec.ofNat 16 ws.length]) ++ ws

/-- A block of a code and payload is delivered. -/
def blockRow (code : Nat) (p : Nat) (ws : List Half) (s : State) : Res' :=
  if !decide (p < 4) then .fault .noSuchUnit
  else if !s.partOn p ∨ (s.part p).stream.phase ≠ .header then .next s
  else .next ((mzWords code ws).foldl (fun s w => s.mzFeed p w (s.part p).stream.host) s)

/-- PAD (R341). -/
def execMzPad (part : Nat) (ws : List (BitVec 16)) (s : State) : Res' := blockRow 0 part ws s
/-- IDENT (R343). -/
def execMzIdent (part : Nat) (ws : List (BitVec 16)) (s : State) : Res' := blockRow 1 part ws s
/-- SEEK (R342). -/
def execMzSeek (part : Nat) (ws : List (BitVec 16)) (s : State) : Res' := blockRow 2 part ws s
/-- FILL (R342). -/
def execMzFill (part : Nat) (ws : List (BitVec 16)) (s : State) : Res' := blockRow 3 part ws s
/-- MODE (R344). -/
def execMzMode (part : Nat) (ws : List (BitVec 16)) (s : State) : Res' := blockRow 4 part ws s
/-- IV (R344). -/
def execMzIv (part : Nat) (ws : List (BitVec 16)) (s : State) : Res' := blockRow 5 part ws s
/-- CHECK (R343). -/
def execMzCheck (part : Nat) (ws : List (BitVec 16)) (s : State) : Res' := blockRow 6 part ws s
/-- RESTART (R343). -/
def execMzRestart (part : Nat) (ws : List (BitVec 16)) (s : State) : Res' := blockRow 7 part ws s
/-- GO (R343). -/
def execMzGo (part : Nat) (ws : List (BitVec 16)) (s : State) : Res' := blockRow 8 part ws s
/-- FINISH (R341). -/
def execMzFinish (part : Nat) (ws : List (BitVec 16)) (s : State) : Res' := blockRow 9 part ws s

/-- MZ_GSR_RELEASE (R348): after a GO over the host bus. -/
def execMzGsrRelease (part : Nat) (s : State) : Res' :=
  if !decide (part < 4) then .fault .noSuchUnit
  else .next (if s.partOn part && (s.part part).go && (s.part part).stream.host && !s.mzStopped then s.mzRelease part else s)

/-- PROG (R348). -/
def execMzProg (part : Nat) (s : State) : Res' :=
  if !decide (part < 6) then .fault .noSuchUnit else .next (s.hostPut part 0xFFD 1)

/-! Repair (R314) -/

/-- The sweep rewrites an upset frame from the stored image (R314). `frame` is the frame address, with the half in bit 16 (log entry 31). -/
def State.flintFix (s : State) (n frame : Nat) : State :=
  let p := 2 * n + frame / 65536 % 2
  let x := s.part p
  let k := (8 * (frame / 256 % 64) + frame % 8) * 10
  let s := s.setPart p { x with frames := (List.range 10).foldl (fun m i => smSet 0 m (k + i) (smGet 0 x.image (k + i))) x.frames }
  ((s.bump (flFixes n) (flOvf n) 0).setBits (flStatus n) 256).record 0x42 2 (natBytes 1 n ++ natBytes 4 frame)

/-- FLINT_FIX (R314): a tile that is OFF has no frames to read back. -/
def execFlintFix (tile frame : Nat) (s : State) : Res' :=
  if !decide (tile < 2) then .fault .noSuchUnit
  else .next (if s.partOn (2 * tile + frame / 65536 % 2) ∧ frame % 65536 / 256 < s.mzCols (2 * tile) then s.flintFix tile frame else s)

end Sys2Proof.Machine
end

