-- ==== Sys2Proof/Machine/CellArith.lean ====
section
/-! DEFINITION. The cell operations of latency 1 on words and lanes (R52-R57): moves, sums, logic, shifts, compares, bit fields,
CRC, flags. -/

namespace Sys2Proof.Machine

/-- A result with N and Z (R52). -/
def resNZ (r : Word) : Alu := { lo := some r, fl := flagsNZ r }
/-- A result with Z only. -/
def resZ (r : Word) : Alu := { lo := some r, fl := flagsZ r }
/-- A result that leaves the flags. -/
def resPlain (r : Word) : Alu := { lo := some r }

/-- Lane form of XT[1:0] (R52). -/
def laneForm (m : Micro) : BitVec 5 := m.xt &&& 3

/-- ADD in a lane form (R53, R57): the carry-out exists in the one-lane form only. -/
def aluAdd (form : BitVec 5) (a b : Word) : Alu :=
  let r := laneMap form addLane a b
  { lo := some r, fl := flagsLaneAdd form a b false r, carry := decide (form = 0) && ((flagsAdd a b false).c.getD false) }

/-- SUB in a lane form (R53): SA + NOT SB + 1 in the one-lane form. -/
def aluSub (form : BitVec 5) (a b : Word) : Alu :=
  let r := laneMap form subLane a b
  { lo := some r, fl := flagsLaneAdd form a (~~~b) true r, carry := decide (form = 0) && ((flagsAdd a (~~~b) true).c.getD false) }

/-- ADC and SBC (R56): SA + the second operand + cin. -/
def aluAdc (a b : Word) (cin : Bool) : Alu :=
  { lo := some (a + b + BitVec.ofNat 32 (Bool.bit cin)), fl := flagsAdd a b cin, carry := (flagsAdd a b cin).c.getD false }

/-- A saturating operation (R53). -/
def aluSat (signed sub : Bool) (form : BitVec 5) (a b : Word) : Alu :=
  let r := laneMap form (satLane signed sub) a b
  { lo := some r, fl := flagsSat (laneAny form (satLaneHit signed sub) a b) r }

/-- A compare (R53): all ones or zero per lane, P when any lane is true. -/
def aluCmp (f : Nat → Nat → Nat → Bool) (form : BitVec 5) (a b : Word) : Alu :=
  { lo := some (laneMap form (cmpLane f) a b), fl := { p := some (laneAny form f a b) } }

def ltS (w a b : Nat) : Bool := decide (toSigned w a < toSigned w b)

/-- A minimum or maximum per lane (R52): SA where `f` holds, else SB. -/
def aluPick (f : Nat → Nat → Nat → Bool) (form : BitVec 5) (a b : Word) : Alu :=
  resNZ (laneMap form (fun w x y => if f w x y then x else y) a b)

/-- A shift by SB[4:0] (R53); `out` is the last bit shifted out. -/
def aluShift (r : Word) (k : Nat) (out : Bool) : Alu := { lo := some r, fl := flagsShift k out r }

/-- Rows of R52 by the sources they take: two, one, three, SA and XT, none. -/
def rowAB (code : Nat) (role : XtRole) : OpRow := { code := code, role := role }
def rowA (code : Nat) : OpRow := { code := code, role := .imm }
def rowABX (code : Nat) : OpRow := { code := code, role := .src3 }
def rowNone (code : Nat) (role : XtRole) : OpRow := { code := code, role := role }

/-- NOP (R52): nothing but the SEQ action. -/
def execNop (c k : Nat) (m : Micro) (s : State) : Res' := aluIssue (rowNone 0x00 .imm) (fun _ => {}) c k m s
/-- MOV (R52). -/
def execMov (c k : Nat) (m : Micro) (s : State) : Res' := aluIssue (rowA 0x01) (fun o => resNZ o.a) c k m s
/-- ADD (R52, R53). -/
def execAdd (c k : Nat) (m : Micro) (s : State) : Res' :=
  aluIssue (rowAB 0x02 .lane) (fun o => aluAdd (laneForm m) o.a o.b) c k m s
/-- ADC (R52, R56). -/
def execAdc (c k : Nat) (m : Micro) (s : State) : Res' :=
  aluIssue { rowAB 0x03 .imm with chain := true } (fun o => aluAdc o.a o.b o.cin) c k m s
/-- SUB (R52, R53). -/
def execSub (c k : Nat) (m : Micro) (s : State) : Res' :=
  aluIssue (rowAB 0x04 .lane) (fun o => aluSub (laneForm m) o.a o.b) c k m s
/-- SBC (R52, R56). -/
def execSbc (c k : Nat) (m : Micro) (s : State) : Res' :=
  aluIssue { rowAB 0x05 .imm with chain := true } (fun o => aluAdc o.a (~~~o.b) o.cin) c k m s
/-- SADD (R53). -/
def execSadd (c k : Nat) (m : Micro) (s : State) : Res' :=
  aluIssue (rowAB 0x06 .lane) (fun o => aluSat true false (laneForm m) o.a o.b) c k m s
/-- SSUB (R53). -/
def execSsub (c k : Nat) (m : Micro) (s : State) : Res' :=
  aluIssue (rowAB 0x07 .lane) (fun o => aluSat true true (laneForm m) o.a o.b) c k m s
/-- UADD (R53). -/
def execUadd (c k : Nat) (m : Micro) (s : State) : Res' :=
  aluIssue (rowAB 0x08 .lane) (fun o => aluSat false false (laneForm m) o.a o.b) c k m s
/-- USUB (R53). -/
def execUsub (c k : Nat) (m : Micro) (s : State) : Res' :=
  aluIssue (rowAB 0x09 .lane) (fun o => aluSat false true (laneForm m) o.a o.b) c k m s
/-- AND (R52). -/
def execAnd (c k : Nat) (m : Micro) (s : State) : Res' := aluIssue (rowAB 0x0A .imm) (fun o => resNZ (o.a &&& o.b)) c k m s
/-- OR (R52). -/
def execOr (c k : Nat) (m : Micro) (s : State) : Res' := aluIssue (rowAB 0x0B .imm) (fun o => resNZ (o.a ||| o.b)) c k m s
/-- XOR (R52). -/
def execXor (c k : Nat) (m : Micro) (s : State) : Res' := aluIssue (rowAB 0x0C .imm) (fun o => resNZ (o.a ^^^ o.b)) c k m s
/-- ANDN (R52). -/
def execAndn (c k : Nat) (m : Micro) (s : State) : Res' := aluIssue (rowAB 0x0D .imm) (fun o => resNZ (o.a &&& ~~~o.b)) c k m s
/-- SHL (R52, R53). -/
def execShl (c k : Nat) (m : Micro) (s : State) : Res' :=
  aluIssue (rowAB 0x0E .imm) (fun o => let n := o.b.toNat % 32; aluShift (o.a <<< n) n (o.a.getLsbD (32 - n))) c k m s
/-- SHR (R52, R53). -/
def execShr (c k : Nat) (m : Micro) (s : State) : Res' :=
  aluIssue (rowAB 0x0F .imm) (fun o => let n := o.b.toNat % 32; aluShift (o.a >>> n) n (o.a.getLsbD (n - 1))) c k m s
/-- SAR (R52, R53). -/
def execSar (c k : Nat) (m : Micro) (s : State) : Res' :=
  aluIssue (rowAB 0x10 .imm) (fun o => let n := o.b.toNat % 32; aluShift (o.a.sshiftRight n) n (o.a.getLsbD (n - 1))) c k m s
/-- ROR (R52). -/
def execRor (c k : Nat) (m : Micro) (s : State) : Res' := aluIssue (rowAB 0x11 .imm) (fun o => resNZ (ror o.a o.b)) c k m s
/-- FSHL (R52). -/
def execFshl (c k : Nat) (m : Micro) (s : State) : Res' := aluIssue (rowABX 0x12) (fun o => resNZ (fshl o.a o.b o.x)) c k m s
/-- FSHR (R52). -/
def execFshr (c k : Nat) (m : Micro) (s : State) : Res' := aluIssue (rowABX 0x13) (fun o => resNZ (fshr o.a o.b o.x)) c k m s
/-- CMPEQ (R52, R53). -/
def execCmpeq (c k : Nat) (m : Micro) (s : State) : Res' :=
  aluIssue (rowAB 0x14 .lane) (fun o => aluCmp (fun _ x y => decide (x = y)) (laneForm m) o.a o.b) c k m s
/-- CMPLT (R52, R53). -/
def execCmplt (c k : Nat) (m : Micro) (s : State) : Res' :=
  aluIssue (rowAB 0x15 .lane) (fun o => aluCmp ltS (laneForm m) o.a o.b) c k m s
/-- CMPLTU (R52, R53). -/
def execCmpltu (c k : Nat) (m : Micro) (s : State) : Res' :=
  aluIssue (rowAB 0x16 .lane) (fun o => aluCmp (fun _ x y => decide (x < y)) (laneForm m) o.a o.b) c k m s
/-- MIN (R52). -/
def execMin (c k : Nat) (m : Micro) (s : State) : Res' :=
  aluIssue (rowAB 0x17 .lane) (fun o => aluPick ltS (laneForm m) o.a o.b) c k m s
/-- MAX (R52). -/
def execMax (c k : Nat) (m : Micro) (s : State) : Res' :=
  aluIssue (rowAB 0x18 .lane) (fun o => aluPick (fun w x y => ltS w y x) (laneForm m) o.a o.b) c k m s
/-- MINU (R52). -/
def execMinu (c k : Nat) (m : Micro) (s : State) : Res' :=
  aluIssue (rowAB 0x19 .lane) (fun o => aluPick (fun _ x y => decide (x < y)) (laneForm m) o.a o.b) c k m s
/-- MAXU (R52). -/
def execMaxu (c k : Nat) (m : Micro) (s : State) : Res' :=
  aluIssue (rowAB 0x1A .lane) (fun o => aluPick (fun _ x y => decide (y < x)) (laneForm m) o.a o.b) c k m s
/-- SEL (R52). -/
def execSel (c k : Nat) (m : Micro) (s : State) : Res' :=
  aluIssue (rowAB 0x1B .imm) (fun o => resPlain (if o.f.p then o.a else o.b)) c k m s
/-- BSEL (R52). -/
def execBsel (c k : Nat) (m : Micro) (s : State) : Res' :=
  aluIssue (rowABX 0x1C) (fun o => resPlain ((o.a &&& o.x) ||| (o.b &&& ~~~o.x))) c k m s
/-- TST (R52). -/
def execTst (c k : Nat) (m : Micro) (s : State) : Res' :=
  aluIssue (rowAB 0x1D .imm) (fun o => let r := o.a &&& o.b
    { lo := some r, fl := { p := some (decide (r ≠ 0)), z := some (decide (r = 0)) } }) c k m s
/-- CRCR8 (R53). -/
def execCrcr8 (c k : Nat) (m : Micro) (s : State) : Res' := aluIssue (rowABX 0x26) (fun o => resZ (crcR8 o.a o.b o.x)) c k m s
/-- CRCN8 (R53). -/
def execCrcn8 (c k : Nat) (m : Micro) (s : State) : Res' := aluIssue (rowABX 0x27) (fun o => resZ (crcN8 o.a o.b o.x)) c k m s
/-- CLZ (R52). -/
def execClz (c k : Nat) (m : Micro) (s : State) : Res' :=
  aluIssue (rowA 0x28) (fun o => resZ (BitVec.ofNat 32 (leadZeros o.a))) c k m s
/-- POPC (R52). -/
def execPopc (c k : Nat) (m : Micro) (s : State) : Res' :=
  aluIssue (rowA 0x29) (fun o => resZ (BitVec.ofNat 32 (popCount o.a))) c k m s
def rowAX (code : Nat) : OpRow := { code := code, role := .src3 }
/-- BFX (R53). -/
def execBfx (c k : Nat) (m : Micro) (s : State) : Res' := aluIssue (rowAX 0x2A) (fun o => resNZ (bfx o.a o.x)) c k m s
/-- BFXS (R53). -/
def execBfxs (c k : Nat) (m : Micro) (s : State) : Res' := aluIssue (rowAX 0x2B) (fun o => resNZ (bfxs o.a o.x)) c k m s
/-- BFI (R53). -/
def execBfi (c k : Nat) (m : Micro) (s : State) : Res' := aluIssue (rowABX 0x2C) (fun o => resNZ (bfi o.a o.b o.x)) c k m s
/-- PERM (R53). -/
def execPerm (c k : Nat) (m : Micro) (s : State) : Res' := aluIssue (rowABX 0x2D) (fun o => resPlain (perm o.a o.b o.x)) c k m s
/-- LDLC (R55): LC takes SA[7:0]. -/
def execLdlc (c k : Nat) (m : Micro) (s : State) : Res' :=
  aluIssue (rowA 0x35) (fun o => { lc := some (BitVec.ofNat 8 o.a.toNat) }) c k m s
/-- GETF (R53). -/
def execGetf (c k : Nat) (m : Micro) (s : State) : Res' :=
  aluIssue (rowNone 0x36 .imm) (fun o => resPlain o.f.word) c k m s
/-- SETF (R53): every flag from SA[5:0]. -/
def execSetf (c k : Nat) (m : Micro) (s : State) : Res' :=
  aluIssue (rowA 0x37) (fun o => { fl := flagsAll (Flags.ofWord o.a) }) c k m s

end Sys2Proof.Machine
end

