-- ==== Sys2Proof/Machine/CellMul.lean ====
section
/-! DEFINITION. The cell operations of latency 2 on words (R43, R46, R49, R52, R53): products, DOT4, carry-less products. -/

namespace Sys2Proof.Machine

/-- MUL (R53): the low 32 bits, N and Z of the result, latency 2. -/
def execMul (c k : Nat) (m : Micro) (s : State) : Res' :=
  aluIssue (rowAB 0x1E .imm) (fun o => { resNZ (o.a * o.b) with late := true }) c k m s

/-- A 64-bit product for a destination pair (R43). -/
def aluWide (r : BitVec 64) : Alu :=
  { lo := some (BitVec.ofNat 32 r.toNat), hi := some (BitVec.ofNat 32 (r.toNat / 2 ^ 32)), fl := flagsNZ64 r, late := true }

/-- MULW (R43, R53). -/
def execMulw (c k : Nat) (m : Micro) (s : State) : Res' :=
  aluIssue { rowAB 0x1F .imm with wide := true } (fun o => aluWide (o.a.signExtend 64 * o.b.signExtend 64)) c k m s
/-- MULWU (R43, R53). -/
def execMulwu (c k : Nat) (m : Micro) (s : State) : Res' :=
  aluIssue { rowAB 0x20 .imm with wide := true } (fun o => aluWide (o.a.zeroExtend 64 * o.b.zeroExtend 64)) c k m s

def rowDot (code : Nat) : OpRow := { rowABX code with dot4 := true }
def aluDot (r : Word) : Alu := { lo := some r, late := true, dot4 := true }

/-- DOT4SS (R53). -/
def execDot4ss (c k : Nat) (m : Micro) (s : State) : Res' :=
  aluIssue (rowDot 0x21) (fun o => aluDot (dot4 true true o.a o.b o.x)) c k m s
/-- DOT4UU (R53). -/
def execDot4uu (c k : Nat) (m : Micro) (s : State) : Res' :=
  aluIssue (rowDot 0x22) (fun o => aluDot (dot4 false false o.a o.b o.x)) c k m s
/-- DOT4SU (R53): SA signed, SB unsigned. -/
def execDot4su (c k : Nat) (m : Micro) (s : State) : Res' :=
  aluIssue (rowDot 0x23) (fun o => aluDot (dot4 true false o.a o.b o.x)) c k m s
/-- CLMULL (R52). -/
def execClmull (c k : Nat) (m : Micro) (s : State) : Res' :=
  aluIssue (rowAB 0x24 .imm) (fun o => { resZ (BitVec.ofNat 32 (clmul o.a o.b).toNat) with late := true }) c k m s
/-- CLMULH (R52). -/
def execClmulh (c k : Nat) (m : Micro) (s : State) : Res' :=
  aluIssue (rowAB 0x25 .imm) (fun o => { resZ (BitVec.ofNat 32 ((clmul o.a o.b).toNat / 2 ^ 32)) with late := true }) c k m s

end Sys2Proof.Machine
end

