-- ==== Sys2Proof/Machine/CellPort.lean ====
section
/-! DEFINITION. The cell operations that reach beyond the cell (R60, R61, R68, R70, R72-R75, R125, R143-R146): cluster memory, the
firing bundle, the emitter and commit buffer, response slots, plane switch, task end. -/

namespace Sys2Proof.Machine

/-! Cluster memory (R72-R75) -/

/-- A word as LDC reads it: an unwritten word is zero (R74). -/
def Cluster.load (x : Cluster) (a : Word) : Word :=
  if smGet false x.written (cmWord a) then bytesWord (smGetList 0 x.mem (cmByte a) 4) else 0

/-- STC (R73, R74): the other half of a word not yet written becomes zero. -/
def Cluster.store (x : Cluster) (a v : Word) : Cluster :=
  let w := cmWord a
  let m := if smGet false x.written w then x.mem else smSetList 0 x.mem (8 * w) (List.replicate 8 0)
  { x with mem := smSetList 0 m (cmByte a) (wordBytes v), written := smSet false x.written w true }

/-- Count one access of the port in the open cycle (R73). -/
def State.portUsed (s : State) (c : Nat) : State :=
  s.setCluster c { s.cluster c with memAcc := (s.cluster c).memAcc + 1 }

/-- A correctable word of cluster memory is met: corrected and written back (R257). -/
def State.cmFix (s : State) (c : Nat) (a : Word) : State :=
  if (s.cluster c).markAt a = .ce then
    (s.setCluster c { s.cluster c with memMark := smDel (s.cluster c).memMark (cmWord a) }).countCe (unitCmem c)
  else s

/-- LDC (R52, R73-R75): latency 2. -/
def execLdc (c k : Nat) (m : Micro) (s : State) : Res' :=
  cellIssue (rowAB 0x30 .imm)
    (fun s o => { lo := some ((s.cluster c).load (o.a + o.b)), late := true })
    (fun s o => (s.cmFix c (o.a + o.b)).portUsed c) c k m s

/-- STC (R52, R73-R75): the byte address is SA + X, the data SB. -/
def execStc (c k : Nat) (m : Micro) (s : State) : Res' :=
  cellIssue (rowABX 0x31) (fun _ _ => {})
    (fun s o =>
      let s := s.cmFix c (o.a + o.x)
      (s.setCluster c ((s.cluster c).store (o.a + o.x) o.b)).portUsed c) c k m s

/-! The firing bundle -/

/-- TCON (R53): XT[3:0] the port, XT[4] the half; a port the bundle has no token for writes nothing (R66: the loader rejects such a microinstruction). -/
def execTcon (c k : Nat) (m : Micro) (s : State) : Res' :=
  cellIssue (rowNone 0x2E (.field 0x1F#5))
    (fun s _ => match s.runInst c with
      | none => {}
      | some x => match x.bundle.find? (fun b => decide (b.2.t.port.toNat = m.xt.toNat % 16)) with
        | none => {}
        | some b => resPlain (BitVec.ofNat 32 (b.2.t.value.toNat / 2 ^ (32 * (m.xt.toNat / 16)))))
    (fun s _ => s) c k m s

/-! The emitter and the commit buffer (R61, R125, R143-R145) -/

/-- Emit descriptor `d` of a plane (R125). -/
def State.emitDesc (s : State) (c p d : Nat) : Nat :=
  (s.img c p (448 + 2 * d)).toNat + 2 ^ 32 * (s.img c p (449 + 2 * d)).toNat

/-- The destination of a descriptor (R125). -/
def emitDest (d : Nat) : TokDest :=
  match d / 2 ^ 62 with
  | 1 => .queue
  | 2 => .mirror
  | _ => .mst

/-- The token of a descriptor, an instance and a VALUE (R125, R126). -/
def State.emitToken (s : State) (x : Inst) (d : Nat) (v : DWord) : Token :=
  let ctx : BitVec 12 := BitVec.ofNat 12 (d / 2 ^ 50)
  { ctx := ctx
    port := BitVec.ofNat 4 (d / 2 ^ 46)
    kind := kindOf (d / 2 ^ 44)
    pri := match d / 2 ^ 39 % 4 with
      | 0 => BitVec.ofNat 3 (d / 2 ^ 41)
      | 1 => x.pri
      | _ => (s.dirEnt ctx.toNat).pridef
    flow := if d / 2 ^ 38 % 2 = 1 then x.flow else BitVec.ofNat 18 (d / 2 ^ 10)
    inst := if d / 2 ^ 36 % 4 = 1 then x.inst + (BitVec.ofNat 8 (d / 2 ^ 28)).signExtend 24 else x.inst
    poison := false
    value := v }

/-- The endpoint an entry leaves for (R198, R486, R535). -/
def sinkPort : CbWhat → PortId
  | .store a _ => addrPort a
  | .token .mst t => mstPort t.flow.toNat
  | .token .queue t => queuePort t.flow.toNat
  | .token .mirror _ => hpPort

/-- Packet type and priority of an entry (R200, R206): TOKEN, WR_REQ, or REG for a register. -/
def sendTyp (pri : Nat) : CbWhat → Nat × Nat
  | .store a _ => (if isMem a then 3 else 6, pri)
  | .token _ t => (0, t.pri.toNat)

def CbEntry.isStore (e : CbEntry) : Bool :=
  match e.what with
  | .store _ _ => true
  | .token _ _ => false

/-- The store that requests a fence (R240). -/
def CbEntry.isFence (e : CbEntry) : Bool :=
  match e.what with
  | .store a _ => decide (a = GARNET_FENCE)
  | .token _ _ => false

/-- The store goes to a register block (R16). -/
def CbEntry.isReg (e : CbEntry) : Bool :=
  match e.what with
  | .store a _ => inBlocks a
  | .token _ _ => false

/-- The entries before the first that may not leave yet. -/
def leavePrefix (waits : Nat × CbEntry → Bool) : List (Nat × CbEntry) → List (Nat × CbEntry)
  | [] => []
  | e :: es => if e.2.pid.isNone && waits e then [] else e :: leavePrefix waits es

/-- The stores of an instance that were written before an entry and are still in its buffers. -/
def storesBefore (all : List (Nat × CbEntry)) (e : CbEntry) : Bool := all.any (fun p => p.2.isStore && decide (p.2.seq < e.seq))

/-- Register-block stores of earlier tasks of the cluster that have not left it (R16). -/
def State.regsBefore (s : State) (iid c : Nat) : Bool :=
  ((s.cluster c).cb.takeWhile (fun e => decide (e.iid ≠ iid))).any (fun e => e.isReg && e.pid.isNone)

/-- The entries of an instance that may leave now, in order: of a REPLAYABLE one, committed, the stores of its lowest cluster that has any left, and the
tokens once every store has been acknowledged; of a DIRECT task all of them in issue order in each cluster, its register-block stores behind those of
earlier tasks of the cluster (R16, R143, R148, R149). A fence store waits for every earlier store of the instance (R240). -/
def State.sendable (s : State) (x : Inst) : List (Nat × CbEntry) :=
  let es := (s.entriesOf x).filter (fun p => p.2.go)
  let fence (p : Nat × CbEntry) : Bool := p.2.isFence && storesBefore es p.2
  let now :=
    if (s.dirEnt x.ctx.toNat).replayable then
      match es.find? (fun p => p.2.isStore) with
      | some (c, _) => leavePrefix fence (es.filter (fun p => p.2.isStore && decide (p.1 = c)))
      | none => es
    else x.clusters.flatMap (fun c =>
      leavePrefix (fun p => fence p || (p.2.isReg && s.regsBefore x.iid c)) (es.filter (fun p => decide (p.1 = c))))
  now.filter (fun p => p.2.pid.isNone)

/-- Replace the first element equal to `e`. -/
def swapFirst (e : CbEntry) (r : List CbEntry) : List CbEntry → List CbEntry
  | [] => []
  | x :: xs => if x = e then r ++ xs else x :: swapFirst e r xs

/-- A store that failed after the commit point (R150): to be reported by an error token, and recorded. -/
def State.storeErr (s : State) (iid : Nat) (addr : BitVec 48) : State :=
  match s.inst iid with
  | some x => (s.setInst { x with storeErrs := x.storeErrs ++ [addr] }).record 0x30 2 (instDetail x ++ natBytes 6 addr.toNat)
  | none => s

/-- An entry whose code is UE or POISON is read for sending (R256, R537): its store or token is lost. Which word of it is at fault is free (log
entry 4). -/
def State.badEntry (s : State) (c : Nat) (e : CbEntry) : State :=
  let s := s.cbBad c e.code
  let s := s.setCluster c { s.cluster c with cb := swapFirst e [] (s.cluster c).cb }
  match s.inst e.iid with
  | some x =>
    if x.st.open then s.abort e.iid 4 0
    else if x.dabort then s
    else match e.what with
      | .store a _ => s.drawn.storeErr e.iid (if s.freeVal.getLsbD 0 then 0xFFFFFFFFFFFF#48 else BitVec.ofNat 48 a)
      | .token _ _ => s.storeErr e.iid 0xFFFFFFFFFFFF#48
  | none => s

/-- The entry of a cluster that a packet carries. -/
def State.entryOf (s : State) (c pid : Nat) : Option CbEntry := (s.cluster c).cb.find? (fun e => decide (e.pid = some pid))

/-- What a packet of a cluster is addressed to (R211): the word of a load or store, the input of the matching store or queue engine of a token. -/
def State.pktAddr (s : State) (p : Pkt) : Option (Nat × Nat) :=
  let of (w : CbWhat) : Nat × Nat := match w with
    | .store a _ => (0, a / 4)
    | .token _ _ => (1, portKey (sinkPort w))
  match p.what with
  | .entry c => (s.entryOf c p.pid).map (fun e => of e.what)
  | .load c _ => ((s.cluster c).rlds.find? (fun r => decide (r.pid = p.pid))).map (fun r => (0, r.addr / 4))
  | _ => none

/-- An entry leaves: its packet is made; a store outside the ranges of R32 is answered by the emitter itself with an error (R33). -/
def State.sendEntry (s : State) (pri : Nat) (p : Nat × CbEntry) : State :=
  let c := p.1
  let e := p.2
  if !(s.cluster c).cb.contains e then s
  else if e.code.bad then s.badEntry c e
  else
    let s := if e.code = .ce then s.countCe (unitCb c) else s
    let lost : Option Nat := match e.what with
      | .store a _ => if addrKnown a then none else some a
      | .token _ _ => none
    match lost with
    | some a => (s.setCluster c { s.cluster c with cb := swapFirst e [] (s.cluster c).cb }).storeErr e.iid (BitVec.ofNat 48 a)
    | none =>
      let t := s.setCluster c { s.cluster c with cb := swapFirst e [{ e with code := .clean, pid := some s.noc.nextId }] (s.cluster c).cb }
      let k := sendTyp pri e.what
      let dest : Option (Nat × Nat) := match e.what with
        | .store a _ => some (0, a / 4)
        | .token _ _ => some (1, portKey (sinkPort e.what))
      t.inject k.1 0 k.2 (clusterPort c) (sinkPort e.what) (.entry c) (fun q => decide (t.pktAddr q = dest))

/-- Entries leave one after another for as long as one may. -/
def State.sendFuel (s : State) (iid : Nat) : Nat → State
  | 0 => s
  | n + 1 => match s.inst iid with
    | some x => (match s.sendable x with
        | p :: _ => (s.sendEntry x.pri.toNat p).sendFuel iid n
        | [] => s)
    | none => s

/-- Whatever entries of an instance may leave do. -/
def State.sendEntries (s : State) (iid : Nat) : State :=
  match s.inst iid with
  | some x => s.sendFuel iid (s.entriesOf x).length
  | none => s

/-- The place of a new entry among those of its instance: after all that it still holds. -/
def State.cbSeq (s : State) (x : Inst) : Nat := (s.entriesOf x).foldl (fun n p => Nat.max n (p.2.seq + 1)) 0

/-- Write an entry (R143): of a DIRECT task it leaves at once. -/
def State.cbPut (s : State) (c : Nat) (x : Inst) (w : CbWhat) : State :=
  let direct := !(s.dirEnt x.ctx.toNat).replayable
  let e : CbEntry := ⟨x.iid, w, s.cbSeq x, direct, .clean, none⟩
  let s := s.setCluster c { s.cluster c with cb := (s.cluster c).cb ++ [e], emits := (s.cluster c).emits + 1 }
  if direct then s.sendEntries x.iid else s

/-- TEMIT (R53, R125, R143): a token with VALUE {SB, SA} enters the commit buffer. -/
def execTemit (c k : Nat) (m : Micro) (s : State) : Res' :=
  cellIssue (rowAB 0x2F (.field 0x0F#5)) (fun _ _ => {})
    (fun s o => match s.runInst c with
      | none => s
      | some x =>
        let d := s.emitDesc c o.p (m.xt.toNat % 16)
        s.cbPut c x (.token (emitDest d) (s.emitToken x d (o.b ++ o.a)))) c k m s

/-- RST (R53, R143): the address is {X[15:0], SA[31:2], 00}, the data SB. -/
def execRst (c k : Nat) (m : Micro) (s : State) : Res' :=
  cellIssue (rowABX 0x33) (fun _ _ => {})
    (fun s o => match s.runInst c with
      | none => s
      | some x => s.cbPut c x (.store (remoteAddr o.x o.a) o.b)) c k m s

/-! Response slots and remote loads (R60, R145, R146) -/

/-- An RLD sets its slot at the end of its cycle (R60, R145); the last of several in the order of their cells. -/
def Cluster.slotSet (x : Cluster) (i : Nat) (v : Slot) : Cluster :=
  { x with slotUpd := x.slotUpd.filter (fun u => decide (u.1 ≠ i)) ++ [(i, v)] }

/-- An RSP empties its slot at the end of its cycle (R60). Commands read a slot as it stood at the start of their cycle, and an RLD of the same cycle
prevails over an RSP (DESIGN CHOICE, log entry 91). -/
def Cluster.slotTake (x : Cluster) (i : Nat) : Cluster :=
  if x.slotUpd.any (fun u => decide (u.1 = i)) then x else { x with slotUpd := x.slotUpd ++ [(i, .empty)] }

/-- A response sets the slot it owns (R60, R146), be it one that becomes PENDING in the open cycle. -/
def State.slotFill (s : State) (c slot : Nat) (v : Word) (st : RspStatus) : State :=
  let cl := s.cluster c
  if cl.slotUpd.any (fun u => decide (u.1 = slot)) then s.setCluster c (cl.slotSet slot (.full v st))
  else s.setCluster c { cl with slots := smSet .empty cl.slots slot (.full v st) }

/-- An RLD takes its slot: an earlier request or unread response for it is discarded (R60). One that is answered at once uses up the number its packet
would have had. -/
def State.rldAsk (s : State) (c slot a : Nat) (v : Slot) : State :=
  let s := s.dropLoads c (fun i => decide (i = slot))
  let cl := s.cluster c
  let next := if v = .pending then s.noc.nextId else s.noc.nextId + 1
  let r : RldReq := { slot := slot, addr := a, pid := s.noc.nextId }
  let cl := { cl with emits := cl.emits + 1, rlds := cl.rlds.filter (fun (x : RldReq) => decide (x.slot ≠ slot)) ++ [r] }
  State.setCluster { s with noc := { s.noc with nextId := next } } c (cl.slotSet slot v)

/-- The request of an RLD leaves for its target (R145, R200): RD_REQ, or REG for a register. -/
def State.rldSend (s : State) (c slot a : Nat) : State :=
  s.inject (if isMem a then 2 else 6) 0 (s.instPri (s.cluster c).run) (clusterPort c) (addrPort a) (.load c slot)
    (fun q => decide (s.pktAddr q = some (0, a / 4)))

/-- RLD (R53, R60, R145, R537): a REPLAYABLE task is answered from its cluster's commit buffer where an entry matches; an address outside the ranges of
R32 is answered by the emitter with an error (R33). -/
def execRld (c k : Nat) (m : Micro) (s : State) : Res' :=
  cellIssue (rowAB 0x32 (.field 0x0F#5)) (fun _ _ => {})
    (fun s o =>
      let a := remoteAddr o.b o.a
      let slot := m.xt.toNat % 16
      match s.rldHit c a with
      | none => if addrKnown a then (s.rldAsk c slot a .pending).rldSend c slot a else s.rldAsk c slot a (.full 0 .error)
      | some (e, v) =>
        if e.code.bad then (s.rldAsk c slot a (.full v .poisoned)).cbBad c e.code
        else if e.code = .ce then
          let t := s.rldAsk c slot a (.full v .normal)
          (t.setCluster c { t.cluster c with cb := swapFirst e [{ e with code := .clean }] (t.cluster c).cb }).countCe (unitCb c)
        else s.rldAsk c slot a (.full v .normal)) c k m s

/-- RSP (R60, R146): a FULL slot gives its value and becomes EMPTY, an EMPTY one gives zero; a PENDING one stalls and a response that is not normal
aborts (`State.cellWaits`, `State.opRaise`). -/
def execRsp (c k : Nat) (m : Micro) (s : State) : Res' :=
  let i := m.xt.toNat % 16
  cellIssue (rowNone 0x34 (.field 0x0F#5))
    (fun s _ => match (s.cluster c).slotAt i with
      | .full v .normal => resPlain v
      | _ => resPlain 0)
    (fun s _ => s.setCluster c ((s.cluster c).slotTake i)) c k m s

/-! Plane switch and task end (R68-R70) -/

/-- PSW (R68): the cluster issues from the target plane from the next cycle. Only cell 0 may issue it (R66). -/
def execPsw (c k : Nat) (m : Micro) (s : State) : Res' :=
  if k ≠ 0 then (if k < 32 then .refused .illegalMicro else .fault .noSuchUnit)
  else cellIssue (rowNone 0x38 (.field 0x03#5)) (fun _ _ => {})
    (fun s _ =>
      let cl := s.cluster c
      match s.validPlane c cl.ctx (posOf (s.dirEnt cl.ctx.toNat).shape c) (m.xt.toNat % 4) with
      | some p => s.setCluster c { cl with psw := some p }
      | none => s) c k m s

/-- TEND (R70): the next cycle is the last in which the instance issues. -/
def execTend (c k : Nat) (m : Micro) (s : State) : Res' :=
  cellIssue (rowNone 0x39 .imm) (fun _ _ => {})
    (fun s _ => match s.runInst c with
      | some x => if x.st = .running then s.setInst { x with tend := true } else s
      | none => s) c k m s

end Sys2Proof.Machine
end

