-- ==== Sys2Proof/Machine/ImagePlane.lean ====
section
/-! DEFINITION. What the loader checks in a plane (R66, R79-R91, R95, R127) and in a directory entry (R99). -/

namespace Sys2Proof.Machine

/-! Microinstructions (R66) -/

/-- Role of XT and wideness of each operation code (R52); none for a reserved code. -/
def opRole (op : Nat) : Option (XtRole × Bool) :=
  let lanes := [0x02, 0x04, 0x06, 0x07, 0x08, 0x09, 0x14, 0x15, 0x16, 0x17, 0x18, 0x19, 0x1A]
  let srcs := [0x12, 0x13, 0x1C, 0x21, 0x22, 0x23, 0x26, 0x27, 0x2A, 0x2B, 0x2C, 0x2D, 0x31, 0x33]
  if op > 0x39 then none
  else if lanes.contains op then some (.lane, false)
  else if srcs.contains op then some (.src3, false)
  else if op = 0x1F ∨ op = 0x20 then some (.imm, true)
  else if op = 0x2E then some (.field 31, false)
  else if op = 0x2F ∨ op = 0x32 ∨ op = 0x34 then some (.field 15, false)
  else if op = 0x38 then some (.field 3, false)
  else some (.imm, false)

/-- A microinstruction of cell `k` passes, the signature and the planes of its context included (R66). -/
def microPasses (d : DirEnt) (k : Nat) (w : Word) : Bool :=
  let om := microOf w
  match opRole om.1 with
  | none => false
  | some (role, wide) =>
    Micro.ok om.2 role wide &&
    (decide (om.1 ≠ 0x2E) || tb d.w0 (om.2.xt.toNat % 16)) &&
    (decide (om.1 ≠ 0x38) || (decide (k = 0) && decide (om.2.xt.toNat < d.planes)))

/-! Cell records: a plane is read as a function of its word number -/

/-- The CHMODE of each cell obeys R58; code 0b11 is reserved (R56). -/
def chModesOk (w : Nat → Word) : Bool :=
  let md (r c : Nat) : Nat := fld (w (14 * (8 * r + c) + 11)) 20 19
  (List.range 4).all (fun r => decide (md r 0 = 0) && (List.range 8).all (fun c => decide (md r c ≠ 3)) &&
    (List.range 5).all (fun c => !(decide (md r c = 1) && decide (md r (c + 1) = 1) && decide (md r (c + 2) = 1) && decide (md r (c + 3) = 1))))

/-- The directions of a switch point. -/
inductive Dir where
  | e | w | n | s
deriving DecidableEq, Repr

/-- A direction field of an output word: SRC, LEN, REG (R81). -/
structure DirFld where
  src : Nat
  len : Nat
  reg : Bool
deriving DecidableEq, Repr

def dirFld (v : Word) : Dir → DirFld
  | .e => ⟨fld v 3 0, fld v 6 4, tb v 7⟩
  | .w => ⟨fld v 11 8, fld v 14 12, tb v 15⟩
  | .n => ⟨fld v 19 16, fld v 21 20, tb v 22⟩
  | .s => ⟨fld v 26 23, fld v 28 27, tb v 29⟩

/-- The segment of length bit `b` driven by cell `k` in a direction exists (R79). -/
def segExists (k : Nat) (d : Dir) (b : Nat) : Bool :=
  let l := 2 ^ b
  match d with
  | .e => decide (k % 8 + l < 8)
  | .w => decide (l ≤ k % 8)
  | .n => decide (k / 8 + l < 4)
  | .s => decide (l ≤ k / 8)

/-- The driver behind a source code 3-12 at cell `k`: cell, direction, length bit, hop delay in ps at OPP3 (R80, R86); none where the cell
would lie outside the cluster. -/
def segSource (k code : Nat) : Option (Nat × Dir × Nat × Nat) :=
  let x := k % 8
  let y := k / 8
  let west (l b h : Nat) := if l ≤ x then some (k - l, Dir.e, b, h) else none
  let east (l b h : Nat) := if x + l < 8 then some (k + l, Dir.w, b, h) else none
  let south (l b h : Nat) := if l ≤ y then some (k - 8 * l, Dir.n, b, h) else none
  let north (l b h : Nat) := if y + l < 4 then some (k + 8 * l, Dir.s, b, h) else none
  match code with
  | 3 => west 1 0 70
  | 4 => west 2 1 85
  | 5 => west 4 2 115
  | 6 => east 1 0 70
  | 7 => east 2 1 85
  | 8 => east 4 2 115
  | 9 => south 1 0 75
  | 10 => south 2 1 95
  | 11 => north 1 0 75
  | 12 => north 2 1 95
  | _ => none

/-- The output word of a cell. -/
def outWord (w : Nat → Word) (k : Nat) : Word := w (14 * k + 10)

/-- A source code names something that is driven: Y, Z, a driven segment, or VL in a column pair (R95). -/
def srcDriven (w : Nat → Word) (pair : Bool) (k code : Nat) : Bool :=
  if code = 1 ∨ code = 2 then true
  else if code = 13 then pair
  else match segSource k code with
    | some (j, d, b, _) =>
      let f := dirFld (outWord w j) d
      decide (f.src ≠ 0) && Nat.testBit f.len b
    | none => false

/-- A direction of a cell passes (R81, R95). -/
def dirPasses (w : Nat → Word) (pair : Bool) (k : Nat) (d : Dir) : Bool :=
  let f := dirFld (outWord w k) d
  if f.src = 0 then decide (f.len = 0) && !f.reg
  else decide (f.len ≠ 0) && decide (f.src ≤ 13) && [0, 1, 2].all (fun b => !(Nat.testBit f.len b) || segExists k d b) && srcDriven w pair k f.src

def allDirs : List Dir := [.e, .w, .n, .s]

/-- Input select `j` of a cell (R82). -/
def inSel (w : Nat → Word) (k j : Nat) : Nat := (w (14 * k + 8 + j / 2)).toNat / 2 ^ (16 * (j % 2)) % 65536

/-- An input select passes (R82, R95). -/
def inPasses (w : Nat → Word) (pair : Bool) (k j : Nat) : Bool :=
  let v := inSel w k j
  let src := v % 64
  decide (v < 128) && (decide (src = 0) || decide (32 ≤ src) || (decide (3 ≤ src) && decide (src ≤ 13) && srcDriven w pair k src))

/-- What a source carries, in ps from the clock edge (R86-R88): a loop, a value that arrives after a time, or nothing, since no register drives it. -/
inductive PathTime where
  | loop
  | idle
  | at (t : Nat)
deriving DecidableEq, Repr

/-- One hop more. -/
def PathTime.hop (h : Nat) : PathTime → PathTime
  | .at t => .at (t + h)
  | x => x

/-- The cell link arriving at a cell (R80, R88): launched by Y or Z of the partner cell where the partner plane `pw` drives it. -/
def linkTime (pw : Nat → Word) (k : Nat) : PathTime := if fld (outWord pw k) 31 30 = 0 then .idle else .at 110

/-- When a driver's value is on its way: launch, or the arrival of its source (R86, R87). -/
def drvTime (w pw : Nat → Word) : Nat → Nat → Dir → PathTime
  | 0, _, _ => .loop
  | fuel + 1, k, d =>
    let f := dirFld (outWord w k) d
    if f.reg ∨ f.src = 1 ∨ f.src = 2 then .at 50
    else if f.src = 13 then linkTime pw k
    else match segSource k f.src with
      | some (j, dd, _, h) => (drvTime w pw fuel j dd).hop h
      | none => .idle

/-- Arrival of a source at a cell (R87). -/
def arrTime (w pw : Nat → Word) (k code : Nat) : PathTime :=
  if code = 13 then linkTime pw k
  else match segSource k code with
    | some (j, dd, _, h) => (drvTime w pw 129 j dd).hop h
    | none => .idle

/-- A path end stays within its limit. -/
def within (limit : Nat) : PathTime → Bool
  | .at t => decide (t + 30 ≤ limit)
  | .idle => true
  | .loop => false

/-- No path of a cell breaks its limit, no driver lies on a loop (R87, R88). -/
def pathsOk (w pw : Nat → Word) (k : Nat) : Bool :=
  allDirs.all (fun d =>
    let f := dirFld (outWord w k) d
    if f.src = 0 then true
    else if f.reg then within 793 (arrTime w pw k f.src)
    else decide (drvTime w pw 129 k d ≠ .loop)) &&
  (List.range 4).all (fun j =>
    let v := inSel w k j
    if v % 64 = 0 ∨ 32 ≤ v % 64 then true else within (if 64 ≤ v then 793 else 300) (arrTime w pw k (v % 64)))

/-- A cell record passes (R63, R64, R66, R95). -/
def cellPasses (d : DirEnt) (w pw : Nat → Word) (k : Nat) : Bool :=
  let ctl := w (14 * k + 11)
  let pair := columnPair d.shape
  (List.range 8).all (fun i => microPasses d k (w (14 * k + i))) &&
  decide (fld ctl 12 8 = 0) && decide (fld ctl 6 0 = 0) && decide (fld (outWord w k) 31 30 ≠ 3) &&
  allDirs.all (fun x => dirPasses w pair k x) && (List.range 4).all (fun j => inPasses w pair k j) && pathsOk w pw k

/-! Express tracks (R90, R95) -/

/-- Outbound track driver `t`, entry-port descriptor `i` (R90). -/
def trackDrv (w : Nat → Word) (t : Nat) : Nat := (w (480 + t / 4)).toNat / 2 ^ (8 * (t % 4)) % 256
def entryPort (w : Nat → Word) (i : Nat) : Nat := (w (488 + i / 2)).toNat / 2 ^ (16 * (i % 2)) % 65536

/-- An enabled entry port's source cluster lies inside the shape (R90, R95). -/
def portInShape (shape q v : Nat) : Bool :=
  let d := shapeDims shape
  let dx := q % (d.1 * d.2.1) % d.1
  let dy := q % (d.1 * d.2.1) / d.1
  let dist := v / 2 ^ 11 % 4
  let pos := if Nat.testBit v 14 then dy else dx
  let lim := if Nat.testBit v 14 then d.2.1 else d.1
  decide (dist ≠ 0) && (if Nat.testBit v 13 then decide (pos + dist < lim) else decide (dist ≤ pos))

/-- The express part of a plane passes; DIST and INDEX are judged where the port or track is enabled (log entry 35). -/
def expressPasses (shape q : Nat) (w : Nat → Word) : Bool :=
  (List.range 32).all (fun t =>
    let v := trackDrv w t
    decide (v / 32 % 4 ≠ 3) && (decide (v < 128) || decide (v / 32 % 4 ≠ 2) || Nat.testBit (entryPort w (v % 32)) 15)) &&
  (List.range 32).all (fun i =>
    let v := entryPort w i
    decide (v / 16 % 128 = 0) && (!(Nat.testBit v 15) || portInShape shape q v))

/-! Emit descriptors (R125, R127) -/

/-- An emit descriptor has no reserved code and no bit set that is reserved. -/
def descPasses (v : Nat) : Bool :=
  decide (v / 2 ^ 62 ≠ 3) && decide (v / 2 ^ 44 % 4 ≠ 2) && decide (v / 2 ^ 39 % 4 ≠ 3) && decide (v / 2 ^ 36 % 4 < 2) && decide (v % 1024 = 0)

/-- The descriptors a TEMIT of the plane selects pass. -/
def emitsPass (w : Nat → Word) : Bool :=
  (List.range 16).all (fun n =>
    let used := (List.range 32).any (fun k => (List.range 8).any (fun i =>
      let om := microOf (w (14 * k + i))
      decide (om.1 = 0x2F) && decide (om.2.xt.toNat % 16 = n)))
    !used || descPasses ((w (448 + 2 * n)).toNat + 2 ^ 32 * (w (449 + 2 * n)).toNat))

/-! Whole planes -/

/-- A plane's header agrees with the directory; its reserved words are zero; its CRC matches (R62, R65, R66). -/
def headerPasses (d : DirEnt) (ctx : Nat) (w : Nat → Word) : Bool :=
  let h := w 504
  decide (fld h 31 16 = 0) && decide (fld h 15 4 = ctx) && decide (fld h 3 2 + 1 = d.planes) &&
  (List.range 6).all (fun i => decide (w (505 + i) = 0)) &&
  decide (crc32c ((List.range 511).flatMap (fun i => wordBytes (w i))) = w 511)

/-- A plane of a context at position `q` passes; `pw` is the partner cluster's plane at the same plane index. -/
def planePasses (d : DirEnt) (ctx q : Nat) (w pw : Nat → Word) : Bool :=
  headerPasses d ctx w && chModesOk w && (List.range 32).all (fun k => cellPasses d w pw k) && expressPasses d.shape q w && emitsPass w

/-- The planes of a position carry each PINDEX once (R66). -/
def pindexOk (d : DirEnt) (w : Nat → Nat → Word) (q : Nat) : Bool :=
  let ix (p : Nat) : Nat := fld (w (q * d.planes + p) 504) 1 0
  (List.range d.planes).all (fun p => (List.range p).all (fun o => decide (ix o ≠ ix p)))

/-- The partner's plane of plane `p` of position `q` (R88): of the position on the other die, the one that carries the same PINDEX. -/
def partnerWord (d : DirEnt) (w : Nat → Nat → Word) (q p : Nat) : Nat → Word :=
  let ix (i : Nat) : Nat := fld (w i 504) 1 0
  let o := (q + shapeSize d.shape / 2) % shapeSize d.shape * d.planes
  w (o + ((List.range d.planes).find? (fun j => decide (ix (o + j) = ix (q * d.planes + p)))).getD p)

/-- A directory entry passes, its CTXCRC apart (R98, R99). -/
def entPasses (d : DirEnt) : Bool :=
  if d.valid then
    decide (d.shape ≠ 7) && decide (d.planes ≤ shapeMaxPlanes d.shape) && decide (fld d.w0 15 0 ≠ 0) && decide (fld d.w0 24 23 = 0)
  else decide (d.w0 = 0) && decide (d.w1 = 0)

end Sys2Proof.Machine
end

