-- ==== Sys2Proof/Machine/Image.lean ====
section
/-! DEFINITION. Boot flash, boot directory, image container and the checks of R376 (R345, R346, R361-R376, R390-R392). -/

namespace Sys2Proof.Machine

/-! The flash (R361, R362) -/

/-- A byte of the image address space; beyond the bytes given the flash reads 0xFF (log entry 36). In MIRROR mode alternate blocks come from each flash,
and one whose read fails comes from the other. -/
def flashByte (mode : BitVec 2) (f : Flash) (a : Nat) : Byte :=
  if mode = 1 then (if a / 4096 % 2 = 1 then f.bf1 else f.bf0).getD (a / 8192 * 4096 + a % 4096) 0xFF#8
  else if mode = 2 then (if decide (a / 4096 % 2 = 1) = f.fails.contains (a / 4096) then f.bf0 else f.bf1).getD a 0xFF#8
  else f.bf0.getD a 0xFF#8

def flashRead (mode : BitVec 2) (f : Flash) (a n : Nat) : List Byte := (List.range n).map (fun i => flashByte mode f (a + i))

/-- The same, as an unsigned little-endian number. -/
def flashNat (mode : BitVec 2) (f : Flash) (a n : Nat) : Nat := bytesNat (flashRead mode f a n)

/-! The boot directory (R363) -/

/-- A good copy of the boot directory: copy, SEQ, areas (base and length), preferred area. -/
structure BootDir where
  copy : Nat
  seq : Nat
  area0 : Nat × Nat
  area1 : Nat × Nat
  pref : Nat
deriving DecidableEq, Repr

/-- Two ranges (base, length) share an address. -/
def overlap (a b : Nat × Nat) : Bool := decide (a.2 ≠ 0) && decide (b.2 ≠ 0) && decide (a.1 < b.1 + b.2) && decide (b.1 < a.1 + a.2)

/-- A copy of the directory, where it is good (R363). -/
def dirCopy (mode : BitVec 2) (f : Flash) (copy : Nat) : Option BootDir :=
  let b := 4096 * copy
  let n (o k : Nat) : Nat := flashNat mode f (b + o) k
  let d : BootDir := ⟨copy, n 4 4, (n 8 4, n 12 4), (n 16 4, n 20 4), n 24 1⟩
  let ok := decide (n 0 4 = 0x5A3CD1A5) && decide (n 0x3C 4 = (crc32c (flashRead mode f b 0x3C)).toNat) && decide (d.pref < 2) &&
    decide (4 ≤ n 0x19 1) && decide (n 0x19 1 ≤ 31) && decide (25 ≤ n 0x1C 2) && decide (n 0x1C 2 ≤ 200) && decide (n 0x1E 1 ≤ 16) &&
    decide (n 0x1F 1 = 0) && decide (n 0x30 12 = 0) && decide (d.area0.1 % 4096 = 0) && decide (d.area1.1 % 4096 = 0) &&
    !(overlap d.area0 d.area1) && [d.area0, d.area1].all (fun a => !(overlap a (0, 64)) && !(overlap a (0x1000, 64)))
  if ok then some d else none

/-- The directory in use: the good copy of greater SEQ, copy 0 on a tie. -/
def bootDir (mode : BitVec 2) (f : Flash) : Option BootDir :=
  if !f.readable then none
  else match dirCopy mode f 0, dirCopy mode f 1 with
    | some a, some b => some (if a.seq < b.seq then b else a)
    | some a, none => some a
    | none, x => x

/-- Base and length of an area that is present. -/
def BootDir.area (d : BootDir) (n : Nat) : Option (Nat × Nat) :=
  let a := if n = 0 then d.area0 else d.area1
  if a.2 = 0 then none else some a

/-- CFG areas present as bits. -/
def BootDir.present (d : BootDir) : BitVec 2 := BitVec.ofNat 2 ((if d.area0.2 = 0 then 0 else 1) + (if d.area1.2 = 0 then 0 else 2))

/-! Failures (R383, R388) -/

/-- A rejection: cause, area, section (0xFF for none), detail. -/
structure ImgErr where
  cause : Nat
  area : Nat
  sec : Nat
  detail : Nat
deriving DecidableEq, Repr

def ImgErr.word (x : ImgErr) : Word := BitVec.ofNat 32 (x.sec * 65536 + x.area * 256 + x.cause)

/-- A rejection outside a section. -/
def imgErr (cause area : Nat) : ImgErr := ⟨cause, area, 0xFF, 0⟩

/-! Header authentication (R364, R365, R366, R376 steps 1 to 6) -/

/-- A section table entry (R365). -/
structure SecEnt where
  typ : Nat
  zero : Nat
  off : Nat
  len : Nat
  hash : BitVec 384
  raw : List Byte
deriving DecidableEq, Repr

/-- The header at a base as fields. -/
def imgHdr (mode : BitVec 2) (f : Flash) (area base : Nat) : ImgHdr :=
  let n (o k : Nat) : Nat := flashNat mode f (base + o) k
  { area := area, base := base, nsec := n 6 2, imgver := BitVec.ofNat 32 (n 8 4), arb := n 12 4, flags := BitVec.ofNat 32 (n 16 4), totlen := n 20 4
    confirmMs := n 24 4, digest := BitVec.ofNat 384 (n 0x20 48), nonce := flashRead mode f (base + 0x50) 12 }

/-- Step 2 of R376 with R390. -/
def State.hdrOk (s : State) (f : Flash) (h : ImgHdr) (len : Nat) : Bool :=
  let n (o k : Nat) : Nat := flashNat s.cfg.bfcfg f (h.base + o) k
  let dev := n 0x1C 4
  decide (n 0 4 = 0x5A3C96E1) && decide (n 4 2 = 1) && decide (1 ≤ h.nsec) && decide (h.nsec ≤ 64) &&
  decide (h.totlen % 256 = 0) && decide (h.totlen ≤ len) && decide (fld h.flags 31 9 = 0) && decide (fld h.flags 3 2 = 0) &&
  decide (n 0x5C 164 = 0) && decide (dev / 65536 = 0x4096) && decide (dev / 4 % 16384 = 0) && Nat.testBit dev (if s.fuse.gradeA then 1 else 0) &&
  decide (fld h.flags 7 4 ≤ 3) && !(tb h.flags 1 && s.sec.fpol.getLsbD 2) && (tb h.flags 0 || !s.sec.fpol.getLsbD 0)

/-- Step 3 of R376 (R367, R391): the signature covers header bytes 0x00-0xFF. -/
def State.sigOk (s : State) (f : Flash) (h : ImgHdr) : Bool :=
  let rd (o n : Nat) : List Byte := flashRead s.cfg.bfcfg f (h.base + o) n
  let key := rd (h.totlen - 192) 96
  let kh := Config.sha384 key
  (decide (s.sec.hash = []) || s.sec.hash.any (fun e => decide (e.2 = kh) && !s.sec.hashRev.getLsbD e.1)) &&
  Config.ecdsaVerify key (Config.sha384 (rd 0 256)) (rd (h.totlen - 96) 96)

/-- SHA-384 as the header holds it: byte 0 first. -/
def shaNat (bs : List Byte) : BitVec 384 := Config.sha384 bs

/-- Entry `i` of the section table. -/
def secEnt (mode : BitVec 2) (f : Flash) (h : ImgHdr) (i : Nat) : SecEnt :=
  let b := h.base + 0x100 + 64 * i
  let n (o k : Nat) : Nat := flashNat mode f (b + o) k
  ⟨n 0 4, n 4 4, n 8 4, n 12 4, BitVec.ofNat 384 (n 16 48), flashRead mode f b 64⟩

def secEnts (mode : BitVec 2) (f : Flash) (h : ImgHdr) : List SecEnt := (List.range h.nsec).map (secEnt mode f h)

/-- Sections of a type. -/
def secCount (es : List SecEnt) (t : Nat) : Nat := (es.filter (fun e => decide (e.typ = t))).length

/-- Consecutive sections ascend and do not overlap. -/
def secsAscend : List SecEnt → Bool
  | a :: b :: es => decide (a.off < b.off) && decide (a.off + a.len ≤ b.off) && secsAscend (b :: es)
  | _ => true

/-- The table entries obey R365 and R366. -/
def tableOk (mode : BitVec 2) (f : Flash) (h : ImgHdr) : Bool :=
  let es := secEnts mode f h
  es.all (fun e => decide (1 ≤ e.typ) && decide (e.typ ≤ 6) && decide (e.zero = 0) && decide (e.off % 256 = 0) && decide (0x1100 ≤ e.off) &&
    decide (e.off + e.len + 192 ≤ h.totlen)) &&
  secsAscend es && decide (flashNat mode f (h.base + 0x100 + 64 * h.nsec) (64 * (64 - h.nsec)) = 0) &&
  decide (secCount es 1 ≤ 2) && decide (secCount es 2 = 1) && decide (secCount es 3 = 1) && decide (secCount es 4 ≤ 1) &&
  decide (secCount es 5 ≤ 1) && decide (secCount es 6 ≤ 1) &&
  decide ((es.map (fun e => e.typ)).idxOf 2 < (es.map (fun e => e.typ)).idxOf 3)

/-- Header authentication of an area: steps 1 to 6 of R376 in order. -/
def State.authArea (s : State) (f : Flash) (n : Nat) : Sum ImgErr ImgHdr :=
  match (bootDir s.cfg.bfcfg f).bind (fun d => d.area n) with
  | none => .inl (imgErr 1 n)
  | some (base, len) =>
    let h := imgHdr s.cfg.bfcfg f n base
    if !s.hdrOk f h len then .inl (imgErr 2 n)
    else if !s.sigOk f h then .inl (imgErr 3 n)
    else if h.arb < s.sec.arbMin ∨ 256 < h.arb then .inl (imgErr 4 n)
    else if shaNat (flashRead s.cfg.bfcfg f (base + 0x100) 4096) ≠ h.digest then .inl (imgErr 5 n)
    else if !tableOk s.cfg.bfcfg f h then .inl (imgErr 6 n)
    else .inr h

/-! Sections (R367, R376 step 7) -/

/-- The image key a header selects (R389); none while it is empty or may not be read (R406). -/
def State.imageKey (s : State) (h : ImgHdr) : Option (BitVec 256) :=
  if s.sec.blocked then none else smFind (if tb h.flags 1 then s.sec.imgB else s.sec.imgE) (fld h.flags 7 4)

/-- The initial value of section `i` (R367). -/
def secIv (h : ImgHdr) (i : Nat) : List Byte := h.nonce.take 8 ++ (natBytes 4 i).reverse

/-- The plaintext of section `i`, after its HASH and its tag. -/
def State.secPlain (s : State) (f : Flash) (h : ImgHdr) (i : Nat) : Sum ImgErr (List Byte) :=
  let e := secEnt s.cfg.bfcfg f h i
  let st := flashRead s.cfg.bfcfg f (h.base + e.off) e.len
  if shaNat st ≠ e.hash then .inl ⟨7, h.area, i, 0⟩
  else if !tb h.flags 0 then .inr st
  else match s.imageKey h with
    | none => .inl ⟨8, h.area, i, 0⟩
    | some k =>
      let ct := st.take (e.len - 16)
      if e.len < 16 ∨ !Config.gcmTagOk k (secIv h i) e.raw ct (st.drop (e.len - 16)) then .inl ⟨8, h.area, i, 0⟩
      else
        let pt := Config.imageDecrypt k (secIv h i) ct
        .inr ((List.range ct.length).map (fun j => pt.getD j 0))

/-- Bytes as little-endian words. -/
def bytesWords : List Byte → List Word
  | a :: b :: c :: d :: r => bytesWord [a, b, c, d] :: bytesWords r
  | _ => []

/-! CTXDIR (R99, R366, R372) -/

/-- The directory of a CTXDIR section: its entries and its run index. -/
structure CtxDir where
  ents : SMap DirEnt
  index : SMap Word
deriving DecidableEq, Repr

def CtxDir.ent (d : CtxDir) (ctx : Nat) : DirEnt := smGet DirEnt.zero d.ents ctx

/-- Pairs of words as directory entries. -/
def dirPairs : List Word → List DirEnt
  | a :: b :: r => ⟨a, b⟩ :: dirPairs r
  | _ => []

/-- A frame address of a context (R369). -/
def frameAddr (ctx col die minor : Nat) : Nat := ctx * 2 ^ 20 + die * 2 ^ 19 + col * 2 ^ 15 + minor * 2 ^ 10

/-- A CTXDIR section is read and checked; the entry of the first context at fault. -/
def readCtxDir (bs : List Byte) : Sum Nat CtxDir :=
  let ws := bytesWords bs
  let es := dirPairs (ws.take 8192)
  let d : CtxDir := ⟨smSetList DirEnt.zero [] 0 es, smSetList 0 [] 0 (ws.drop 8192)⟩
  if bs.length ≠ 49152 then .inl 0
  else match (List.range 4096).find? (fun c => !(entPasses (d.ent c)) || (!(d.ent c).valid && decide (smGet 0 d.index c ≠ 0xFFFFFFFF#32))) with
    | some c => .inl (frameAddr c 0 0 0)
    | none => .inr d

/-! The native stream (R368-R372) -/

/-- A context run: context, byte offset of its first word, data words. -/
structure CtxRun where
  ctx : Nat
  off : Nat
  words : List Word
deriving DecidableEq, Repr

/-- The CRC of words (R65, R368). -/
def wordsCrc (ws : List Word) : Word := crc32c (ws.flatMap wordBytes)

/-- Words of a context's run (R371). -/
def runLen (d : DirEnt) : Nat := shapeSize d.shape * d.planes * 512

/-- The runs of a stream from a packet boundary on (R370, R371): runs read so far, or cause and detail. -/
def readRuns (dir : CtxDir) : Nat → Nat → List CtxRun → List Word → Sum (Nat × Nat) (List CtxRun)
  | 0, off, _, _ => .inl (9, off)
  | fuel + 1, off, done, ws =>
    match ws with
    | h :: v :: r =>
      if h ≠ 0xA0000001#32 then .inl (9, off)
      else if v = 0 then readRuns dir fuel (off + 8) done r
      else if v = 0x0F#32 then
        if r ≠ [] then .inl (9, off + 8)
        else match (List.range 4096).find? (fun c => (dir.ent c).valid && !(done.any (fun x => decide (x.ctx = c)))) with
          | some c => .inl (10, frameAddr c 0 0 0)
          | none => .inr done.reverse
      else if v = 2 then
        match r with
        | hf :: a :: hd :: r =>
          let ctx := fld a 31 20
          let d := dir.ent ctx
          let n := runLen d
          if hf ≠ 0xA4000001#32 then .inl (9, off + 8)
          else if fld a 19 0 ≠ 0 ∨ !d.valid ∨ done.any (fun x => decide (x.ctx = ctx)) then .inl (10, a.toNat)
          else if fld hd 31 24 ≠ 0xA8 then .inl (9, off + 16)
          else if fld hd 23 0 ≠ n then .inl (10, a.toNat)
          else if (smGet 0 dir.index ctx).toNat ≠ off then .inl (9, off)
          else
            let data := r.take n
            match r.drop n with
            | hc :: k :: r =>
              if hc ≠ 0xAC000001#32 then .inl (9, off + 20 + 4 * n)
              else if wordsCrc data ≠ k then .inl (11, off + 20 + 4 * n)
              else readRuns dir fuel (off + 28 + 4 * n) (⟨ctx, off, data⟩ :: done) r
            | _ => .inl (9, off + 20)
        | _ => .inl (9, off + 8)
      else .inl (9, off)
    | _ => .inl (9, off)

/-- A whole stream (R370). -/
def readStream (dir : CtxDir) (bs : List Byte) : Sum (Nat × Nat) (List CtxRun) :=
  let ws := bytesWords bs
  if bs.length % 4 ≠ 0 then .inl (9, 0)
  else if ws.take 1 ≠ [0x3A5C69E2#32] then .inl (9, 0)
  else if (ws.drop 1).take 2 ≠ [0xB0000001#32, 0x40965C11#32] then .inl (9, 4)
  else if (ws.drop 3).take 2 ≠ [0xB4000001#32, 0x00000100#32] then .inl (9, 12)
  else if (ws.drop 5).take 2 ≠ [0xA0000001#32, 1#32] then .inl (9, 20)
  else readRuns dir (ws.length + 1) 28 [] (ws.drop 7)

/-- Word `n` of stored plane `i` of a run. -/
def runWord (r : CtxRun) (i n : Nat) : Word := r.words.getD (512 * i + n) 0

/-- The first plane of a run that a check rejects, as a frame address (R66, R95, R127), or the CTXCRC (R99). -/
def runFault (d : DirEnt) (r : CtxRun) : Option Nat :=
  let wh := (shapeDims d.shape).1 * (shapeDims d.shape).2.1
  let adr (q p : Nat) : Nat := frameAddr r.ctx (q % wh) (q / wh) (8 * p)
  match ((List.range (shapeSize d.shape)).flatMap (fun q => (List.range d.planes).map (fun p => (q, p)))).find?
      (fun qp => !(planePasses d r.ctx qp.1 (runWord r (qp.1 * d.planes + qp.2)) (partnerWord d (runWord r) qp.1 qp.2)) || !(pindexOk d (runWord r) qp.1)) with
  | some (q, p) => some (adr q p)
  | none => if wordsCrc r.words = d.w1 then none else some (adr 0 0)

/-! FLINT (R345, R346) -/

/-- A Flint section. -/
structure FlintSec where
  tile : Nat
  mode : Nat
  hostbus : Bool
  clk : Word
  pins : List (Nat × Nat)
  s0 : List Half
  s1 : List Half
deriving DecidableEq, Repr

/-- Bytes as 16-bit words, low byte first. -/
def bytesHalves : List Byte → List Half
  | a :: b :: r => BitVec.ofNat 16 (a.toNat + 256 * b.toNat) :: bytesHalves r
  | _ => []

/-- A FLINTn_CLK word is one R336 allows. -/
def flClkOk (w : Word) : Bool :=
  let h (v : Nat) : Bool := decide (v < 512) || (decide (4 ≤ v % 512) && decide (v % 512 ≤ 400))
  h (fld w 9 0) && h (fld w 25 16)

/-- What a part of a tile in a mode would be (R320, R339, R344). -/
def State.secEnv (s : State) (tile mode h : Nat) : MzEnv :=
  ⟨if mode = 1 then 64 else 32, if mode = 1 then 40 else 20, if mode = 1 then 0x0640#16 else 0x0620#16,
   s.mzKeyOf (2 * tile + h) 0, s.mzKeyOf (2 * tile + h) 1⟩

/-- A stream would be aborted (R343, R344): MZSTAT bits [5:3] or [1]. -/
def State.streamAborts (s : State) (tile mode h : Nat) (ws : List Half) : Bool :=
  let x := ws.foldl (fun (x : MzPart) w => x.mzWord (s.secEnv tile mode h) w false) MzPart.zero
  decide (x.stat &&& 0x3A#6 ≠ 0)

/-- The pins tile 1's host bus takes (R337). -/
def tile1BusPins : List Nat := (List.range 16).map (fun i => 256 + i) ++ (List.range 15).map (fun i => 272 + i) ++ [288, 289]

/-- Read a Flint section against the sections before it; the byte offset of what is at fault. -/
def State.readFlint (s : State) (before : List FlintSec) (bs : List Byte) : Sum Nat FlintSec :=
  let n (o k : Nat) : Nat := bytesNat ((bs.drop o).take k)
  let h := n 0 4
  let tile := h % 2
  let mode := h / 2 % 4
  let np := n 8 4
  let l0 := n 12 4
  let l1 := n 16 4
  let b0 := 0x14 + 4 * np
  let pinW := (List.range np).map (fun i => n (0x14 + 4 * i) 4)
  let pins := pinW.map (fun w => (w / 65536, w % 256))
  let x : FlintSec := ⟨tile, mode, Nat.testBit h 3, BitVec.ofNat 32 (n 4 4), pins, bytesHalves ((bs.drop b0).take l0),
    bytesHalves ((bs.drop (b0 + l0)).take l1)⟩
  let gp := pins.map (fun p => p.1)
  let all := x :: before
  let busHit := all.any (fun a => decide (a.tile = 1) && a.hostbus) && all.any (fun a => a.pins.any (fun p => tile1BusPins.contains p.1))
  if bs.length < 0x14 ∨ h ≥ 16 ∨ mode = 0 ∨ mode = 3 ∨ before.any (fun a => decide (a.tile = tile)) then .inl 0
  else if !flClkOk x.clk then .inl 4
  else if np > 144 then .inl 8
  else if l0 % 2 = 1 then .inl 12
  else if l1 % 2 = 1 ∨ (mode = 1 ∧ l1 ≠ 0) then .inl 16
  else if bs.length < b0 + l0 + l1 then .inl bs.length
  else if pinW.any (fun w => decide (w / 2 ^ 25 ≠ 0) || decide (w / 256 % 256 ≠ 0) || decide (w / 65536 ≥ 320) || decide (w % 256 ≥ 144)) then .inl 0x14
  else if !gp.Nodup ∨ before.any (fun a => a.pins.any (fun p => gp.contains p.1)) ∨ busHit then .inl 0x14
  else if s.streamAborts tile mode 0 x.s0 then .inl b0
  else if s.streamAborts tile mode 1 x.s1 then .inl (b0 + l0)
  else .inr x

/-! Presets (R373-R375) -/

/-- Records of 16 bytes. -/
def presetRecs : Nat → List Byte → List Preset
  | 0, _ => []
  | n + 1, bs => ⟨bytesNat (bs.take 8), bytesWord ((bs.drop 8).take 4), bytesWord ((bs.drop 12).take 4)⟩ :: presetRecs n (bs.drop 16)

/-- A REGS record has the form of R373. -/
def presetOk (p : Preset) : Bool :=
  decide (fld p.ctl 1 0 ≠ 3) && decide (fld p.ctl 15 2 = 0) && (decide (fld p.ctl 1 0 = 0) || decide (fld p.ctl 31 16 ≠ 0)) &&
  decide (p.addr % 4 = 0) && (inWindows p.addr || (inBlocks p.addr && decide (blockOf p.addr ≠ 5) && decide (blockOf p.addr ≠ 6)))

/-- The records of a REGS section, or the index of the first that is wrong. -/
def readRegs (bs : List Byte) : Sum Nat (List Preset) :=
  let rs := presetRecs (bs.length / 16) bs
  match (List.range rs.length).find? (fun i => !(rs[i]?.any presetOk)) with
  | some i => .inl i
  | none => if bs.length % 16 ≠ 0 then .inl rs.length else .inr rs

/-- The memory records of a MICA or GARNET section whose ranges satisfy `ok`, or the index of the first that is wrong. -/
def readMems (ok : Nat → Nat → Bool) : Nat → Nat → List Byte → Sum Nat (List (Nat × List Byte))
  | 0, i, bs => if bs = [] then .inr [] else .inl i
  | fuel + 1, i, bs =>
    if bs = [] then .inr []
    else
      let a := bytesNat (bs.take 8)
      let n := bytesNat ((bs.drop 8).take 4)
      if bs.length < 16 + n ∨ n = 0 ∨ n % 8 ≠ 0 ∨ bytesNat ((bs.drop 12).take 4) ≠ 0 ∨ !ok a n then .inl i
      else match readMems ok fuel (i + 1) (bs.drop (16 + n)) with
        | .inl e => .inl e
        | .inr rs => .inr ((a, (bs.drop 16).take n) :: rs)

/-- A MICA range lies inside one of the ranges of R374. -/
def micaRange (a n : Nat) : Bool :=
  (decide (a + n ≤ 0x1000000000)) || (decide (0x1000000000 ≤ a) && decide (a + n ≤ 0x1004000000)) ||
  (decide (0x1200000000 ≤ a) && decide (a + n ≤ 0x1210000000))

/-- A GARNET range lies inside the bank below the recorder's region (R375). -/
def garnetRange (a n : Nat) : Bool := decide (a + n ≤ 0x3F00000)

def readMica (bs : List Byte) : Sum Nat (List (Nat × List Byte)) := readMems micaRange (bs.length + 1) 0 bs
def readGarnet (bs : List Byte) : Sum Nat (List (Nat × List Byte)) := readMems garnetRange (bs.length + 1) 0 bs

/-! The whole check (R376 step 7) -/

/-- What a checked image gives: directory, runs, Flint sections. -/
structure ImgData where
  dir : CtxDir
  runs : List CtxRun
  flint : List FlintSec
deriving DecidableEq, Repr

/-- The content of section `i` is checked against what the sections before it gave. -/
def State.checkSec (s : State) (f : Flash) (h : ImgHdr) (x : ImgData) (i : Nat) : Sum ImgErr ImgData :=
  match s.secPlain f h i with
  | .inl e => .inl e
  | .inr bs =>
    let bad (cause detail : Nat) : Sum ImgErr ImgData := .inl ⟨cause, h.area, i, detail⟩
    match (secEnt s.cfg.bfcfg f h i).typ with
    | 1 => (match s.readFlint x.flint bs with
        | .inl o => bad 13 o
        | .inr t => .inr { x with flint := t :: x.flint })
    | 2 => (match readCtxDir bs with
        | .inl a => bad 12 a
        | .inr d => .inr { x with dir := d })
    | 3 => (match readStream x.dir bs with
        | .inl e => bad e.1 e.2
        | .inr rs => (match rs.findSome? (fun r => runFault (x.dir.ent r.ctx) r) with
            | some a => bad 12 a
            | none => .inr { x with runs := rs }))
    | 4 => (match readRegs bs with
        | .inl j => bad 14 j
        | .inr _ => .inr x)
    | 5 => (match readMica bs with
        | .inl j => bad 14 j
        | .inr _ => .inr x)
    | _ => (match readGarnet bs with
        | .inl j => bad 14 j
        | .inr _ => .inr x)

/-- Every section in order; the first failure rejects the image. -/
def State.checkSecs (s : State) (f : Flash) (h : ImgHdr) : List Nat → ImgData → Sum ImgErr ImgData
  | [], x => .inr x
  | i :: is, x => match s.checkSec f h x i with
    | .inl e => .inl e
    | .inr y => s.checkSecs f h is y

/-- The whole image (R376). -/
def State.checkImage (s : State) (f : Flash) (h : ImgHdr) : Sum ImgErr ImgData :=
  s.checkSecs f h (List.range h.nsec) ⟨⟨[], []⟩, [], []⟩

/-- The index of the sections of a type. -/
def secsOf (mode : BitVec 2) (f : Flash) (h : ImgHdr) (t : Nat) : List Nat :=
  (List.range h.nsec).filter (fun i => decide ((secEnt mode f h i).typ = t))

end Sys2Proof.Machine
end

