-- ==== Sys2Proof/Machine/Resets.lean ====
section
/-! DEFINITION. Resets and supplies (R435, R477, R527-R532) and the beginning of a start (R378). -/

namespace Sys2Proof.Machine

/-! Registers -/

/-- The bits of a register that a reset of its block leaves: fields whose reset value reads "kept", "fuses" or "set by loader" (R17, R530). `por`:
the reset is POR. -/
def keptBits (por : Bool) (a : Nat) : Word :=
  let all : Word := 0xFFFFFFFF#32
  if a = SYS_FENCED ∨ (SYS_FENCE 0 ≤ a ∧ a ≤ SYS_FENCE 31) ∨ a = CFG_ERR ∨ a = CFG_ERRDET ∨ a = AGE_PTIME ∨ a = STRATA_DROPCRIT ∨
      a = STRATA_DROPLOW then all
  else if AGE_QM 0 ≤ a ∧ a ≤ AGE_BASE 63 then all
  else if a = TH_STATUS then 0x80#32
  else if a = FLINT0_CLK ∨ a = FLINT1_CLK then all
  else if !por ∧ (a = GPIO_HOLD ∨ a = SEC_DBG ∨ (SEC_SECSP 0 ≤ a ∧ a ≤ SEC_SECG 1)) then all
  else 0

/-- A register with its fields at their reset values. -/
def resetWord (gradeA por : Bool) (a : Nat) (v : Word) : Word := (v &&& keptBits por a) ||| (regReset gradeA a &&& ~~~(keptBits por a))

/-- The registers whose address satisfies `p` take their reset values; so do selects and staged words of the interfaces. -/
def State.resetRegs (s : State) (por : Bool) (p : Nat → Bool) : State :=
  let g := s.fuse.gradeA
  { s with
    regs := (s.regs.map (fun e => if p e.1 then (e.1, resetWord g por e.1 e.2) else e)).filter (fun e => decide (e.2 ≠ regReset g e.1))
    ifc := { s.ifc with sel := smDrop (fun k => p (k % 2 ^ 48)) s.ifc.sel } }

/-- An address of one of the register blocks listed. -/
def inBlockList (bs : List Nat) (a : Nat) : Bool := inBlocks a && bs.contains (blockOf a)

/-- GPIO_PULL after a reset: the pull the straps of the bank select, on every pin (R384, R497). -/
def State.strapPulls (s : State) : State :=
  (List.range 20).foldl (fun s b => s.wr (GPIO_PULL b) (BitVec.ofNat 32 (0x55555555 * (s.cfg.pulls.getD b 0).toNat))) s

/-! What the resets do to each part -/

/-- Cells, clusters, residency, matching, dispatch, queues and network (R67, R84, R105, R139, R189). Contexts UNAVAILABLE stay so; instance and
packet names are not used again. -/
def State.resetFabric (s : State) : State :=
  { s with
    cells := [], clusters := []
    res := { s.res with planes := [], ctxSt := s.res.ctxSt.filter (fun e => decide (e.2 = .unavailable)), restoreQ := [], reqs := [],
                        flight := [], pins := [] }
    mst := Mst.zero
    dsp := { Dsp.zero with nextIid := s.dsp.nextIid }
    flow := Flow.zero
    noc := { Noc.zero with nextId := s.noc.nextId }
    flt := { s.flt with chkUpset := [], supvUp := true, crst := none }
    bist := Bist.zero, snap := Snap.zero }

/-- The cache is invalid and unlocked (R221); excluded ways stay (R267). -/
def State.resetCache (s : State) : State :=
  { s with
    cache := { Cache.zero with excl := s.cache.excl }
    ecc := { s.ecc with merge := [], ceBack := [], scrub := none, march := none } }

/-- Contents of every scratchpad bank are lost with the supply: free values (log entry 4). -/
def State.spadLost (s : State) : State :=
  { s with spad := ⟨[], [], (List.range 128).map (fun n => (n, s.freeCtr + 1))⟩, freeCtr := s.freeCtr + 1 }

/-- Rows of the Garnet write buffer when power goes: each may be written or lost (R242). -/
def State.garnetChance (s : State) : State :=
  s.garnet.wbuf.foldl (fun s x =>
    let w := s.freeVal.getLsbD 0
    let s := s.drawn
    if w then s.rowOut x true else { s with garnet := { s.garnet with wbuf := s.garnet.wbuf.filter (fun y => decide (y.row ≠ x.row)) } }) s

/-- External memory (R278): at POR its contents are lost; otherwise it goes into self-refresh with its contents. Regions, keys and metadata go. -/
def State.resetDdr (s : State) (por : Bool) : State :=
  if por then { s with ddr := { Ddr.zero with draws := s.ddr.draws, epoch := s.freeCtr + 1 }, freeCtr := s.freeCtr + 1 }
  else
    let d := s.ddrAsleep.ddr
    { s with ddr := { Ddr.zero with draws := d.draws, pdown := d.pdown, dram := d.dram, chk := d.chk, marks := d.marks, scr := d.scr, epoch := d.epoch } }

/-- The Flint tiles: configuration and RAM clear (R347); words taken out of use stay out (R356). -/
def State.resetFlint (s : State) : State :=
  let part (x : MzPart) : MzPart := { MzPart.zero with ramDead := x.ramDead }
  let tile (t : Tile) : Tile := { Tile.zero with part0 := part t.part0, part1 := part t.part1 }
  { s with flint := ⟨tile s.flint.t0, tile s.flint.t1⟩ }

/-- Lane state and counters; at IO_RESET_N the configuration stays (R465, R530). -/
def State.resetLanes (s : State) (io : Bool) : State :=
  let t := if io then s.linksReset else s
  let drop (o : Nat) : Bool :=
    if io then decide (o = offsetOf LANE_PRBS) || (decide (offsetOf LANE_PRBSERR ≤ o) && decide (o ≤ offsetOf LANE_FRMERR))
    else !(decide (offsetOf (LANE_EQ 0) ≤ o) && decide (o ≤ offsetOf (LANE_EQ 3)))
  { t with lanes := { lanes := [], links := if io then t.lanes.links else [], reg := smDrop (fun k => drop (k % 0x1000)) t.lanes.reg } }

/-- Domains after a reset: every domain is ON but the Flint tiles and an unstrapped PCIe (R7, R474). -/
def State.resetPwr (s : State) : State :=
  let off (d : Nat) (s : State) : State := s.setDom d .off
  let s := { s with pwr := Pwr.zero }
  let s := off (domTile 0) (off (domTile 1) s)
  if s.cfg.pcieEn then s else off domPcie s

/-- The host side: PCIe, HP, SMBus (R477, R482, R486, R488). -/
def State.resetHost (s : State) : State :=
  { s with pcie := { Pcie.zero with out := s.pcie.out }, hp := Hp.zero, halo := { Halo.zero with out := s.halo.out } }

/-- Blocks a reset of the whole device reaches (R530). -/
def chipBlocks (por : Bool) : List Nat := (List.range 29).filter (fun n => por || decide (n ≠ 7))

/-- POR and SYS_RESET_N beside their preparation (R528, R530). -/
def State.chipReset (s : State) (por : Bool) : State :=
  let slot (m : SlotMeta) : SlotMeta := if m.st = .staging then { m with st := .empty } else m
  let s := s.setSess Sess.zero
  let s := s.resetRegs por (fun a => inBlockList (chipBlocks por) a || inWindows a)
  let s := (((s.resetFabric.resetCache.resetDdr por).resetFlint.resetLanes false).resetHost).resetPwr
  let s := { s with
    ifc := { s.ifc with snap := [], stage := [] }
    ecc := { s.ecc with merge := [] }
    garnet := { s.garnet with fences := [], waiting := [] }
    smb := { Smb.zero with strap := s.smb.strap }
    gpio := { s.gpio with ev := [], latch := if por then [] else s.gpio.latch }
    therm := Therm.zero
    age := { s.age with due := [] }
    sec := { s.sec with blocked := s.sec.blocked && !por }
    pins := { s.pins with irq := false, nmi := false }
    cfg := { s.cfg with st := .held, step := 0, slotA := slot s.cfg.slotA, slotB := slot s.cfg.slotB, confirmed := false, crit := false,
                        img := none, presets := [], pidx := 0, load := none } }
  s.strapPulls

/-! Starts (R378) -/

/-- The kind of a start after POR. -/
def State.porKind (s : State) : StartKind :=
  if (s.cfg.slotA.active && decide (s.cfg.slotA.st = .valid)) || (s.cfg.slotB.active && decide (s.cfg.slotB.st = .valid)) then .resume else .cold

def startCode : StartKind → Nat
  | .cold => 0
  | .warm => 1
  | .resume => 2

/-- A start of a kind begins (R378, R379, R388): it is counted; `cause` is the new SYS_RSTCAUSE (R534). -/
def State.startBegin (s : State) (kind : StartKind) (cause : Nat) : State :=
  let s := { s with cfg := { s.cfg with st := .starting, kind := kind, step := 1, confirmed := false, crit := false, img := none, presets := [],
                                        pidx := 0, failcnt := if s.cfg.failcnt = 15 then 15 else s.cfg.failcnt + 1 } }
  (s.wr CFG_START (BitVec.ofNat 32 (startCode kind))).wr SYS_RSTCAUSE ((s.rd SYS_RSTCAUSE &&& 0x200#32) ||| BitVec.ofNat 32 cause)

/-- A start may begin: no wider reset holds the device, the upper rails are on, scan access is closed (R406, R435, R529). -/
def State.mayStart (s : State) : Bool := !s.pins.por && !s.pins.sysRst && !s.pins.thermtrip && !tb (s.rd SEC_DBG) 0

/-- SYS_RSTCAUSE of a start after POR. -/
def State.porCause (s : State) : Nat :=
  if s.pins.supplyBad = 0 then 1 else 2 + s.pins.supplyBad.toNat * 2 ^ 10

/-- The device enters POR (R527, R528). -/
def State.porReset (s : State) : State :=
  let s := if s.pins.thermtrip then { s with garnet := { s.garnet with wbuf := [] } } else s.garnetChance
  let s := (s.chipReset true).spadLost
  { s with pins := { s.pins with por := true, thermtrip := false } }

/-- POR_ASSERT (R528). -/
def execPorAssert (s : State) : Res' :=
  .next (if s.pins.por then { s with pins := { s.pins with supplyBad := 0 } } else
    let t := s.porReset
    { t with pins := { t.pins with supplyBad := 0 } })

/-- POR_RELEASE (R362, R378, R384, R474, R504): straps are sampled, the statistics reloaded, and the start begins once SYS_RESET_N is
released too (R529). -/
def execPorRelease (st : Straps) (s : State) : Res' :=
  if !s.pins.por then .next s
  else
    let s := { s with
      pins := { s.pins with por := false }
      smb := { s.smb with strap := st.smbAddr }
      cfg := { s.cfg with bfcfg := st.bfcfg, pulls := st.pulls, pcieEn := st.pcieEn } }
    let s := s.resetPwr.strapPulls.strataReload
    let s := { s with cfg := { s.cfg with kind := s.porKind } }
    .next (if s.mayStart then
        let t := s.startBegin s.cfg.kind s.porCause
        { t with pins := { t.pins with supplyBad := 0 } }
      else s)

/-- The reset SYS_RESET_N makes, its preparation included (R242, R255, R278, R528); RESTART and ROLLBACK make the same (R378). -/
def State.sysReset (s : State) : State :=
  let s := if s.pins.thermtrip then s
    else (s.flushWhere (fun e => decide (0x1000 ≤ e.unit) && decide (e.unit < 0x2000))).garnetFlush
  s.chipReset false

/-- SYS_RESET_ASSERT (R528): under POR only the pin changes (R529). -/
def execSysResetAssert (s : State) : Res' :=
  .next (if s.pins.sysRst then s
    else if s.pins.por then { s with pins := { s.pins with sysRst := true } }
    else
      let t := s.sysReset
      { t with pins := { t.pins with sysRst := true }, cfg := { t.cfg with kind := .warm } })

/-- SYS_RESET_RELEASE (R378, R529): a warm start, or the start that a POR has left waiting. -/
def execSysResetRelease (s : State) : Res' :=
  if !s.pins.sysRst then .next s
  else
    let s := { s with pins := { s.pins with sysRst := false } }
    .next (if s.mayStart then
        let t := s.startBegin s.cfg.kind (if s.cfg.kind = .warm then 4 else s.porCause)
        { t with pins := { t.pins with supplyBad := 0 } }
      else s)

/-- RESTART (R378, R388): the reset of SYS_RESET_N, then a start; none while SCANEN is 1 (R406). -/
def State.restart (s : State) (cold : Bool) : State :=
  if s.mayStart then s.sysReset.startBegin (if cold then .cold else .warm) 8 else s

/-! Supplies (R527, R530) -/

/-- SUPPLY_MONITOR_DROP (R527): VIN_CORE or VDD_BED puts the device into POR, VPP_SLATE acts as PWR_FAIL_N. -/
def execSupplyMonitorDrop (which : Supply) (s : State) : Res' :=
  match which with
  | .vppSlate =>
    .next { s with pins := { s.pins with vppLost := true }, garnet := { s.garnet with pf := true, pfDone := decide (s.garnet.wbuf = []) } }
  | _ =>
    let t := if s.pins.por then s else s.porReset
    .next { t with pins := { t.pins with supplyBad := if which = .vinCore then 1 else 2 } }

/-- VPP_SLATE_RETURN (R527). -/
def execVppSlateReturn (s : State) : Res' :=
  .next { s with
    pins := { s.pins with vppLost := false }
    garnet := { s.garnet with pf := s.pins.pwrFail, pfDone := s.pins.pwrFail && s.garnet.pfDone } }

/-- AON_SUPPLY_LOSS (R389, R498, R499, R530): the retained set is lost. -/
def execAonSupplyLoss (s : State) : Res' :=
  let s := { s with
    strata := { s.strata with rtc := 0, tset := false }
    cfg := { s.cfg with failcnt := 0 }
    sec := { s.sec with imgB := [], mzKey := smDrop (fun k => decide (k % 2 = 1)) s.sec.mzKey } }
  .next (s.clrBits TH_STATUS 0x80#32)

/-- THERMTRIP (R435): the upper-die rails go; what they fed is lost and nothing runs there until the next POR. -/
def execThermtrip (s : State) : Res' :=
  if s.pins.thermtrip then .next s
  else
    let s := { s with pins := { s.pins with thermtrip := true } }.setBits TH_STATUS 0x80#32
    let s := s.garnetChance.resetFabric.resetCache.spadLost
    .next { s with cfg := { s.cfg with st := .held, step := 0, load := none }, garnet := { s.garnet with fences := [], waiting := [] } }

/-! Cluster reset (R532) -/

/-- Committed instances still draining hold entries of the cluster. -/
def State.crstWaits (s : State) (c : Nat) : Bool :=
  (s.cluster c).cb.any (fun e => match s.inst e.iid with
    | some x => decide (x.st = .draining)
    | none => false)

/-- The cluster takes its reset state (R532 steps 3 and 4). -/
def State.crstEnd (s : State) (c : Nat) : State :=
  let cl := s.cluster c
  let s := (List.range 32).foldl (fun s k => s.setCell c k Cell.zero) s
  let s := s.invalidateAll c
  let s := { s with res := { s.res with flight := s.res.flight.filter (fun r => decide (r.cluster ≠ c)) } }
  let s := s.setCluster c { Cluster.zero with ctx := cl.ctx, inst := cl.inst, plane := cl.plane }
  let s := { s with flt := { s.flt with crst := none } }
  s.setBits SYS_CRST 0x20000000#32

/-- A cluster reset that waits for its drain goes on. -/
def State.crstCheck (s : State) : State :=
  match s.flt.crst with
  | some c => if s.crstWaits c then s else s.crstEnd c
  | none => s

/-- A write of SYS_CRST (R532, R534). -/
def State.crstWrite (s : State) (v : Word) : State :=
  let c := fld v 9 0
  let s := s.wr SYS_CRST ((s.rd SYS_CRST &&& 0x30000000#32 &&& ~~~v) ||| BitVec.ofNat 32 c)
  if !tb v 31 then s
  else if s.flt.crst.isSome then s.setBits SYS_CRST 0x10000000#32
  else
    let s := { s with flt := { s.flt with crst := some c } }
    let s := (s.haltOn c).withdrawOn c
    let s := if s.bistRun (c / 512) = some { cluster := c, saved := true } ∨ s.bistRun (c / 512) = some { cluster := c, saved := false } then
        s.setRun (c / 512) none else s
    s.crstCheck

/-- CLUSTER_RESET (R532). -/
def execClusterReset (v : Word) (s : State) : Res' := .next (s.crstWrite (v ||| 0x80000000#32))

end Sys2Proof.Machine
end

