-- ==== Sys2Proof/Machine/Loader.lean ====
section
/-! DEFINITION. Version slots, loading while running, confirmation and the commands of the CFG block (R377, R381, R387, R388, R392). -/

namespace Sys2Proof.Machine

/-! Version slots (R377): false is slot A -/

def State.slotMeta (s : State) (b : Bool) : SlotMeta := if b then s.cfg.slotB else s.cfg.slotA
def State.setSlot (s : State) (b : Bool) (m : SlotMeta) : State :=
  { s with cfg := if b then { s.cfg with slotB := m } else { s.cfg with slotA := m } }

/-- The ACTIVE slot. -/
def State.actSlot (s : State) : Option Bool := if s.cfg.slotA.active then some false else if s.cfg.slotB.active then some true else none

/-- The slot a load writes: the one that is not ACTIVE, slot A when none is (R379). -/
def State.otherSlot (s : State) : Bool := s.actSlot = some false

/-- Make a slot ACTIVE, the other not (R379); the directory and stored planes in use are its own. -/
def State.activateSlot (s : State) (b : Bool) : State :=
  let s := (s.setSlot b { s.slotMeta b with active := true }).setSlot (!b) { s.slotMeta (!b) with active := false }
  { s with res := { s.res with slotB := b } }

/-- A load takes a slot: STAGING, its metadata gone (R377; log entry 37). -/
def State.stageSlot (s : State) (b : Bool) : State := s.setSlot b { SlotMeta.zero with st := .staging, active := (s.slotMeta b).active }

/-- Keys of a slot in the tables of Slate. -/
def slotNum (b : Bool) : Nat := if b then 1 else 0

/-- The stored planes of a run (R96). -/
def putRun (m : SMap (SMap Word)) (slot : Nat) (r : CtxRun) : SMap (SMap Word) :=
  (List.range (r.words.length / 512)).foldl (fun m i =>
    smSet [] m (storeKey slot r.ctx i) (smSetList 0 [] 0 ((r.words.drop (512 * i)).take 512))) m

/-- A checked image is written to a slot and committed (R97, R375, R377): its contexts are AVAILABLE (R120). -/
def State.commitSlot (s : State) (f : Flash) (b : Bool) (h : ImgHdr) (x : ImgData) : State :=
  let n := slotNum b
  let mine (w k : Nat) : Bool := decide (k / w = n)
  let s := s.setSlot b { st := .valid, active := (s.slotMeta b).active, ginit := !(secsOf s.cfg.bfcfg f h 6).isEmpty, digest := h.digest,
                         imgver := h.imgver, arb := BitVec.ofNat 32 h.arb }
  { s with res := { s.res with
    dir := x.dir.ents.foldl (fun m e => smSet DirEnt.zero m (4096 * n + e.1) e.2) (smDrop (mine 4096) s.res.dir)
    store := x.runs.foldl (fun m r => putRun m n r) (smDrop (mine 65536) s.res.store)
    rowMark := smDrop (mine (2 ^ 21)) s.res.rowMark
    ctxSt := smDrop (mine 4096) s.res.ctxSt } }

/-- A failure's cause and detail are recorded (R383, R388). -/
def State.cfgErrWord (s : State) (e : ImgErr) : State := (s.wr CFG_ERR e.word).wr CFG_ERRDET (BitVec.ofNat 32 e.detail)

/-- An area is loaded into a slot: STAGING, checks, rows, commit; or the slot is EMPTY (R376, R377, R527). Each of the `bad` rows that failed takes a spare
row; without one for each the load fails. -/
def State.loadInto (s : State) (f : Flash) (b : Bool) (h : ImgHdr) (bad : Nat) : Sum (ImgErr × State) State :=
  let s := s.stageSlot b
  let fail (s : State) (e : ImgErr) : Sum (ImgErr × State) State :=
    .inl (e, (s.drawn.wr CFG_LDPROG (BitVec.ofNat 32 s.freeVal.toNat)).setSlot b
      { s.slotMeta b with st := .empty })
  match s.checkImage f h with
  | .inl e => fail s e
  | .inr x =>
    if s.pins.vppLost ∨ s.res.spare.toNat < bad then fail s (imgErr 15 h.area)
    else
      let s := { s with res := { s.res with spare := s.res.spare - BitVec.ofNat 20 bad } }
      .inr ((s.commitSlot f b h x).wr CFG_LDPROG (BitVec.ofNat 32 h.totlen))

/-! Commands (R388) -/

/-- A command is ignored with CFGERR. -/
def State.cfgBad (s : State) : State := s.setBits CFG_STATUS 32

/-- No reset holds the device: the CFG block is there. -/
def State.cfgUp (s : State) : Bool := decide (s.cfg.st ≠ .held)

/-- LOAD of an area known present or not (R387). -/
def State.loadStart (s : State) (area : Nat) : State :=
  if s.cfg.st ≠ .run ∨ !s.cfg.areas.getLsbD area then s.cfgBad
  else
    let s := s.stageSlot s.otherSlot
    { s with cfg := { s.cfg with st := .loading, load := some area } }.wr CFG_LDPROG 0

/-- ACTIVATE (R388). -/
def State.activate (s : State) (b : Bool) : State :=
  let m := s.slotMeta b
  if (m.st ≠ .valid ∧ !m.active) ∨ (s.cfg.load.isSome ∧ b = s.otherSlot) then s.cfgBad
  else { s with cfg := { s.cfg with pend := if m.active then none else some (b, false) } }

/-- ROLLBACK (R388); in FAILED it does nothing. -/
def State.rollback (s : State) : State :=
  if s.cfg.st = .failed then s
  else if (s.slotMeta s.otherSlot).st ≠ .valid then s.cfgBad
  else { s with cfg := { s.cfg with pend := some (s.otherSlot, true) } }.restart false

/-- ABORT (R387, R388). -/
def State.cfgAbort (s : State) : State :=
  match s.cfg.load with
  | none => s.cfgBad
  | some _ =>
    let b := s.otherSlot
    let s := s.setSlot b { s.slotMeta b with st := .empty }
    { s with cfg := { s.cfg with st := .run, load := none } }.setBits CFG_STATUS 16

/-- CLRREJ (R388). -/
def State.clrrej (s : State) : State :=
  let f (m : SlotMeta) : SlotMeta := if m.st = .rejected then { m with st := .valid } else m
  { s with cfg := { s.cfg with slotA := f s.cfg.slotA, slotB := f s.cfg.slotB } }

/-- The start is confirmed (R381), and ARB_MIN follows it (R392). A start that has failed is over. -/
def State.confirm (s : State) : State :=
  if s.cfg.st = .held ∨ s.cfg.st = .failed then s
  else
    let s := { s with cfg := { s.cfg with failcnt := 0, confirmed := true } }
    match s.cfg.img with
    | some h => if s.sec.fpol.getLsbD 1 then { s with sec := { s.sec with arbMin := Nat.max s.sec.arbMin h.arb } } else s
    | none => s

/-- A write of CFG_CMD (R388). -/
def State.cfgCmd (s : State) (v : Word) : State :=
  let sel := tb v 8
  if !s.cfgUp then s
  else match fld v 31 28 with
    | 1 => s.loadStart (if sel then 1 else 0)
    | 2 => s.activate sel
    | 3 => s.rollback
    | 4 => s.restart sel
    | 5 => s.cfgAbort
    | 6 => s.clrrej
    | _ => s.cfgBad

/-- LOAD (R387): the directory of the flash says which areas are present. -/
def execCfgLoad (area : Nat) (f : Flash) (s : State) : Res' :=
  if !decide (area < 2) then .fault .noSuchUnit
  else
    let s := if s.cfg.st = .run then
        { s with cfg := { s.cfg with areas := ((bootDir s.cfg.bfcfg f).map (fun d => d.present)).getD 0 } } else s
    .next (s.cfgCmd (BitVec.ofNat 32 (2 ^ 28 + 256 * area)))

/-- LOAD_COMMIT (R376, R377, R387): the running load ends; `x.bad` rows failed as they were written. -/
def execLoadCommit (x : CommitIn) (s : State) : Res' :=
  match s.cfg.load with
  | none => .next s
  | some area =>
    let ended (s : State) : State := { s with cfg := { s.cfg with st := .run, load := none } }
    let ends (s : State) (e : ImgErr) : Res' := .next (((ended s).cfgErrWord e).setBits CFG_STATUS 16)
    let b := s.otherSlot
    match s.authArea x.flash area with
    | .inl e => ends ((s.drawn.wr CFG_LDPROG (BitVec.ofNat 32 s.freeVal.toNat)).setSlot b
        { s.slotMeta b with st := .empty }) e
    | .inr h => match s.loadInto x.flash b h x.bad with
      | .inl (e, t) => ends t e
      | .inr t => .next ((ended t).setBits CFG_STATUS 8)

/-- ACTIVATE (R388). -/
def execCfgActivate (slot : Nat) (s : State) : Res' :=
  if decide (slot < 2) then .next (s.cfgCmd (BitVec.ofNat 32 (2 * 2 ^ 28 + 256 * slot))) else .fault .noSuchUnit

/-- ROLLBACK (R388). -/
def execCfgRollback (s : State) : Res' := .next (s.cfgCmd 0x30000000#32)

/-- CFG_RESTART (R378, R388). -/
def execCfgRestart (cold : Bool) (s : State) : Res' := .next (s.cfgCmd (if cold then 0x40000100#32 else 0x40000000#32))

/-- ABORT (R387). -/
def execCfgAbort (s : State) : Res' := .next (s.cfgCmd 0x50000000#32)

/-- CLRREJ (R388). -/
def execCfgClrrej (s : State) : Res' := .next (s.cfgCmd 0x60000000#32)

/-- CFG_CONFIRM (R381): any interface may write it. -/
def execCfgConfirm (i : Iface) (s : State) : Res' := .next (s.confirm.answer i .ok [])

/-- CONFIRM_TIMEOUT (R381): CONFIRM_MS in RUN without a CRIT record. -/
def execConfirmTimeout (s : State) : Res' :=
  .next (match s.cfg.img with
    | some h => if h.confirmMs ≠ 0 ∧ !s.gsr ∧ !s.cfg.crit ∧ !s.cfg.confirmed then s.confirm else s
    | none => s)

end Sys2Proof.Machine
end

