-- ==== Sys2Proof/Machine/RegRead.lean ====
section
/-! DEFINITION. What each register holds for a reader (R8-R11, the register tables of every chapter): the fields that report state are
computed from the state, the others are the stored word. Reads with an effect stand in Bus.lean. -/

namespace Sys2Proof.Machine

def wordN (n : Nat) : Word := BitVec.ofNat 32 n
/-- A bit of a register. -/
def atBit (b : Bool) (k : Nat) : Nat := Bool.bit b * 2 ^ k
/-- Half `h` of a 64-bit value. -/
def half64 (n : Nat) (h : Nat) : Word := wordN (n / 2 ^ (32 * (h % 2)))
/-- One bit for each index below `n`. -/
def bitsNat (n : Nat) (f : Nat → Bool) : Nat := ((List.range n).map (fun i => atBit (f i) i)).foldl (· + ·) 0

/-- SYS identification (R38), SYS_CRST (R532). -/
def State.sysVal (s : State) (a : Nat) : Word :=
  if a = SYS_GRADE then
    wordN ((if s.fuse.suffixX then 0xEC else 0) * 2 ^ 24 + (if s.fuse.suffixX then 105 else 100) * 2 ^ 16 + s.topOpp * 2 ^ 8 +
      atBit s.fuse.suffixX 4 + Bool.bit s.fuse.gradeA)
  else if a = SYS_UID_LO then half64 s.fuse.uid.toNat 0
  else if a = SYS_UID_HI then half64 s.fuse.uid.toNat 1
  else if a = SYS_CRST then s.rd a ||| wordN (atBit s.flt.crst.isSome 30)
  else s.rd a

/-- PWR (R427). A region on a fallback clock counts as OPP0 and makes no transition (R424, R425). -/
def State.pwrVal (s : State) (i : Iface) (a : Nat) : Word :=
  let d := s.dsel i
  if a = PWR_DSEL then s.sel i a
  else if a = PWR_DCTL then wordN (s.pwrReq d * 2 ^ 30 + domCode (s.dom d))
  else if a = PWR_DRES then s.sel i a &&& 7
  else if PWR_OPP 0 ≤ a ∧ a < PWR_OPP 64 then
    let r := (a - PWR_OPP 0) / 4
    let w := s.rd a
    wordN (w.toNat / 2 ^ 20 * 2 ^ 20 + atBit (s.onFallback r) 18 + atBit (s.coupled (r % 32)) 17 +
      atBit (!s.onFallback r && decide (fld w 9 8 ≠ s.target r)) 16 + s.target r * 2 ^ 12 + s.curOpp r * 2 ^ 8 + fld w 5 4 * 2 ^ 4 + fld w 1 0)
  else s.rd a

/-- TH_THR follows the temperature suffix (R431). -/
def State.thVal (s : State) (a : Nat) : Word :=
  if a = TH_THR then
    let x := if s.fuse.suffixX then 5 else 0
    wordN ((115 + x) * 2 ^ 24 + (110 + x) * 2 ^ 16 + (100 + x) * 2 ^ 8 + (95 + x))
  else s.rd a

def cfgStCode : CfgSt → Nat
  | .held => 0
  | .starting => 0
  | .run => 1
  | .failed => 2
  | .loading => 3

def slotStCode : SlotSt → Nat
  | .empty => 0
  | .staging => 1
  | .valid => 2
  | .rejected => 3

/-- An image is being read: by a load while running, or in step 7 of a start (R382, R387). -/
def State.imageMoves (s : State) : Bool := s.cfg.load.isSome || (decide (s.cfg.st = .starting) && decide (s.cfg.step = 7))

/-- CFG (R388); CFG_LDPROG is a free value while an image is being read (log entry 4). -/
def State.cfgVal (s : State) (a : Nat) : Word :=
  let c := s.cfg
  if a = CFG_STATUS then
    wordN ((s.rd a &&& 0x38#32).toNat + c.bfcfg.toNat * 2 ^ 12 + atBit ((c.pend.map (fun p => p.1)).getD false) 11 + atBit c.pend.isSome 10 +
      atBit c.confirmed 9 + atBit s.res.slotB 8 + cfgStCode c.st)
  else if a = CFG_FAILCNT then wordN c.failcnt.toNat
  else if a = CFG_LDPROG ∧ s.imageMoves then wordN s.freeVal.toNat
  else if CFG_SSTAT 0 ≤ a ∧ a < CFG_SSTAT 2 then
    let m := s.slotMeta (decide (CFG_SSTAT 1 ≤ a))
    match offsetOf a % 64 with
    | 0 => wordN (atBit m.ginit 4 + atBit m.active 3 + slotStCode m.st)
    | 4 => m.imgver
    | 8 => m.arb
    | o => if 0x10 ≤ o then wordN (m.digest.toNat / 2 ^ (8 * (o - 0x10))) else 0
  else s.rd a

def sessCode : SessSt → Nat
  | .idle => 0
  | .open_ => 1
  | .one => 2
  | .granted => 3

/-- Bytes of a list as a register word, byte 0 lowest (R408). -/
def bytesAt (bs : List Byte) (o : Nat) : Word := bytesWord ((bs.drop o).take 4)

/-- SEC (R408); SEC_SESS.LEFT is a free value while a session is open, at most 61 in a window and 1 in a grant (R400, R401; log entry 4). -/
def State.secVal (s : State) (i : Iface) (a : Nat) : Word :=
  let x := s.sec
  let o := offsetOf a
  let live := decide (x.sess.st ≠ .idle)
  if o = 0x4 then wordN (atBit s.provisioned 31 + x.authRev.toNat * 2 ^ 8 + bitsNat 8 (fun j => (smFind x.auth j).isSome))
  else if o = 0x8 then wordN x.arbMin
  else if o = 0xC then
    wordN (x.hashRev.toNat * 2 ^ 20 + bitsNat 4 (fun j => (smFind x.hash j).isSome) * 2 ^ 16 + bitsNat 8 (fun j => (smFind x.mzKey j).isSome) * 2 ^ 8 +
      bitsNat 4 (fun j => (smFind x.imgB j).isSome) * 2 ^ 4 + bitsNat 4 (fun j => (smFind x.imgE j).isSome))
  else if o = 0x14 then
    wordN (sessCode x.sess.st * 2 ^ 29 + x.sess.owner * 2 ^ 26 + x.sess.signed.headD 0 * 2 ^ 23 + x.sess.cause % 256 * 2 ^ 8 +
      (match x.sess.st with
       | .idle => 0
       | .open_ => s.freeVal.toNat % 256
       | .one => s.freeVal.toNat % 62
       | .granted => s.freeVal.toNat % 2))
  else if 0x18 ≤ o ∧ o < 0x40 then s.sel i a
  else if 0x40 ≤ o ∧ o < 0x60 then (if live then bytesAt s.secNonce (o - 0x40) else 0)
  else if 0x60 ≤ o ∧ o < 0x300 then s.sel i a
  else if 0x300 ≤ o ∧ o < 0x360 then (if live then bytesAt (Config.ephemeralPub x.sess.eph) (o - 0x300) else 0)
  else if o = 0x408 then wordN x.fpol.toNat
  else if o = 0x40C then wordN x.arbMin
  else if 0x500 ≤ o ∧ o < 0x580 then
    wordN (((List.range 8).map (fun k => (s.rpol (8 * ((o - 0x500) / 4) + k)).toNat * 2 ^ (4 * k))).foldl (· + ·) 0)
  else s.rd a

/-- The bytes of a record (R505). -/
def Rec.bytes (r : Rec) : List Byte :=
  natBytes 8 r.time.toNat ++ natBytes 2 r.kind ++ [BitVec.ofNat 8 (0x80 + r.sev.toNat), 0] ++ natBytes 4 r.seq.toNat ++
    (r.detail ++ List.replicate 16 0).take 16

/-- STRATA (R498-R508). -/
def State.strataVal (s : State) (i : Iface) (a : Nat) : Word :=
  let x := s.strata
  let o := offsetOf a
  let st := smGet Stat.zero x.stats (fld (s.sel i STRATA_SSEL) 9 0)
  if o = 0 then (s.rd a &&& 0xF#32) ||| wordN (atBit x.noCkpt 4 + atBit x.tset 5 + atBit x.xtalLost 6)
  else if o = 0x10 ∨ o = 0x14 then half64 x.rtc.toNat (o / 4)
  else if o = 0x18 ∨ o = 0x1C then half64 x.uptime.toNat (o / 4)
  else if o = 0x20 ∨ o = 0x34 then s.sel i a
  else if o = 0x24 then (match x.newest with
    | some k => wordN (2 ^ 31 + k)
    | none => 0)
  else if 0x40 ≤ o ∧ o < 0x60 then (match smFind x.recs (fld (s.sel i STRATA_RSEL) 14 0) with
    | some r => bytesAt r.bytes (o - 0x40)
    | none => 0)
  else if 0x80 ≤ o ∧ o < 0xC0 then smGet 0 st.bins ((o - 0x80) / 4)
  else if o = 0xC0 then wordN (narrow 32 st.max)
  else if o = 0xC4 then wordN (narrow 32 st.min)
  else if o = 0xC8 ∨ o = 0xCC then half64 st.maxT.toNat (o / 4)
  else if o = 0xD0 ∨ o = 0xD4 then half64 st.minT.toNat (o / 4)
  else s.rd a

/-- SNAP (R510, R511). -/
def State.snapVal (s : State) (a : Nat) : Word :=
  let x := s.snap
  let o := offsetOf a
  if o = 0 then
    (s.rd a &&& 0xF#32) ||| wordN ((if x.held.isSome then 2 else if x.pend.isEmpty then 0 else 1) * 2 ^ 4 + ((x.held.map (fun b => b.src.toNat)).getD 0) * 2 ^ 8)
  else if o = 0x8 ∨ o = 0xC then half64 ((x.held.map (fun b => b.tick.toNat)).getD 0) (o / 4)
  else if o = 0x18 then (if x.held.isSome then smGet 0 x.latched (s.rd64 SNAP_ADDR_LO) else 0)
  else s.rd a

/-- Clusters that hold a context (CTX_QSTATE.NRES). -/
def State.nres (s : State) (ctx : BitVec 12) : Nat := ((List.range 1024).filter (fun c => s.holds c ctx)).length

def ctxStCode : CtxSt → Nat
  | .available => 1
  | .restoring => 2
  | .unavailable => 3

/-- The set of a pin is complete (CTX_PIN.HELD): every plane of it VALID in the cluster. -/
def State.pinHeld (s : State) (c e : Nat) : Bool :=
  let p := s.pin c e
  p.en && (List.range (s.dirEnt p.ctx.toNat).planes).all (fun k => (s.validPlane c p.ctx p.pos k).isSome)

/-- CTX_PRES and CLW_RES: presence word of a physical plane (R122, R76). -/
def State.presWord (s : State) (c p : Nat) : Word :=
  let x := s.plane c p
  wordN (atBit (decide (x.st = .valid)) 31 + atBit (decide (x.st = .filling)) 30 + atBit (s.pinned c p) 29 + atBit x.resv.isSome 28 +
    x.pos * 2 ^ 24 + x.ctx.toNat * 2 ^ 12 + x.pindex * 2 ^ 10)

/-- CTX (R122). -/
def State.ctxVal (s : State) (a : Nat) : Word :=
  let x := s.res
  let o := offsetOf a
  if o = 0 then
    (s.rd a &&& 6) ||| wordN (((List.range 4096).filter (fun k => (s.dirEnt k).valid)).length * 2 ^ 16 +
      atBit (x.ctxSt.any (fun e => decide (e.2 = .restoring))) 3 + s.slot)
  else if o = 8 then
    let q := fld (s.rd CTX_QSEL) 11 0
    let ctx : BitVec 12 := BitVec.ofNat 12 q
    if (s.dirEnt q).valid then
      wordN (ctxStCode (s.ctxSt q) * 2 ^ 30 + s.nres ctx * 2 ^ 16 + ((x.reqs ++ x.flight).filter (fun r => decide (r.ctx = ctx))).length)
    else 0
  else if o = 0xC then wordN x.spare.toNat
  else if 0x100 ≤ o ∧ o < 0x200 then
    let b := (o - 0x100) / 4
    wordN (atBit (x.flight.any (fun r => decide (busOf r.cluster = b))) 16 + (x.reqs.filter (fun r => decide (busOf r.cluster = b))).length)
  else if 0x1000 ≤ o ∧ o < 0x1200 then wordN (bitsNat 32 (fun j => decide (s.ctxSt (8 * (o - 0x1000) + j) = .unavailable)))
  else if 0x10000 ≤ o ∧ o < 0x18000 then
    let d := s.dirEnt ((o - 0x10000) / 8)
    if o / 4 % 2 = 0 then d.w0 else d.w1
  else if 0x20000 ≤ o ∧ o < 0x24000 then s.presWord ((o - 0x20000) / 16) ((o - 0x20000) / 4 % 4)
  else if 0x30000 ≤ o ∧ o < 0x34000 then (s.plane ((o - 0x30000) / 16) ((o - 0x30000) / 4 % 4)).age
  else if 0x40000 ≤ o ∧ o < 0x42000 then
    let c := (o - 0x40000) / 8
    let e := (o - 0x40000) / 4 % 2
    let p := s.pin c e
    wordN (atBit p.en 31 + atBit p.load 30 + atBit (s.pinHeld c e) 29 + atBit p.refused 28 + p.pos * 2 ^ 16 + p.ctx.toNat)
  else s.rd a

/-- The cycle sampled is a stall cycle of the cluster's instance (R50, R538). -/
def State.stalled (s : State) (c : Nat) : Bool :=
  (s.cluster c).run.isSome && (if s.cycleDone c then decide (s.stallLeft c ≠ 0) else (s.cluster c).stall)

/-- The windows of the clusters (R76, R122, R193); CLW_MDATA reads have an effect and stand in Bus.lean. -/
def State.winVal (s : State) (a : Nat) : Word :=
  let c := (a - 0x2100000000) / 0x1000
  let x := s.cluster c
  match a % 0x1000 with
  | 0x0 => wordN (x.ctx.toNat * 2 ^ 4 + atBit (s.stalled c) 3 + atBit x.run.isSome 2 + x.plane)
  | 0x4 => wordN x.inst.toNat
  | 0x20 => s.presWord c 0
  | 0x24 => s.presWord c 1
  | 0x28 => s.presWord c 2
  | 0x2C => s.presWord c 3
  | _ => s.rd a

/-- The matching store (R159). -/
def State.mstVal (s : State) (a : Nat) : Word :=
  let o := offsetOf a
  if o = 0x10 then wordN s.sharedFree
  else if o = 0x14 then wordN s.mst.crUsed
  else if o = 0x18 then wordN (pendKeys s.mst.pend).length
  else if o = 0x1C then wordN (s.dsp.insts.filter (fun x => decide (x.st ≠ .draining) || x.dabort)).length
  else if o = 0x20 then wordN s.mst.sticky.length
  else if o = 0x24 then wordN s.mst.hold.length
  else if 0x60 ≤ o ∧ o < 0x80 then wordN (s.usedP ((o - 0x60) / 4))
  else s.rd a

/-- The dispatcher (R194): DSP_CMIRROR repeats the counters and CLW_CTRL of the selected cluster. -/
def State.dspVal (s : State) (i : Iface) (a : Nat) : Word :=
  let o := offsetOf a
  let c := fld (s.sel i DSP_CSEL) 9 0
  if o = 0xC then wordN s.dsp.rrptr
  else if o = 0x10 then wordN (s.dsp.insts.filter (fun x => decide (x.st = .ready))).length
  else if o = 0x14 then wordN s.dsp.claims.length
  else if o = 0x1C then s.sel i a
  else if 0x20 ≤ o ∧ o < 0x38 then s.rd (CLW_BUSY_LO c + (o - 0x20))
  else if o = 0x38 then s.rd (CLW_CTRL c)
  else if 0x200 ≤ o ∧ o < 0x280 then wordN (s.shadow ((o - 0x200) / 4))
  else if 0x280 ≤ o ∧ o < 0x300 then wordN (s.loadK ((o - 0x280) / 4))
  else s.rd a

/-- Queues and flows (R195): POP0 and WMQ reads have an effect and stand in Bus.lean. -/
def State.flowVal (s : State) (i : Iface) (a : Nat) : Word :=
  let o := offsetOf a
  let q := s.qsel i
  if o = 0x4 then s.sel i a
  else if 0x10 ≤ o ∧ o < 0x20 then wordN (qrecNat (s.qrec q) / 2 ^ (8 * (o - 0x10)))
  else if o = 0x20 then wordN (s.qrec q).depth
  else if o = 0x24 then wordN ((s.order q).next.toNat * 2 ^ 8 + (s.order q).winlog.toNat * 2 ^ 3)
  else if o = 0x28 then wordN s.rfree
  else if o = 0x38 then s.sel i a
  else if 0x40 ≤ o ∧ o < 0x50 then 0
  else if 0x50 ≤ o ∧ o < 0x60 then s.sel i a
  else s.rd a

def portStCode : PortSt → Nat
  | .ready => 0
  | .drain => 1
  | .drained => 2
  | .off => 3
  | .waking => 4

/-- The router and the port an interface has selected (R215). -/
def State.rsel (s : State) (i : Iface) : Nat × Nat := (fld (s.sel i NOC_RSEL) 9 8, fld (s.sel i NOC_RSEL) 6 0)
def State.psel (s : State) (i : Iface) : PortId := ⟨(s.rsel i).1, (s.rsel i).2, fld (s.sel i NOC_PSEL) 2 0⟩

/-- NOC (R215). -/
def State.nocVal (s : State) (i : Iface) (a : Nat) : Word :=
  let o := offsetOf a
  let r := s.rsel i
  let k := routerKey r.1 r.2
  let p := s.psel i
  let ok := nodeOk r.1 r.2
  if o = 0x4 ∨ o = 0x10 then s.sel i a
  else if o = 0x8 then
    (if ok then
      let fz := s.freezing r.1 r.2
      let dn := smGet false s.noc.frozen k
      wordN (atBit fz 31 + atBit dn 1 + atBit (fz && !dn) 0)
     else 0)
  else if o = 0xC then (if ok then wordN (s.rcfg r.1 r.2).toNat else 0)
  else if o = 0x14 then (if portOk p then wordN (atBit (smGet false s.noc.want (portKey p)) 31 + portStCode (s.portSt p)) else 0)
  else if o = 0x28 ∨ o = 0x2C then (if portOk p then half64 (smGet 0 s.noc.pflits (portKey p)).toNat (o / 4) else 0)
  else if o = 0x30 ∨ o = 0x34 then (if portOk p then half64 (smGet 0 s.noc.pwait (portKey p)).toNat (o / 4) else 0)
  else s.rd a

/-- CACHE (R245). -/
def State.cacheVal (s : State) (i : Iface) (a : Nat) : Word :=
  let o := offsetOf a
  let sl := s.ssel i
  if o = 0 then (s.rd a &&& 3) ||| wordN (atBit s.cache.mop.isSome 2 + atBit (smFind s.cache.trans sl).isSome 3)
  else if o = 0x4 then s.sel i a
  else if o = 0x8 then wordN (s.lockMask sl).toNat
  else if o = 0x20 then smGet 0 s.cache.hits sl
  else if o = 0x24 then smGet 0 s.cache.misses sl
  else if o = 0x28 then smGet 0 s.cache.wbacks sl
  else if o = 0x2C then wordN (smGet 0 s.cache.ovf sl).toNat
  else s.rd a

/-- GARNET (R247). -/
def State.garnetVal (s : State) (a : Nat) : Word :=
  let o := offsetOf a
  if o = 0 then (s.rd a &&& 0x38#32) ||| wordN (Bool.bit (!s.garnet.fences.isEmpty) + atBit s.garnet.pf 1 + atBit s.garnet.pfDone 2)
  else if o = 0x4 then 0
  else if o = 0xC then wordN s.garnet.wbuf.length
  else if o = 0x14 then wordN (Nat.min s.wearMax (2 ^ 32 - 1))
  else s.rd a

def Retire.word (r : Retire) : Word := wordN (atBit r.valid 31 + atBit r.auto 30 + r.space.toNat * 2 ^ 28 + r.target.toNat)

/-- ECC and MARCH (R270, R272). -/
def State.eccVal (s : State) (i : Iface) (a : Nat) : Word :=
  let o := offsetOf a
  if o = 0 then s.rd a ||| wordN (atBit s.ecc.scrub.isSome 3)
  else if o = 0x60 then 0
  else if o = 0x64 then s.sel i a
  else if o = 0x68 then (smGet Retire.zero s.ecc.retire (s.rtsel i)).word
  else if o = 0x6C then wordN (s.ecc.retire.filter (fun e => e.2.valid)).length
  else s.rd a
def State.marchVal (s : State) (i : Iface) (a : Nat) : Word :=
  let o := offsetOf a
  if o = 0 then s.rd a ||| wordN (Bool.bit s.ecc.march.isSome)
  else if o = 0xC then s.sel i a
  else if o = 0x10 then
    let n := (smGet [] s.ecc.spares (fld (s.sel i MARCH_RSEL) 15 0)).length
    wordN (n + atBit (decide (n ≥ 16)) 8)
  else s.rd a

def regStCode : RegSt → Nat
  | .off => 0
  | .initializing => 1
  | .active => 2
  | .rekeying => 3

/-- Word `w` of a region's entry (R279, R296). -/
def Region.rent (x : Region) (w : Nat) : Word :=
  match w with
  | 0 => wordN (atBit x.valid 31 + atBit x.init 30 + x.prot.toNat * 2 ^ 28 + x.kid.toNat * 2 ^ 16 + regStCode x.st)
  | 1 => wordN (x.dsize.toNat * 2 ^ 16 + x.dbase.toNat)
  | 2 => wordN x.pbase.toNat
  | _ => wordN x.psize

/-- DDR (R296): REFMUL and CHSTAT.MUL give the multipliers in force. -/
def State.ddrVal (s : State) (i : Iface) (a : Nat) : Word :=
  let o := offsetOf a
  let x := s.ddr
  let ch := fld (s.sel i DDR_CHSEL) 3 0
  if o = 0 then
    (s.rd a &&& 0x1C#32) ||| wordN (Bool.bit x.ready + atBit x.training 1 + atBit (x.regions.any (fun e => decide (e.2.st = .initializing))) 5 +
      ((List.range 32).map (fun c => (smGet 0 x.mulNow c).toNat)).foldl Nat.max 0 * 2 ^ 6)
  else if o = 0x8 then 0
  else if o = 0x10 ∨ o = 0x24 then s.sel i a
  else if 0x14 ≤ o ∧ o < 0x24 then (s.region (fld (s.sel i DDR_RSEL) 7 0)).rent ((o - 0x14) / 4)
  else if o = 0x28 then
    let m := (smGet 0 x.mr4 ch).toNat
    wordN (m / 8 * 2 ^ 8 + m % 8 * 2 ^ 4 + Nat.max (smGet 0 x.mulNow (2 * ch)).toNat (smGet 0 x.mulNow (2 * ch + 1)).toNat)
  else s.rd a

def kidCode : KidSt → Nat
  | .free => 0
  | .active _ => 1
  | .draining _ => 2

/-- MCE (R296); the read of MCE_KIDALLOC has an effect and stands in Bus.lean. -/
def State.mceVal (s : State) (a : Nat) : Word :=
  let o := offsetOf a
  if o = 8 ∨ o = 0x20 then 0
  else if 0x10 ≤ o ∧ o < 0x20 then
    wordN (((List.range 16).map (fun k => kidCode (smGet .free s.ddr.kids (4 * (o - 0x10) + k)) * 2 ^ (2 * k))).foldl (· + ·) 0)
  else if o = 0x24 then (match s.ddr.rekey with
    | some r => wordN (2 ^ 31 + r.newKid.toNat * 2 ^ 24 + r.ptr)
    | none => 0)
  else s.rd a

/-- The state of a lane and its link (LANE_LST, R465). -/
def State.lstWord (s : State) (l : Nat) : Word :=
  let x := s.lane l
  let f := s.linkOf l
  let k := (f.map s.link).getD Link.zero
  wordN (atBit k.maperr 24 + x.slot.toNat * 2 ^ 16 + (if s.dom (domLane l) = .on then x.pwr.toNat else 3) * 2 ^ 14 + atBit x.failed 13 +
    atBit k.rev 12 + atBit x.polinv 11 + atBit (decide (2 ≤ x.ok)) 10 + atBit x.lock 9 + k.st.toNat)

/-- LANE (R465): registers other than STATUS, SEL and GRATE are those of the selected lane or link. -/
def State.laneVal (s : State) (i : Iface) (a : Nat) : Word :=
  let o := offsetOf a
  let l := fld (s.sel i LANE_SEL) 5 0
  if o = 0 then s.rd a
  else if o = 4 then s.sel i a
  else if 0x100 ≤ o then s.rd a
  else if o = 0x10 then s.lstWord l
  else if o = 0x14 then s.lrd l a ||| wordN (atBit (s.lane l).rxlock 26)
  else s.lrd l a

/-- HALO (R473). -/
def State.haloVal (s : State) (a : Nat) : Word :=
  let o := offsetOf a
  if o = 0x18 then (match s.halo.rx with
    | m :: _ => wordN (2 ^ 31 + s.halo.rx.length * 2 ^ 24 + m.src.toNat * 2 ^ 16 + m.bytes.length * 2 ^ 8)
    | [] => 0)
  else if o = 0x1C then 0
  else if 0x80 ≤ o ∧ o < 0xC0 then (match s.halo.rx with
    | m :: _ => bytesAt m.bytes (o - 0x80)
    | [] => 0)
  else s.rd a

/-- FLINTn (R357, R358). -/
def State.flintVal (s : State) (n : Nat) (a : Nat) : Word :=
  let o := offsetOf a
  let t := s.tile n
  if o = 0 then
    (s.rd a &&& 0xBC0#32) ||| wordN (t.mode.toNat + atBit (s.partDone (2 * n)) 4 + atBit (s.partDone (2 * n + 1)) 5 +
      atBit (!t.part0.ramDead.isEmpty || !t.part1.ramDead.isEmpty) 10)
  else if 0xC0 ≤ o ∧ o < 0x100 then (s.rd a &&& 0xFFFFFF#32) ||| wordN ((s.mbox n ((o - 0xC0) / 4)).buf.length * 2 ^ 24)
  else s.rd a

/-- The word a register holds for an interface: zero at an offset that no register occupies (R8-R11, R34). -/
def State.regValue (s : State) (i : Iface) (a : Nat) : Word :=
  if inWindows a then (if (regDesc a).isSome then s.winVal a else 0)
  else if (regDesc a).isNone then 0
  else match blockOf a with
  | 0 => s.sysVal a
  | 2 => s.pwrVal i a
  | 3 => s.thVal a
  | 5 => s.cfgVal a
  | 6 => s.secVal i a
  | 7 => s.strataVal i a
  | 8 => s.snapVal a
  | 9 => s.dspVal i a
  | 10 => s.mstVal a
  | 11 => s.flowVal i a
  | 12 => s.nocVal i a
  | 13 => s.cacheVal i a
  | 15 => s.garnetVal a
  | 16 => s.eccVal i a
  | 17 => s.marchVal i a
  | 18 => s.ddrVal i a
  | 19 => s.mceVal a
  | 20 => s.laneVal i a
  | 21 => s.haloVal a
  | 22 => if a = PCIE_ID then wordN (0x4096 * 2 ^ 16 + s.fuse.vendor.toNat) else s.rd a
  | 23 =>
    if a = HP_STATUS then s.rd a ||| wordN (atBit (s.tile 0).hostbus 8)
    else if HP_PUSH 0 ≤ a ∧ a ≤ HP_PUSH 3 then 0
    else if HP_MIR 0 ≤ a then smGet 0 s.hp.mirror ((offsetOf a - 0x1000) / 4)
    else s.rd a
  | 24 =>
    let o := offsetOf a
    if 0x100 ≤ o ∧ (o - 0x100) % 64 = 0x1C then s.gpioIn ((o - 0x100) / 64) else s.rd a
  | 25 => s.flintVal 0 a
  | 26 => s.flintVal 1 a
  | 28 => s.ctxVal a
  | _ => s.rd a

end Sys2Proof.Machine
end

