-- ==== Sys2Proof/Machine/Snapshot.lean ====
section
/-! DEFINITION. Snapshots (R509-R511): the RTC reaching the tick of a BOLT, and the latching of every RO and W1C register. -/

namespace Sys2Proof.Machine

/-! The registers that are latched (R510) -/

/-- Merge two rising lists; `fuel` at least the sum of their lengths. -/
def mergeUp : Nat → List Nat → List Nat → List Nat
  | 0, xs, ys => xs ++ ys
  | _, [], ys => ys
  | _, xs, [] => xs
  | n + 1, x :: xs, y :: ys => if x ≤ y then x :: mergeUp n xs (y :: ys) else y :: mergeUp n (x :: xs) ys

/-- The addresses a table entry describes, in a block at `base`. -/
def RegDesc.addrs (base : Nat) (d : RegDesc) : List Nat := (List.range d.count).map (fun i => base + d.off + d.stride * i)

/-- Every register address of a table, rising. -/
def regAddrs (base : Nat) (ds : List RegDesc) : List Nat :=
  ds.foldr (fun d acc => let xs := d.addrs base; mergeUp (xs.length + acc.length) xs acc) []

/-- A register without RO or W1C fields whose table entry alone does not say so: its writes have an effect of their own. -/
def purelyRw (a : Nat) : Bool :=
  decide (a = CACHE_LOCK) || decide (a = NOC_RCFG) || decide (a = FLOW_ORD) || decide (a = DDR_RENT 1) || decide (a = DDR_RENT 2) ||
  decide (a = FLINT0_CLK) || decide (a = FLINT1_CLK) || decide (a = STRATA_RTC_LO) || decide (a = STRATA_RTC_HI) ||
  (decide (FLINT0_MBA 0 ≤ a) && decide (a ≤ FLINT0_MBB 15)) || (decide (FLINT1_MBA 0 ≤ a) && decide (a ≤ FLINT1_MBB 15)) ||
  (decide (blockOf a = 22) && decide (0x1000 ≤ offsetOf a) && decide ((offsetOf a - 0x1000) % 64 = 0))

/-- The register has an RO or W1C field (R510); the SEC block latches nothing. -/
def latchable (a : Nat) : Bool :=
  match regDesc a with
  | none => false
  | some d =>
    !(inBlocks a && decide (blockOf a = 6)) &&
    (decide (d.w1c ≠ 0) || (decide (d.rw = 0) && !purelyRw a) || (decide (PWR_OPP 0 ≤ a) && decide (a < PWR_OPP 64)) || decide (a = LANE_PRBS))

/-- What a register shows depends on a select the interface holds, or on the read itself (R15, R77, R180, R181, R293): its latched copy is a free
value (log entry 6). -/
def latchFree (a : Nat) : Bool :=
  if inWindows a then decide (a % 0x1000 = 0x10) || decide (a % 0x1000 = 0x14)
  else
    let o := offsetOf a
    match blockOf a with
    | 2 => decide (o = 0x8) || decide (o = 0xC)
    | 7 => (decide (0x40 ≤ o) && decide (o < 0x60)) || (decide (0x80 ≤ o) && decide (o < 0xD8))
    | 9 => decide (0x20 ≤ o) && decide (o < 0x3C)
    | 11 => decide (o = 0x20) || decide (o = 0x38) || (decide (0x50 ≤ o) && decide (o < 0x60))
    | 12 => decide (o = 0x8) || decide (o = 0x14) || decide (0x28 ≤ o)
    | 13 => decide (0x20 ≤ o)
    | 16 => decide (o = 0x68)
    | 17 => decide (o = 0x10)
    | 18 => (decide (0x14 ≤ o) && decide (o < 0x24)) || decide (o = 0x28)
    | 19 => decide (o = 4)
    | 20 => decide (0x10 ≤ o) && decide (o < 0x2C)
    | _ => false

/-- The block of a register has no power (R510): a cluster asleep with its window dark (R35), a Flint tile, PCIe. -/
def State.latchDark (s : State) (a : Nat) : Bool :=
  if inWindows a then
    let d := s.dom ((a - 0x2100000000) / 0x1000)
    decide (d = .stratus) || decide (d = .nimbus) || decide (d = .off)
  else match blockOf a with
    | 22 => decide (s.dom domPcie = .off)
    | 25 => decide (s.dom (domTile 0) = .off)
    | 26 => decide (s.dom (domTile 1) = .off)
    | _ => false

/-- The copy of one register. -/
def State.latchWord (s : State) (n a : Nat) : Word :=
  if s.latchDark a then 0
  else if latchFree a then BitVec.ofNat 32 (Config.freeValue (s.freeCtr + n)).toNat
  else if a = FLOW_WMQ then s.flowWmq.2
  else if a = CACHE_STATUS then (s.cacheVal .supv a &&& 7) ||| BitVec.ofNat 32 (atBit ((Config.freeValue (s.freeCtr + n)).getLsbD 0) 3)
  else s.regValue .supv a

/-- Every register that is latched, rising. -/
def latchAddrs : List Nat :=
  ((List.range 29).flatMap (fun n => regAddrs (0x2000000000 + 0x100000 * n) (regsBlock n)) ++
    (List.range 1024).flatMap (fun c => regAddrs (0x2100000000 + 0x1000 * c) regsWindow)).filter latchable

/-- The copies, from the `n`-th register on; zeros are not listed. -/
def State.latchList (s : State) : Nat → List Nat → SMap Word
  | _, [] => []
  | n, a :: as =>
    let v := s.latchWord n a
    if v = 0 then s.latchList (n + 1) as else (a, v) :: s.latchList (n + 1) as

/-- Latch for a BOLT, unless a snapshot is HELD; a BOLT of the tick that is held counts as the same one (R511). -/
def State.latch (s : State) (b : BoltWait) (late : Bool) : State :=
  if (s.snap.held.map (fun h => h.tick)) = some b.tick then s
  else if s.snap.held.isSome then (s.bump SNAP_MISSED SNAP_CNTOVF 0).setBits SNAP_STATUS 2
  else
    let l := s.latchList 0 latchAddrs
    let s := { s with snap := { s.snap with held := some b, latched := l }, freeCtr := s.freeCtr + latchAddrs.length }
    s.setBits SNAP_STATUS (if late then 5 else 1)

/-- The RTC has reached or passed a tick. -/
def State.tickPast (s : State) (tick : BitVec 64) : Bool := !(s.strata.rtc - tick).msb

/-- Every pending BOLT whose tick the RTC has reached takes its turn, in order of arrival. -/
def State.boltsDue (s : State) : State :=
  let due := s.snap.pend.filter (fun b => s.tickPast b.tick)
  let s := { s with snap := { s.snap with pend := s.snap.pend.filter (fun b => !s.tickPast b.tick) } }
  due.foldl (fun s b => s.latch b false) s

/-- One RTCK edge, with the BOLTs whose tick it brings. -/
def State.edge (s : State) : State := s.tick.boltsDue

/-- `n` edges. -/
def State.edges (s : State) : Nat → State
  | 0 => s
  | n + 1 => s.edge.edges n

/-- BOLT_LATCH (R510): `ticks` RTCK edges pass; a BOLT whose tick has come latches. -/
def execBoltLatch (ticks : Nat) (s : State) : Res' := .next (s.boltsDue.edges ticks)

/-- A BOLT that arrives with its tick: one at or after its tick latches at once (R470), and sets LATE_EV when the tick has passed (R511). True if it
was at or after its tick. -/
def State.boltArrive (s : State) (b : BoltWait) : State × Bool :=
  if s.tickPast b.tick then (s.latch b (decide (s.strata.rtc ≠ b.tick)), true) else (s.boltAdd b.tick b.src, false)

end Sys2Proof.Machine
end

