-- ==== Sys2Proof/Machine/Halo.lean ====
section
/-! DEFINITION. The Halo ring (R466-R473). The bytes of ENUM, TIME and BOLT payloads are this model's (log entry 38). -/

namespace Sys2Proof.Machine

def State.haloCfgErr (s : State) : State := s.setBits HALO_STATUS 128
def State.haloMaster (s : State) : Bool := tb (s.rd HALO_CTRL) 30
def State.haloValid (s : State) : Bool := tb (s.rd HALO_POS) 31
/-- The CRC of a received frame is good (R467). -/
def haloGood (f : HaloFrame) : Bool :=
  decide (f.crc = crc16 ([f.typ, f.dst, f.src, f.flags, BitVec.ofNat 8 f.payload.length] ++ f.payload))
/-- Send a frame on with the fields it now has. -/
def State.haloForward (s : State) (f : HaloFrame) : State := s.haloSend (haloFrameOf f.typ f.dst f.src f.flags f.payload)

/-! ENUM (R468) -/

/-- The payload of an ENUM: SYS_UID, count, W. -/
def enumPayload (uid count w : Nat) : List Byte := natBytes 8 uid ++ natBytes 1 count ++ natBytes 2 w
def enumUid (f : HaloFrame) : Nat := bytesNat (f.payload.take 8)
def enumCount (f : HaloFrame) : Nat := bytesNat ((f.payload.drop 8).take 1)
def enumW (f : HaloFrame) : Nat := bytesNat ((f.payload.drop 9).take 2)

/-- Position and number of devices change to these; a change sets ENUM_EV. -/
def State.haloPlace (s : State) (pos n : Nat) : State :=
  let w := BitVec.ofNat 32 (2 ^ 31 + n % 128 * 2 ^ 16 + pos % 64)
  let t := s.wr HALO_POS w
  if s.rd HALO_POS = w then t else t.setBits HALO_STATUS 4

/-- A slave takes its position and W from an ENUM, and sends it on with the count increased. -/
def State.enumSlave (s : State) (f : HaloFrame) : State :=
  let c := enumCount f
  let s := s.haloPlace (c + 1) (fld (s.rd HALO_POS) 22 16)
  let s := (s.wr HALO_LOOP (BitVec.ofNat 32 (enumW f * 2 ^ 16))).clrBits HALO_STATUS 16
  s.haloForward { f with payload := enumPayload (enumUid f) (c + 1) (enumW f) }

/-- The ENUM of this master comes back (R468): N, L and W. -/
def State.enumBack (s : State) (f : HaloFrame) : State :=
  let n := enumCount f + 1
  let w := (f.loopNs - (n - 1) * 256) / n
  let s := s.haloPlace 0 n
  let s := s.wr HALO_LOOP (BitVec.ofNat 32 (w % 2 ^ 16 * 2 ^ 16 + f.loopNs % 2 ^ 16))
  { s with halo := { s.halo with out1 := 0 } }.clrBits HALO_STATUS 32

/-- An ENUM arrives. -/
def State.enumFrame (s : State) (f : HaloFrame) : State :=
  if !s.haloMaster then s.enumSlave f
  else if enumUid f = s.fuse.uid.toNat then s.enumBack f
  else
    let s := s.setBits HALO_STATUS 8
    if enumUid f < s.fuse.uid.toNat then (s.clrBits HALO_CTRL 0x40000000#32).enumSlave f else s.haloForward f

/-- ENUM (R468): sent every 1 ms by the master; one that fails to return twice in succession sets BROKEN. -/
def execHaloEnum (s : State) : Res' :=
  .next (if !s.haloOn ∨ !s.haloMaster then s
    else
      let s := if s.halo.out1 ≥ 2 then s.setBits HALO_STATUS 32 else s
      let s := s.haloSend (haloFrameOf 1 0xFF#8 0 0 (enumPayload s.fuse.uid.toNat 0 (fld (s.rd HALO_LOOP) 31 16)))
      { s with halo := { s.halo with out1 := s.halo.out1 + 1 } })

/-- NOMST (R468): a slave that has had no ENUM for 4 ms. -/
def execHaloNomst (s : State) : Res' :=
  .next (if !s.haloOn ∨ s.haloMaster then s else (s.setBits HALO_STATUS 16).clrBits HALO_POS 0x80000000#32)

/-! TIME (R469) -/

/-- TIME (R469): the master sends its RTC. -/
def execHaloTime (s : State) : Res' :=
  .next (if !s.haloOn ∨ !s.haloMaster then s else s.haloSend (haloFrameOf 2 0xFF#8 s.haloPos 0 (natBytes 8 s.strata.rtc.toNat)))

/-- Nanoseconds in RTCK ticks of 1/2^20 s, rounded to the nearest. -/
def nsTicks (ns : Nat) : Nat := (ns * 2 ^ 21 + 10 ^ 9) / (2 * 10 ^ 9)

/-- A slave with a position sets its RTC (R469); the first TIME frame since POR and a move of more than 1 ms write a record (R499). -/
def State.timeFrame (s : State) (f : HaloFrame) : State :=
  let p := fld (s.rd HALO_POS) 5 0
  if s.haloMaster ∨ !tb (s.rd HALO_CTRL) 29 ∨ !s.haloValid then s
  else
    let v := BitVec.ofNat 64 (bytesNat (f.payload.take 8) + nsTicks (p * fld (s.rd HALO_LOOP) 31 16 + (p - 1) * 256))
    let moved := (v - s.strata.rtc).toInt.natAbs
    let note := !s.strata.timeSeen || decide (moved ≥ 1049)
    let s := s.rtcSet v note
    { s with strata := { s.strata with timeSeen := true } }

/-! Messages (R471) -/

/-- A message for this device is taken or refused. -/
def State.msgTake (s : State) (f : HaloFrame) : State :=
  if !s.haloValid ∨ (f.dst ≠ s.haloPos ∧ f.dst ≠ 0xFF#8) then s.haloForward f
  else if s.halo.rx.length < 8 then
    let s := { s with halo := { s.halo with rx := s.halo.rx ++ [({ src := BitVec.ofNat 6 f.src.toNat, bytes := f.payload } : HaloMsg)] } }
    (s.setBits HALO_STATUS 2).haloForward { f with flags := f.flags ||| 1 }
  else s.haloForward { f with flags := f.flags ||| 2 }

/-- A send ends with a result. -/
def State.txDone (s : State) (result : Nat) : State :=
  if tb (s.rd HALO_TXST) 31 then (s.wr HALO_TXST (BitVec.ofNat 32 result)).setBits HALO_STATUS 1 else s

/-- HALO_FRAME (R467): bad CRC and own frames are removed, every other frame is sent on. -/
def execHaloFrame (f : HaloFrame) (s : State) : Res' :=
  .next (if !s.haloOn then s
    else if !haloGood f then s.bump HALO_CRCERR HALO_CNTOVF 0
    else if f.typ = 1 then s.enumFrame f
    else if s.haloValid ∧ f.src = s.haloPos then
      (if f.typ = 4 then s.txDone (if f.flags.getLsbD 0 && !f.flags.getLsbD 1 then 1 else 2) else s)
    else if f.typ = 2 then (s.timeFrame f).haloForward f
    else if f.typ = 3 then
      let out := s.boltArrive { tick := BitVec.ofNat 64 (bytesNat (f.payload.take 8)), src := 1 }
      (if out.2 then out.1.setBits HALO_STATUS 64 else out.1).haloForward f
    else if f.typ = 4 then s.msgTake f
    else s.haloForward f)

/-- A write of HALO_TXCTL (R471, R473). -/
def State.haloTxCtl (s : State) (v : Word) : State :=
  let len := fld v 14 8
  let s := if len > 64 then (s.putField HALO_TXCTL 7 0 (fld v 7 0)).haloCfgErr else s.wr HALO_TXCTL (v &&& 0x7FFF#32)
  if !tb v 31 then s
  else if tb (s.rd HALO_TXST) 31 then s.haloCfgErr
  else
    let n := fld (s.rd HALO_TXCTL) 14 8
    let bytes := ((List.range 16).flatMap (fun w => wordBytes (s.rd (HALO_TXBUF w)))).take n
    (s.wr HALO_TXST 0x80000000#32).haloSend (haloFrameOf 4 (BitVec.ofNat 8 (fld (s.rd HALO_TXCTL) 7 0)) s.haloPos 0 bytes)

/-- A register command of a block that IO_RESET_N holds does nothing (log entry 34). -/
def ioRow (f : State → State) (s : State) : Res' := .next (if s.pins.ioRst then s else f s)

/-- HALO_TX_GO (R471). -/
def execHaloTxGo (v : Word) (s : State) : Res' := ioRow (fun s => s.haloTxCtl (v ||| 0x80000000#32)) s
/-- HALO_LOST (R471). -/
def execHaloLost (s : State) : Res' := .next (s.txDone 3)

/-- A write of HALO_RXST (R473). -/
def State.haloRxPop (s : State) : State := { s with halo := { s.halo with rx := s.halo.rx.tail } }
/-- HALO_RX_POP (R473). -/
def execHaloRxPop (s : State) : Res' := ioRow State.haloRxPop s
/-- HALO_BOLT_GO (R470). -/
def execHaloBoltGo (s : State) : Res' := ioRow (fun s => s.ringBolt 1) s

end Sys2Proof.Machine
end

