-- ==== Sys2Proof/Machine/NocCtl.lean ====
section
/-! DEFINITION. DRAIN and FREEZE (R209-R213): port states, router settings. -/

namespace Sys2Proof.Machine

/-- The power domain a port belongs to (R418). -/
def portDom (q : PortId) : Option Nat := (List.range 1483).find? (fun d => decide (domPort d = some q))

/-- The domain of a port stays ON: its sequence ends (R419). -/
def State.keepOn (s : State) (q : PortId) : State :=
  match portDom q with
  | some d => if s.pwr.leaving.contains d ∨ s.pwr.gating.contains d then s.seqOver d else s
  | none => s

/-- A write of NOC_PCTL by an interface (R210, R215). -/
def State.pctlWrite (s : State) (i : Iface) (drain : Bool) : State :=
  let q := s.psel i
  if !portOk q then s
  else
    let s := { s with noc := { s.noc with want := smSet false s.noc.want (portKey q) drain } }
    if drain then s.portDrain q
    else if s.portSt q = .drain ∨ s.portSt q = .drained then (s.setPort q .ready).keepOn q
    else s

/-- PORT_DRAIN_REQUEST (R210). -/
def execPortDrainRequest (i : Iface) (s : State) : Res' := .next ((s.pctlWrite i true).answer i .ok [])
/-- PORT_DRAIN_CANCEL (R210). -/
def execPortDrainCancel (i : Iface) (s : State) : Res' := .next ((s.pctlWrite i false).answer i .ok [])

/-- A command about an endpoint port. -/
def portRow (q : PortId) (f : State → State) (s : State) : Res' := if portOk q then .next (f s) else .fault .noSuchUnit

/-- No packet for the port remains in its router, and the endpoint has no request of its own outstanding (R210). -/
def State.portEmpty (s : State) (q : PortId) : Bool :=
  s.noc.pkts.all (fun p => !(decide (p.h.dst = q) && decide (p.net = q.net) && decide (p.node = q.node) && !p.inj && decide (p.inp ≠ 16)) &&
    !(decide (p.h.src = q) && decide (p.h.vc ≠ 1))) &&
  s.noc.kept.all (fun k => decide (k.p.h.src ≠ q)) &&
  (match portDom q with
   | some d => decide (d ≥ 1024) || !((s.cluster d).loadsOut || (s.cluster d).cb.any (fun e => e.pid.isSome))
   | none => true)

/-- PORT_DRAINED (R210). -/
def execPortDrained (net node port : Nat) (s : State) : Res' :=
  portRow ⟨net, node, port⟩ (fun s =>
    let q : PortId := ⟨net, node, port⟩
    if s.portSt q = .drain ∧ s.portEmpty q then
      let s := s.setPort q .drained
      match portDom q with
      | some d => s.domDrained d
      | none => s
    else s) s

/-- DRAIN_TO (R210, R419): the port takes packets again; a power-down that waited for it is refused. -/
def execPortDrainTo (net node port : Nat) (s : State) : Res' :=
  portRow ⟨net, node, port⟩ (fun s =>
    let q : PortId := ⟨net, node, port⟩
    if s.portSt q = .drain then
      let s := (s.setPort q .ready).setBits NOC_STATUS 8
      match portDom q with
      | some d => if s.pwr.leaving.contains d then s.pwrRefuse d 2 else s
      | none => s
    else s) s

/-- PORT_WAKE (R210, R419, R421). -/
def execPortWake (net node port : Nat) (s : State) : Res' :=
  portRow ⟨net, node, port⟩ (fun s =>
    let q : PortId := ⟨net, node, port⟩
    match portDom q with
    | some d => if d < 1024 then (s.clusterWakeReq d).portWake q else (s.domOnReq d).portWake q
    | none => s.portWake q) s

/-- PORT_READY (R210): the domain of a waking port is powered and initialized. -/
def execPortReady (net node port : Nat) (s : State) : Res' :=
  portRow ⟨net, node, port⟩ (fun s =>
    let q : PortId := ⟨net, node, port⟩
    if s.portSt q = .waking then
      let s := s.portUp q
      (match portDom q with
       | some d => if d < 1024 then (if s.dom d = DomSt.stratus ∨ s.dom d = DomSt.nimbus then s.clusterOn d else s) else s.domReady d
       | none => s).settle
    else s) s

/-! FREEZE -/

def State.setFreeze (s : State) (net node : Nat) (on : Bool) : State :=
  let k := routerKey net node
  { s with noc := { s.noc with freeze := smSet false s.noc.freeze k on, frozen := if on then s.noc.frozen else smDel s.noc.frozen k } }

/-- A write of NOC_RCTL by an interface (R212, R213, R215). -/
def State.rctlWrite (s : State) (i : Iface) (freeze : Bool) : State :=
  let r := s.rsel i
  if !nodeOk r.1 r.2 then s
  else if freeze then s.setFreeze r.1 r.2 true
  else (s.setFreeze r.1 r.2 false).settle

/-- FREEZE (R212). -/
def execRouterFreeze (i : Iface) (s : State) : Res' := .next ((s.rctlWrite i true).answer i .ok [])
/-- UNFREEZE (R213). -/
def execRouterUnfreeze (i : Iface) (s : State) : Res' := .next ((s.rctlWrite i false).answer i .ok [])

/-- FROZEN (R212): the buffers of a freezing router are empty. -/
def execRouterFrozen (net node : Nat) (s : State) : Res' :=
  if !nodeOk net node then .fault .noSuchUnit
  else .next (if s.freezing net node && !smGet false s.noc.frozen (routerKey net node) &&
      s.noc.pkts.all (fun p => p.inj || decide (p.inp = 16) || !(decide (p.net = net) && decide (p.node = node))) then
      { s with noc := { s.noc with frozen := smSet false s.noc.frozen (routerKey net node) true } }.setBits NOC_STATUS 1
    else s)

/-- A write of NOC_RCFG (R213, R215). -/
def State.rcfgWrite (s : State) (i : Iface) (v : Word) : State :=
  let r := s.rsel i
  if !nodeOk r.1 r.2 then s
  else if !smGet false s.noc.frozen (routerKey r.1 r.2) ∨ fld v 3 0 < 4 ∨ fld v 3 0 > 12 then s.setBits NOC_STATUS 4
  else { s with noc := { s.noc with rcfg := smSet 0x108 s.noc.rcfg (routerKey r.1 r.2) (BitVec.ofNat 9 (fld v 8 8 * 2 ^ 8 + fld v 3 0)) } }

/-- NOC_RCFG_WRITE (R213). -/
def execNocRcfgWrite (i : Iface) (v : Word) (s : State) : Res' := .next ((s.rcfgWrite i v).answer i .ok [])

end Sys2Proof.Machine
end

