-- ==== Sys2Proof/Machine/RegWrite.lean ====
section
/-! DEFINITION. What a write of a register does (R8-R14, the register tables of every chapter): each block's writes, by access code or by the effect
the register's own text gives it. -/

namespace Sys2Proof.Machine

/-! Access codes (R10) -/

/-- A write by access code (R10): the RW bits of `regDesc` take the value, its W1C bits written 1 clear, and the others, RO and reserved (R11), keep
theirs. W1S bits (`State.wSec`) and RWA fields (`State.rwaWrite`) have their own writes; a WO field is stored by none and `State.regValue` reads it as 0. -/
def State.genWrite (s : State) (a : Nat) (v : Word) : State :=
  match regDesc a with
  | none => s
  | some d =>
    let rw := BitVec.ofNat 32 d.rw
    s.wr a ((s.rd a &&& ~~~rw &&& ~~~(v &&& BitVec.ofNat 32 d.w1c)) ||| (v &&& rw))

/-- A write of a flag register whose bits, written 1, also clear counters: each bit with the registers it clears. -/
def State.ovfWrite (s : State) (a : Nat) (v : Word) (l : List (Nat × List Nat)) : State :=
  l.foldl (fun s e => if tb v e.1 then e.2.foldl (fun s r => s.wr r 0) s else s) (s.genWrite a v)

/-- A select or staging register held per interface, its RW fields. -/
def State.selWrite (s : State) (i : Iface) (a : Nat) (v : Word) : State :=
  match regDesc a with
  | none => s
  | some d => s.setSel i a (v &&& BitVec.ofNat 32 d.rw)

/-! The blocks -/

def State.wSys (s : State) (a : Nat) (v : Word) : State :=
  if a = SYS_CRST then s.crstWrite v
  else if a = SYS_INJ then s.sysInj v
  else if a = SYS_CNTOVF then s.ovfWrite a v [(0, [SYS_PUPSETS]), (1, [SYS_CHKFIX])]
  else s.genWrite a v

/-- CLK (R413, R416, R417): clearing FAIL_EV releases NMI_N and IRQ_N. -/
def State.wClk (s : State) (a : Nat) (v : Word) : State :=
  if a = CLK_STATUS then
    let s := s.genWrite a v
    if tb v 0 then { s with pins := { s.pins with irq := false, nmi := false } } else s
  else if a = CLK_CMD then (if tb v 0 then s.clkReturn else s)
  else if a = CLK_OBS then s.clkObs v
  else if a = CLK_CNTOVF then s.ovfWrite a v [(0, [CLK_CGTO])]
  else s.genWrite a v

def State.wPwr (s : State) (i : Iface) (a : Nat) (v : Word) : State :=
  if a = PWR_DSEL then s.dselWrite i v
  else if a = PWR_DCTL then s.dctlWrite i (fld v 31 30)
  else if a = PWR_CPOL then s.cpolWrite v
  else if a = PWR_CNTOVF then s.ovfWrite a v [(0, [PWR_WAKES])]
  else if PWR_OPP 0 ≤ a ∧ a < PWR_OPP 64 then s.oppWrite ((a - PWR_OPP 0) / 4) v
  else s.genWrite a v

def State.wTh (s : State) (a : Nat) (v : Word) : State :=
  if a = TH_CTRL then s.thCtrl v
  else if a = TH_BROKEN_LO ∨ a = TH_BROKEN_HI then
    let base := if a = TH_BROKEN_LO then 0 else 32
    (List.range 32).foldl (fun s j => if tb v j && decide (base + j < 52) then s.brokenClear (base + j) else s) s
  else if a = TH_CNTOVF then s.ovfWrite a v [(0, [TH_HALTS])]
  else s.genWrite a v

/-- A measurement that no row brings the results of: what the monitors report is free (log entry 39). -/
def State.measureFree (s : State) : State :=
  let out := (List.range 48).foldl (fun (acc : State × List (Nat × Nat)) q => (acc.1.drawn, acc.2 ++ [(q, acc.1.freeVal.toNat % 65536)])) (s, [])
  out.1.measure out.2

/-- AGE. -/
def State.wAge (s : State) (a : Nat) (v : Word) : State :=
  if a = AGE_CTRL then (if tb v 0 then s.measureFree else s)
  else if a = AGE_CNTOVF then s.ovfWrite a v [(0, [AGE_MEAS])]
  else s.genWrite a v

def State.wCfg (s : State) (a : Nat) (v : Word) : State :=
  if a = CFG_CMD then s.cfgCmd v
  else if a = CFG_CONFIRM then s.confirm
  else s.genWrite a v

/-- SEC (R396-R408): whether the entropy source passes an OPEN asked for here is free (log entry 39). -/
def State.wSec (s : State) (i : Iface) (a : Nat) (v : Word) : State :=
  let o := offsetOf a
  if a = SEC_ACMD then
    match fld v 31 28 with
    | 1 => s.drawn.sessOpen i (s.freeVal.getLsbD 0)
    | 2 => s.sessSubmit i
    | 3 => s.sessCancel i
    | _ => s
  else if isRwa a then s.rwaWrite i a v
  else if 0x420 ≤ o ∧ o < 0x438 then s.wr a (s.rd a ||| v)
  else if 0x20 ≤ o ∧ o < 0x300 then (if 0x40 ≤ o ∧ o < 0x60 then s else s.selWrite i a v)
  else s.genWrite a v

def State.strataErr (s : State) : State := s.setBits STRATA_STATUS 8

def State.wStrata (s : State) (i : Iface) (a : Nat) (v : Word) : State :=
  if a = STRATA_CMD then
    match fld v 31 28 with
    | 1 => s.checkpoint
    | 2 => s.clrRec (BitVec.ofNat 2 (fld v 25 24))
    | 3 => if fld v 9 0 < 724 ∨ fld v 9 0 = 1023 then s.clrStat (fld v 9 0) else s.strataErr
    | _ => s.strataErr
  else if a = STRATA_RSEL ∨ a = STRATA_SSEL then s.selWrite i a v
  else if a = STRATA_CNTOVF then s.ovfWrite a v [(0, [STRATA_DROPCRIT]), (1, [STRATA_DROPLOW])]
  else s.genWrite a v

/-- SNAP (R509, R511): a LEAD below 4 is ignored with CFGERR (log entry 32). -/
def State.wSnap (s : State) (a : Nat) (v : Word) : State :=
  if a = SNAP_CTRL then
    let s := if fld v 15 0 < 4 then (s.putField a 16 16 (fld v 16 16)).setBits SNAP_STATUS 8 else s.genWrite a v
    let s := if tb v 30 then s.rearm else s
    if tb v 31 then s.originBolt 3 else s
  else if a = SNAP_CNTOVF then s.ovfWrite a v [(0, [SNAP_MISSED])]
  else s.genWrite a v

/-- A write of CLW_CTRL of a cluster, in its window or as DSP_CCTRL, the last mirror register (R193, R194). -/
def State.clwCtrl (s : State) (c : Nat) (v : Word) : State :=
  s.ovfWrite (CLW_CTRL c) v [(0, [CLW_BUSY_LO c, CLW_BUSY_HI c]), (1, [CLW_FILL_LO c, CLW_FILL_HI c]), (2, [CLW_STALL_LO c, CLW_STALL_HI c])]

def State.wDsp (s : State) (i : Iface) (a : Nat) (v : Word) : State :=
  if a = DSP_CSEL then s.selWrite i a v
  else if a = DSP_CMIRROR 6 then s.clwCtrl (fld (s.sel i DSP_CSEL) 9 0) v
  else if a = DSP_CNTOVF then
    s.ovfWrite a v ((List.range 7).map (fun c => (c, [DSP_REF c])) ++
      [(7, [DSP_PLACED_LO, DSP_PLACED_HI]), (8, [DSP_CTLTOK]), (9, (List.range 128).map (fun b => DSP_HIST b))])
  else s.genWrite a v

def State.wMst (s : State) (a : Nat) (v : Word) : State :=
  if a = MST_CRES then s.mstSize none v
  else if MST_RES 0 ≤ a ∧ a < MST_RES 8 then s.mstSize (some ((a - MST_RES 0) / 4)) v
  else if a = MST_CNTOVF then
    s.ovfWrite a v ((List.range 8).map (fun p => (p, [MST_REF p])) ++ ((List.range 7).map (fun c => (8 + c, [MST_ABORT (c + 1)]))) ++
      [(15, [MST_REPLAYS]), (16, [MST_ERRTOKS]), (17, [MST_COMMITS_LO, MST_COMMITS_HI])])
  else s.genWrite a v

def State.wFlow (s : State) (i : Iface) (a : Nat) (v : Word) : State :=
  if a = FLOW_QREC 3 then s.qrecCommit i v
  else if a = FLOW_PUSH 3 then s.flowPush i v
  else if FLOW_PUSH 0 ≤ a ∧ a < FLOW_PUSH 3 then s.setSel i a v
  else if a = FLOW_QSEL ∨ (FLOW_QREC 0 ≤ a ∧ a < FLOW_QREC 3) then s.selWrite i a v
  else if a = FLOW_ORD then s.flowOrd i v
  else if a = FLOW_STATUS then s.ovfWrite a v [(3, [FLOW_ENQREF])]
  else s.genWrite a v

def State.wNoc (s : State) (i : Iface) (a : Nat) (v : Word) : State :=
  if a = NOC_RSEL ∨ a = NOC_PSEL then s.selWrite i a v
  else if a = NOC_RCTL then s.rctlWrite i (tb v 31)
  else if a = NOC_RCFG then s.rcfgWrite i v
  else if a = NOC_PCTL then s.pctlWrite i (tb v 31)
  else if a = NOC_CNTOVF then
    let s := s.ovfWrite a v [(0, [NOC_BOUNCES])]
    let s := if tb v 1 then { s with noc := { s.noc with pflits := [] } } else s
    if tb v 2 then { s with noc := { s.noc with pwait := [] } } else s
  else s.genWrite a v

/-- CACHE (R245): the counters and their flags are those of the selected slice. -/
def State.wCache (s : State) (i : Iface) (a : Nat) (v : Word) : State :=
  let sl := s.ssel i
  if a = CACHE_SSEL then s.selWrite i a v
  else if a = CACHE_LOCK then s.lockWrite sl v
  else if a = CACHE_MOP then (if tb v 31 then s.mopStart (fld v 2 0) v else s.genWrite a v)
  else if a = CACHE_CNTOVF then
    let c := s.cache
    { s with cache := { c with
      ovf := smSet 0 c.ovf sl (smGet 0 c.ovf sl &&& ~~~(BitVec.ofNat 3 v.toNat))
      hits := if tb v 0 then smDel c.hits sl else c.hits
      misses := if tb v 1 then smDel c.misses sl else c.misses
      wbacks := if tb v 2 then smDel c.wbacks sl else c.wbacks } }
  else s.genWrite a v

def State.wSpad (s : State) (a : Nat) (v : Word) : State :=
  if SPAD_BANK 0 ≤ a ∧ a < SPAD_BANK 128 then s.spadBank ((a - SPAD_BANK 0) / 4) v
  else if a = SPAD_CNTOVF then s.ovfWrite a v [(0, [SPAD_VCOUNT])]
  else s.genWrite a v

def State.wGarnet (s : State) (i : Iface) (a : Nat) (v : Word) : State :=
  if a = GARNET_FENCE then s.fenceAsk i
  else if a = GARNET_WLCFG then
    (if fld v 3 0 < 4 ∨ fld v 3 0 > 10 then s.setBits GARNET_STATUS 32 else s.genWrite a v)
  else if a = GARNET_CNTOVF then s.ovfWrite a v [(0, [GARNET_WRITES_LO, GARNET_WRITES_HI])]
  else s.genWrite a v

def State.wEcc (s : State) (i : Iface) (a : Nat) (v : Word) : State :=
  if a = ECC_SCTRL then s.scrubCtl v
  else if a = ECC_MBFLUSH then s.flushWhere (fun _ => true)
  else if a = ECC_RTSEL then s.selWrite i a v
  else if a = ECC_RTENT then s.retireWrite (s.rtsel i) v
  else if a = ECC_CNTOVF then
    let s := s.ovfWrite a v [(0, [ECC_SWORDS_LO, ECC_SWORDS_HI]), (1, [ECC_SCORR]), (2, [ECC_SUNC]), (3, [ECC_CECNT]), (4, [ECC_UECNT])]
    let s := if tb v 1 then s.putField ECC_SWCNT 15 0 0 else s
    if tb v 2 then s.putField ECC_SWCNT 31 16 0 else s
  else s.genWrite a v

def State.wMarch (s : State) (i : Iface) (a : Nat) (v : Word) : State :=
  if a = MARCH_CTRL then s.marchCtl v
  else if a = MARCH_RSEL then s.selWrite i a v
  else if a = MARCH_STATUS then s.ovfWrite a v [(4, [MARCH_FAILS])]
  else s.genWrite a v

def State.wDdr (s : State) (i : Iface) (a : Nat) (v : Word) : State :=
  if a = DDR_CFG then s.ddrCfg v
  else if a = DDR_CTRL then (if tb v 0 then s.ddrTrain else s)
  else if a = DDR_RSEL ∨ a = DDR_CHSEL then s.selWrite i a v
  else if a = DDR_RENT 0 then s.rentWrite i v
  else if a = DDR_RENT 1 then s.setSel i a v
  else if a = DDR_RENT 2 then s.setSel i a (v &&& 0xFFFF#32)
  else s.genWrite a v

/-- Counters at `base + 4 b`, each cleared by bit `b` of a flag register. -/
def ovfRun (base n : Nat) : List (Nat × List Nat) := (List.range n).map (fun b => (b, [base + 4 * b]))

def State.wMce (s : State) (a : Nat) (v : Word) : State :=
  if a = MCE_KIDCMD then (if tb v 31 then s.kidRetire v else s)
  else if a = MCE_RKCMD then (if tb v 31 then s.rekeyCmd v else s)
  else if a = MCE_CNTOVF then s.ovfWrite a v (ovfRun MCE_TAGFAIL 5)
  else s.genWrite a v

/-- LANE (R472): registers other than STATUS, SEL and GRATE are those of the selected lane or link; a selection above 47 names none. -/
def State.wLane (s : State) (i : Iface) (a : Nat) (v : Word) : State :=
  let o := offsetOf a
  let l := s.lsel i
  if o = 0 then s.genWrite a v
  else if o = 4 then s.selWrite i a v
  else if 0x100 ≤ o then s.grateWrite ((o - 0x100) / 4) v
  else if l ≥ 48 then s.setBits LANE_STATUS 32
  else if a = LANE_LCFG then s.lcfgWrite l v
  else if a = LANE_PRBS then s.prbsWrite l v
  else if 0x80 ≤ o ∧ o % 8 = 0 then s.idescWrite l a v
  else if a = LANE_CNTOVF then
    (List.range 4).foldl (fun s b => if tb v b then s.lwr l (LANE_PRBSERR + 4 * b) 0 else s) (s.lwr l a (s.lrd l a &&& ~~~(v &&& 0xF#32)))
  else match regDesc a with
    | some d => s.lwr l a ((s.lrd l a &&& ~~~(BitVec.ofNat 32 d.rw)) ||| (v &&& BitVec.ofNat 32 d.rw))
    | none => s

def State.wHalo (s : State) (a : Nat) (v : Word) : State :=
  if a = HALO_TXCTL then s.haloTxCtl v
  else if a = HALO_RXST then (if tb v 30 then s.haloRxPop else s)
  else if a = HALO_BOLT then (if tb v 31 then s.ringBolt 1 else s)
  else if a = HALO_CNTOVF then s.ovfWrite a v [(0, [HALO_CRCERR])]
  else s.genWrite a v

def State.wPcie (s : State) (a : Nat) (v : Word) : State :=
  let o := offsetOf a
  if 0x1000 ≤ o ∧ o < 0x2000 ∧ (o - 0x1000) % 64 = 0 then s.dmaCtrl ((o - 0x1000) / 64) v
  else if 0x1000 ≤ o ∧ o < 0x2000 ∧ (o - 0x1000) % 64 = 0xC then s.tailWrite ((o - 0x1000) / 64) v
  else if a = PCIE_CNTOVF then s.ovfWrite a v [(0, [PCIE_ERRCNT])]
  else s.genWrite a v

/-- Present the token of HP_PUSH (R487): whether it was accepted; under GSR it waits (R384). -/
def State.hpPresent (s : State) (v : Word) : State × Bool :=
  let n := (s.rd (HP_PUSH 0)).toNat + 2 ^ 32 * (s.rd (HP_PUSH 1)).toNat + 2 ^ 64 * (s.rd (HP_PUSH 2)).toNat + 2 ^ 96 * v.toNat
  s.sinkG hpPort (tb (s.rd HP_PUSHCTL) 0) (tokenOf n)

/-- A write of HP_PUSH3 (R487): whether it is complete; from another interface than HP it is ignored with CFGERR. -/
def State.hpPush (s : State) (i : Iface) (v : Word) : State × Bool :=
  if i ≠ .hp then (s.setBits HP_STATUS 8, true) else s.hpPresent v

def State.wHp (s : State) (a : Nat) (v : Word) : State :=
  if HP_PUSH 0 ≤ a ∧ a < HP_PUSH 3 then s.wr a v
  else if a = HP_CNTOVF then s.ovfWrite a v [(0, [HP_MDISC])]
  else s.genWrite a v

def State.wGpio (s : State) (a : Nat) (v : Word) : State :=
  let o := offsetOf a
  let b := (o - 0x100) / 64
  let p := pins16 v
  if a = GPIO_HOLD then s.holdWrite v
  else if a = GPIO_CNTOVF then s.ovfWrite a v [(0, [GPIO_EVDROP])]
  else if o < 0x100 then s.genWrite a v
  else match (o - 0x100) % 64 with
    | 0x04 => s.setBits (GPIO_DATA b) p
    | 0x08 => s.clrBits (GPIO_DATA b) p
    | 0x10 => s.setBits (GPIO_FOUT b) p
    | 0x14 => s.clrBits (GPIO_FOUT b) p
    | 0x20 => s.fselWrite b v
    | 0x28 => s.evtaWrite b v
    | _ => s.genWrite a v

def State.wFlint (s : State) (n a : Nat) (v : Word) : State :=
  let o := offsetOf a
  if o = 4 then s.flintClk n v
  else if o = 0x14 then s.ovfWrite a v [(0, [flFixes n]), (1, [flCont n]), (2, [flRamce n])]
  else if 0x40 ≤ o then s.mbConfig n o v
  else s.genWrite a v

/-- BIST (R516): how the three tests of an UNFENCE asked for here end is free (log entry 39). -/
def State.wBist (s : State) (a : Nat) (v : Word) : State :=
  if a = BIST_CMD then
    match fld v 31 28 with
    | 1 => s.drawn.bistUnfence (fld v 9 0) ((List.range 3).map (fun k => s.freeVal.getLsbD k))
    | 2 => s.bistTest (fld v 9 0)
    | _ => s.bistErr
  else if a = BIST_CNTOVF then s.ovfWrite a v (ovfRun BIST_PASSES 3)
  else s.genWrite a v

def State.wCtx (s : State) (a : Nat) (v : Word) : State :=
  let o := offsetOf a
  if 0x40000 ≤ o ∧ o < 0x42000 then
    let c := (o - 0x40000) / 8
    let e := (o - 0x40000) / 4 % 2
    if tb v 31 then s.pinSet c e v else s.pinClear c e v
  else if a = CTX_CNTOVF then s.ovfWrite a v (ovfRun CTX_FILLS 3)
  else s.genWrite a v

/-- The windows (R76, R193). -/
def State.wWin (s : State) (a : Nat) (v : Word) : State :=
  let c := (a - 0x2100000000) / 0x1000
  if a = CLW_CTRL c then s.clwCtrl c v else s.genWrite a v

/-- The effect of a write of a register that is no half of a pair; an offset that no register occupies ignores it (R9). -/
def State.regWrite (s : State) (i : Iface) (a : Nat) (v : Word) : State :=
  if (regDesc a).isNone then s
  else if inWindows a then s.wWin a v
  else match blockOf a with
    | 0 => s.wSys a v
    | 1 => s.wClk a v
    | 2 => s.wPwr i a v
    | 3 => s.wTh a v
    | 4 => s.wAge a v
    | 5 => s.wCfg a v
    | 6 => s.wSec i a v
    | 7 => s.wStrata i a v
    | 8 => s.wSnap a v
    | 9 => s.wDsp i a v
    | 10 => s.wMst a v
    | 11 => s.wFlow i a v
    | 12 => s.wNoc i a v
    | 13 => s.wCache i a v
    | 14 => s.wSpad a v
    | 15 => s.wGarnet i a v
    | 16 => s.wEcc i a v
    | 17 => s.wMarch i a v
    | 18 => s.wDdr i a v
    | 19 => s.wMce a v
    | 20 => s.wLane i a v
    | 21 => s.wHalo a v
    | 22 => s.wPcie a v
    | 23 => s.wHp a v
    | 24 => s.wGpio a v
    | 25 => s.wFlint 0 a v
    | 26 => s.wFlint 1 a v
    | 27 => s.wBist a v
    | _ => s.wCtx a v

end Sys2Proof.Machine
end

