-- ==== Sys2Proof/Machine/Bus.lean ====
section
/-! DEFINITION. Accesses by an interface to a device address (R8-R16, R33-R35, R386, R396, R535, R536): who may reach what, 64-bit pairs, reads with
an effect, memory words. The rows that name one access stand here. -/

namespace Sys2Proof.Machine

/-! Pairs (R13-R16) -/

/-- Offsets of the low halves of the pairs of a block: the registers the tables name _LO and _HI and read or write under R13. TH_BROKEN_LO and TH_BROKEN_HI
are taken as two single registers (DESIGN CHOICE, log entry 111): their text gives each its own bits and says nothing of a pair. -/
def pairLows (block : Nat) : List Nat :=
  match block with
  | 0 => [0x10]
  | 1 => [0x10]
  | 6 => [0x18]
  | 7 => [0x10, 0x18, 0xC8, 0xD0]
  | 8 => [0x8, 0x10]
  | 9 => [0x20, 0x28, 0x30, 0x60]
  | 10 => [0x128]
  | 11 => [0x2C]
  | 12 => [0x28, 0x30]
  | 13 => [0x10, 0x18]
  | 14 => [0x8]
  | 15 => [0x18]
  | 16 => [0x8, 0x10, 0x18, 0x28, 0x30, 0x38, 0x50]
  | 19 => [0x28]
  | 22 => [0x10]
  | 23 => [0x8]
  | _ => []

/-- The address is a low half. -/
def isPairLow (a : Nat) : Bool :=
  if inWindows a then [0x10, 0x40, 0x48, 0x50].contains (a % 0x1000)
  else inBlocks a && ((pairLows (blockOf a)).contains (offsetOf a) ||
    (decide (blockOf a = 22) && decide (0x1000 ≤ offsetOf a) && decide (offsetOf a < 0x2000) &&
      (decide ((offsetOf a - 0x1000) % 64 = 4) || decide ((offsetOf a - 0x1000) % 64 = 0x18))))

/-- The pair an address belongs to: its low address, and whether this is the high half. -/
def regPair (a : Nat) : Option (Nat × Bool) :=
  if isPairLow a then some (a, false) else if decide (4 ≤ a) && isPairLow (a - 4) then some (a - 4, true) else none

def State.setSnapReg (s : State) (i : Iface) (lo : Nat) (hi : Word) : State :=
  { s with ifc := { s.ifc with snap := smSet (0, 0) s.ifc.snap (ifCode i) (lo + 1, hi) } }
def State.setStage (s : State) (i : Iface) (x : Nat × Word) : State :=
  { s with ifc := { s.ifc with stage := smSet (0, 0) s.ifc.stage (ifCode i) x } }

/-- Both halves of a pair take effect together (R14): the RTC, the DMA ring of a stopped channel, the authorization target, RW and W1C fields. -/
def State.pairCommit (s : State) (i : Iface) (lo : Nat) (l h : Word) : State :=
  if lo = STRATA_RTC_LO then s.rtcSet (h ++ l) true
  else if lo = SEC_TARGET_LO then (s.selWrite i lo l).selWrite i (lo + 4) h
  else if blockOf lo = 22 ∧ inBlocks lo ∧ 0x1000 ≤ offsetOf lo ∧ (offsetOf lo - 0x1000) % 64 = 4 ∧
      tb (s.rd (PCIE_DMA_CTRL ((offsetOf lo - 0x1000) / 64))) 31 then s.setBits PCIE_STATUS 8
  else (s.genWrite lo l).genWrite (lo + 4) h

/-- A write of a half of a pair: a low half is staged, a high half commits with the low half staged for its pair (R14). -/
def State.pairWrite (s : State) (i : Iface) (lo : Nat) (high : Bool) (v : Word) : State :=
  if !high then s.setStage i (lo + 1, v)
  else
    let st := smGet (0, 0) s.ifc.stage (ifCode i)
    if st.1 = lo + 1 then (s.setStage i (0, 0)).pairCommit i lo st.2 v else s

/-! Reads with an effect -/

/-- The two halves of word `w` of a cluster's memory: a word that nothing has written is zero, contents lost with power are free (R77, R418, log
entry 4). -/
def State.mdataWord (s : State) (c w : Nat) : State × BitVec 64 :=
  let x := s.cluster c
  if x.memLost then (s.drawn, s.freeVal)
  else (s, if smGet false x.written w then BitVec.ofNat 64 (bytesNat (smGetList 0 x.mem (8 * w) 8)) else 0)

/-- A read of CLW_MDATA (R76, R77, R257): the low half reads the word; an unusable one is counted and captured, gives an error and changes nothing else; the
high half comes from the snapshot, and INC steps the word index. -/
def State.mdataRead (s : State) (i : Iface) (c : Nat) (high : Bool) : State × AnsKind × Word :=
  let m := s.rd (CLW_MADDR c)
  let w := fld m 10 0
  if !high then
    let a : Word := BitVec.ofNat 32 (8 * w)
    let k := (s.cluster c).markAt a
    if k.bad then (s.noteBad (unitCmem c) w (decide (k = .poison)) 0, .error, 0)
    else
      let d := (s.cmFix c a).mdataWord c w
      (d.1.setSnapReg i (CLW_MDATA_LO c) (BitVec.ofNat 32 (d.2.toNat / 2 ^ 32)), .ok, BitVec.ofNat 32 d.2.toNat)
  else
    let sn := smGet (0, 0) s.ifc.snap (ifCode i)
    let d := if sn.1 = CLW_MDATA_LO c + 1 then (s, sn.2) else
      let d := s.mdataWord c w
      (d.1, BitVec.ofNat 32 (d.2.toNat / 2 ^ 32))
    let t := if tb m 31 then d.1.wr (CLW_MADDR c) (BitVec.ofNat 32 (2 ^ 31 + (w + 1) % 2048)) else d.1
    (t, .ok, d.2)

/-- A read of a register: the state after it, the answer, the word (R9, R10, R13, R180, R181, R293). An offset that no register occupies reads zero and is
answered ok (`State.regValue`, R9). -/
def State.regRead (s : State) (i : Iface) (a : Nat) : State × AnsKind × Word :=
  if inWindows a ∧ a % 0x1000 = 0x10 then s.mdataRead i ((a - 0x2100000000) / 0x1000) false
  else if inWindows a ∧ a % 0x1000 = 0x14 then s.mdataRead i ((a - 0x2100000000) / 0x1000) true
  else if a = FLOW_POP 0 then let o := s.flowPop i; (o.1, .ok, o.2)
  else if a = FLOW_WMQ then let o := s.flowWmq; (o.1, .ok, o.2)
  else if a = MCE_KIDALLOC then let o := s.allocKid; (o.1, .ok, BitVec.ofNat 32 o.2)
  else
    let s' := if a = SEC_SESS ∧ s.sec.sess.st ≠ .idle ∨ a = CFG_LDPROG ∧ s.imageMoves then s.drawn else s
    match regPair a with
    | some (lo, false) => (s'.setSnapReg i lo (s.regValue i (lo + 4)), .ok, s.regValue i a)
    | some (lo, true) =>
      let sn := smGet (0, 0) s.ifc.snap (ifCode i)
      (s', .ok, if sn.1 = lo + 1 then sn.2 else s.regValue i a)
    | none => (s', .ok, s.regValue i a)

/-! Who reaches what -/

/-- A block held on Mica and Slate (R535). -/
def onMica (a : Nat) : Bool := inBlocks a && decide (blockPort (blockOf a) = ⟨2, 0, 5⟩)

/-- An address that answers before step 12: SYS identification, CFG, STRATA (R386). -/
def answersEarly (a : Nat) : Bool :=
  inBlocks a && ((decide (blockOf a = 0) && decide (offsetOf a < 0x18)) || decide (blockOf a = 5) || decide (blockOf a = 7))

/-- Why an access is not made at all, or is answered without reaching its register or memory (R17, R33, R214, R386, R488, R528, R531). -/
def State.accessGate (s : State) (i : Iface) (a : Nat) : Option AnsKind :=
  let host := decide (i = .pcie) || decide (i = .hp) || decide (i = .smb)
  let fab := !host && decide (i ≠ .supv)
  if s.pins.por || s.pins.sysRst then some .none
  else if fab && s.gsr then some .none
  else if host && s.pins.ioRst then some .none
  else if i = .supv && !s.flt.supvUp then some .none
  else if !inBlocks a && !inWindows a && !isMem a then some .error
  else if i = .smb && isMem a then some .error
  else if host && s.gsr && !answersEarly a then some .error
  else if fab && s.pins.ioRst && inBlocks a && !onMica a then some .halted
  else none

/-- The access stays at the supervisor's own node (R535). -/
def localAccess (i : Iface) (a : Nat) : Bool := decide (i = .supv) && inBlocks a && !onMica a

/-- The state of the port the access goes through (R209). -/
def State.accessPort (s : State) (i : Iface) (a : Nat) : PortSt := if localAccess i a then .ready else s.portSt (addrPort a)

/-- The port a REG packet of the access leaves from; those of a cluster have crossed as packets of their own. -/
def accessSrc (i : Iface) (a : Nat) : Option PortId := if localAccess i a then none else ifacePort i

/-- The access is held: the network does not carry its REG packet or the answer (R24, R212), or its port is WAKING (R209). -/
def State.regHeld (s : State) (i : Iface) (a : Nat) : Bool :=
  (accessSrc i a).any (fun q => !s.crossing q (addrPort a)) || decide (s.accessPort i a = .waking)

/-- The REG packet and its REG_RSP are counted where they are delivered (R200, R215). -/
def State.regFlits (s : State) (i : Iface) (a : Nat) (k : AnsKind) : State :=
  match accessSrc i a with
  | some q => if k = .waits then s else s.exchanged q (addrPort a) 1 1
  | none => s

/-- The window of a cluster that is asleep or fenced, or whose port answers for it: reads zero, ignores writes (R35, R209). -/
def State.windowDark (s : State) (i : Iface) (a : Nat) : Bool :=
  let c := (a - 0x2100000000) / 0x1000
  (inWindows a && (decide (s.dom c = .stratus) || decide (s.dom c = .nimbus) || s.fenced c)) ||
  decide (s.accessPort i a = .drained) || decide (s.accessPort i a = .off)

/-- A block that IO_RESET_N holds (R530): its registers stand at their reset values and writes change nothing (log entry 34). -/
def State.ioBlock (s : State) (a : Nat) : Bool := s.pins.ioRst && inBlocks a && decide (20 ≤ blockOf a) && decide (blockOf a ≤ 24)

/-- The scratchpad master of an interface (R227). -/
def masterOf : Iface → Master
  | .pcie => .pcie
  | .hp => .hp
  | .smb => .agent
  | .supv => .agent
  | .fabric c => .cluster c

/-- A 32-bit write of a register (R8-R12, R14): complete at once but for a Garnet fence and a refused token of HP (R239, R485). -/
def State.regStore (s : State) (i : Iface) (a : Nat) (v : Word) : State × AnsKind :=
  if s.ioBlock a then (s, .ok)
  else if inBlocks a ∧ blockOf a = 6 ∧ !secWriter i then (s, .error)
  else if a = HP_PUSH 3 then let o := s.hpPush i v; (o.1, if o.2 then .ok else .waits)
  else if a = GARNET_FENCE then (s.fenceAsk i, .waits)
  else match regPair a with
    | some (lo, high) => (s.pairWrite i lo high v, .ok)
    | none => (s.regWrite i a v, .ok)

/-- A register is read where the access arrives: a dark window reads zero, and its low halves replace the snapshot like any other (R13, R35). -/
def State.regArrive (s : State) (i : Iface) (a : Nat) : State × AnsKind × Word :=
  if s.windowDark i a then (if isPairLow a then s.setSnapReg i a 0 else s, .ok, 0) else s.regRead i a

/-- A 32-bit read of a device address. A misaligned one of a register is an error before its target is looked at, the window of a sleeping or fenced
cluster included (R8 over R35: DESIGN CHOICE, log entry 110). -/
def State.busRead (s : State) (i : Iface) (a : Nat) : State × AnsKind × Word :=
  match s.accessGate i a with
  | some k => (s, k, 0)
  | none =>
    if isMem a then
      let x := s.memXferFrom (ifacePort i) ⟨masterOf i, a, 4, false, []⟩
      (x.1, x.2.1, bytesWord x.2.2)
    else if a % 4 ≠ 0 then (s, .error, 0)
    else if s.regHeld i a then (s, .waits, 0)
    else
      let o := s.regArrive i a
      (o.1.regFlits i a o.2.1, o.2)

/-- A 32-bit write of a device address. -/
def State.busWrite (s : State) (i : Iface) (a : Nat) (v : Word) : State × AnsKind :=
  match s.accessGate i a with
  | some k => (s, k)
  | none =>
    if isMem a then
      let x := s.memXferFrom (ifacePort i) ⟨masterOf i, a, 4, true, (wordBytes v).map some⟩
      (x.1, x.2.1)
    else if a % 4 ≠ 0 then (s, .error)
    else if s.regHeld i a then (s, .waits)
    else
      let o := if s.windowDark i a then (s, .ok) else s.regStore i a v
      (o.1.regFlits i a o.2, o.2)

/-- An access and its answer to the interface. -/
def State.access (s : State) (i : Iface) (a : Nat) (write : Bool) (v : Word) : State :=
  if write then
    let o := s.busWrite i a v
    o.1.answer i o.2 []
  else
    let o := s.busRead i a
    o.1.answer i o.2.1 (if o.2.1 = .ok ∨ o.2.1 = .poisoned then wordBytes o.2.2 else [])

/-! The rows of one access -/

/-- REGISTER_WRITE (R10). -/
def execRegisterWrite (i : Iface) (addr : Nat) (v : Word) (s : State) : Res' := .next (s.access i addr true v)
/-- PAIR_LOW_READ (R13). -/
def execPairLowRead (i : Iface) (addr : Nat) (s : State) : Res' := .next (s.access i addr false 0)
/-- PAIR_LOW_WRITE (R14). -/
def execPairLowWrite (i : Iface) (addr : Nat) (v : Word) (s : State) : Res' := .next (s.access i addr true v)
/-- PAIR_HIGH_WRITE (R14). -/
def execPairHighWrite (i : Iface) (addr : Nat) (v : Word) (s : State) : Res' := .next (s.access i addr true v)
/-- REG_ACCESS (R535, R536). -/
def execRegAccess (i : Iface) (addr : Nat) (write : Bool) (v : Word) (s : State) : Res' := .next (s.access i addr write v)
/-- STRATA_RTC_WRITE (R499): the high half of the RTC pair. -/
def execStrataRtcWrite (i : Iface) (hi : Word) (s : State) : Res' := .next (s.access i STRATA_RTC_HI true hi)
/-- HP_PUSH (R487). -/
def execHpPush (i : Iface) (v : Word) (s : State) : Res' := .next (s.access i (HP_PUSH 3) true v)
/-- GARNET_FENCE (R239): answered when the fence completes. -/
def execGarnetFence (i : Iface) (s : State) : Res' := .next (s.access i GARNET_FENCE true 0)
/-- CLW_MDATA_READ (R77). -/
def execClwMdataRead (i : Iface) (c : Nat) (s : State) : Res' :=
  if decide (c < 1024) then .next (s.access i (CLW_MDATA_LO c) false 0) else .fault .noSuchUnit
/-- MDATA_TIMEOUT (R77). -/
def execMdataTimeout (i : Iface) (c : Nat) (s : State) : Res' := if decide (c < 1024) then .next (s.answer i .error []) else .fault .noSuchUnit

end Sys2Proof.Machine
end

