-- ==== Sys2Proof/Machine/DmaRun.lean ====
section
/-! DEFINITION. The DMA channels at work (R480-R482): COPY, TOKIN, TOKOUT, and the completions of the host. -/

namespace Sys2Proof.Machine

/-- The engine reads the device: memory, or a register by an aligned 32-bit access of the PCIe interface; another access of a register is an error (R8, R34,
R35; DESIGN CHOICE, log entry 112). -/
def State.dmaRead (s : State) (c a n : Nat) : Served :=
  if inBlocks a || inWindows a then
    (if n = 4 then
       let o := s.busRead .pcie a
       (o.1, o.2.1, wordBytes o.2.2)
     else (s, .error, []))
  else s.memXferFrom (some pciePort) ⟨.dma c, a, n, false, []⟩

/-- The engine writes the device in the same way. -/
def State.dmaWrite (s : State) (c a : Nat) (bs : List Byte) : Served :=
  if inBlocks a || inWindows a then
    (if bs.length = 4 then
       let o := s.busWrite .pcie a (bytesWord bs)
       (o.1, o.2, [])
     else (s, .error, []))
  else s.memXferFrom (some pciePort) ⟨.dma c, a, bs.length, true, bs.map some⟩

/-- Write data of the descriptor at its destination: false where the channel stops or must wait. -/
def State.dmaPut (s : State) (c d : Nat) (bs : List Byte) : State × Bool :=
  let a := dDst d + (s.dma c).cnt
  if dDhost d then ((s.hostWr a bs).dmaCount c bs.length, true)
  else match s.dmaWrite c a bs with
    | (s, .ok, _) => (s.dmaCount c bs.length, true)
    | (s, .error, _) => (s.dmaHalt c 3 a, false)
    | (s, .poisoned, _) => (s.dmaHalt c 3 a, false)
    | (s, _, _) => (s.setDma c { s.dma c with want := .none }, false)

/-- Read up to 256 bytes of the source: data, or none where the channel stops, must wait or asks the host. -/
def State.dmaGet (s : State) (c d : Nat) : State × Option (List Byte) :=
  let x := s.dma c
  let a := dSrc d + x.cnt
  let n := Nat.min 256 (dLen d - x.cnt)
  if dShost d then (if x.want = .none then s.hostRd c a n (.data n) else s, none)
  else match s.dmaRead c a n with
    | (s, .ok, bs) => (s, some bs)
    | (s, .error, _) => (s.dmaHalt c 2 a, none)
    | (s, .poisoned, _) => (s.dmaHalt c 4 a, none)
    | (s, _, _) => (s, none)

/-- COPY, piece by piece. -/
def State.copyGo (s : State) (c d : Nat) : Nat → State
  | 0 => s
  | f + 1 =>
    if (s.dma c).cnt ≥ dLen d then s.dmaOver c
    else match s.dmaGet c d with
      | (s, none) => s
      | (s, some bs) =>
        let x := s.dmaPut c d bs
        if x.2 then x.1.copyGo c d f else x.1

/-- Present the tokens read, in order; a refused one makes the channel PAUSED (R481). -/
def State.tokinPut (s : State) (c : Nat) (queue : Bool) : List Token → State
  | [] => (s.setDma c { s.dma c with left := [] }).setDmaSt c 1
  | t :: ts =>
    let x := s.sinkG pciePort queue t
    if x.2 then (x.1.dmaCount c 16).tokinPut c queue ts
    else (x.1.setDma c { x.1.dma c with left := t :: ts }).setDmaSt c 2

/-- The 16-byte tokens of a piece of memory (R480). -/
def tokensOf (bs : List Byte) : List Token := (List.range (bs.length / 16)).map (fun i => tokenOf (bytesNat ((bs.drop (16 * i)).take 16)))

/-- TOKIN, piece by piece. -/
def State.tokinGo (s : State) (c d : Nat) : Nat → State
  | 0 => s
  | f + 1 =>
    let s := if (s.dma c).left = [] then s else s.tokinPut c (dQueue d) (s.dma c).left
    if (s.dma c).left ≠ [] then s
    else if (s.dma c).cnt ≥ dLen d then s.dmaOver c
    else match s.dmaGet c d with
      | (s, none) => s
      | (s, some bs) => (s.tokinPut c (dQueue d) (tokensOf bs)).tokinGo c d f

/-- TOKOUT, token by token, from a queue with CONS = 0b10. -/
def State.tokoutGo (s : State) (c d : Nat) : Nat → State
  | 0 => s
  | f + 1 =>
    let q := fld (s.rd (PCIE_DMA_QUEUE c)) 17 0
    if (s.dma c).cnt ≥ dLen d then s.dmaOver c
    else if (s.qrec q).cons ≠ 2 ∨ !s.oneWay (queuePort q) pciePort then s
    else match s.qPeek q ((s.qrec q).depth + 1) with
      | (s, none) => if (s.dma c).cnt > 0 ∧ (s.qrec q).depth = 0 then s.dmaOver c else s
      | (s, some t) =>
        let x := s.dmaPut c d (natBytes 16 (tokenNat t))
        if x.2 then ((x.1.qDrop q).countFlits pciePort 1).tokoutGo c d f else x.1

/-- A row of a channel: its descriptor is fetched where that still waits, then the work of the operation is done. -/
def dmaRow (op : Nat) (work : State → Nat → Nat → Nat → State) (c : Nat) (s : State) : Res' :=
  if !decide (c < 64) then .fault .noSuchUnit
  else
    let s := if s.pcieOn && decide (s.dmaSt c = 1) && tb (s.rd (PCIE_DMA_CTRL c)) 31 then s.dmaFetch c else s
    .next (match s.dmaRuns c op with
      | some d => work s c d (dLen d / 16 + 2)
      | none => s)

/-- COPY (R480). -/
def execDmaCopy (ch : Nat) (s : State) : Res' := dmaRow 1 (fun s c d n => s.copyGo c d n) ch s
/-- TOKIN (R480, R481). -/
def execDmaTokin (ch : Nat) (s : State) : Res' := dmaRow 2 (fun s c d n => s.tokinGo c d n) ch s
/-- TOKOUT (R480). -/
def execDmaTokout (ch : Nat) (s : State) : Res' := dmaRow 3 (fun s c d n => if s.gsr then s else s.tokoutGo c d n) ch s

/-- Data of the host arrive. -/
def State.hostData (s : State) (c : Nat) (bs : List Byte) : State :=
  match (s.dma c).want, (s.dma c).desc with
  | .desc, _ => s.dmaTake c (bytesNat (bs.take 32))
  | .data n, some d =>
    let s := s.setDma c { s.dma c with want := .none }
    if dOp d = 1 then
      let x := s.dmaPut c d (bs.take n)
      if x.2 then x.1.copyGo c d 2 else x.1
    else if dOp d = 2 then (s.tokinPut c (dQueue d) (tokensOf (bs.take n))).tokinGo c d 2
    else s
  | _, _ => s

/-- HOST_COMPLETION (R482). -/
def execHostCompletion (ch : Nat) (st : HostStatus) (data : List Byte) (s : State) : Res' :=
  if !decide (ch < 64) then .fault .noSuchUnit
  else if !s.pcieOn ∨ !(s.dmaSt ch = 1 ∨ s.dmaSt ch = 2) then .next s
  else .next (match st with
    | .ok => s.hostData ch data
    | .ep => s.hostFail ch 4
    | _ => s.hostFail ch 2)

end Sys2Proof.Machine
end

