-- ==== Sys2Proof/Machine/Start.lean ====
section
/-! DEFINITION. The start sequence (R372-R386): slot choice, image, presets, memory contents, Flint tiles, Garnet contents, release of GSR; and the
end of a context restore (R118, R119). -/

namespace Sys2Proof.Machine

/-! Steps -/

/-- The next step of R382 begins. -/
def State.toStep (s : State) (n : Nat) : State := { s with cfg := { s.cfg with step := n } }

/-- A step fails (R383). -/
def State.startFail (s : State) (e : ImgErr) : State :=
  let t := s.cfgErrWord e
  { t with cfg := { t.cfg with st := .failed } }

/-- Put one bit of CFG_START. -/
def State.startBit (s : State) (i : Nat) (on : Bool) : State :=
  if on then s.setBits CFG_START (bitMask i) else s.clrBits CFG_START (bitMask i)

/-! Slot choice (R379) -/

/-- The area the boot directory prefers; area 0 where there is none. -/
def State.prefArea (s : State) (f : Flash) : Nat := ((bootDir s.cfg.bfcfg f).map (fun d => d.pref)).getD 0

/-- The header of an area that passes header authentication and whose digest no REJECTED slot holds. -/
def State.authHdr (s : State) (f : Flash) (n : Nat) : Option ImgHdr :=
  match s.authArea f n with
  | .inl _ => none
  | .inr h => if [s.cfg.slotA, s.cfg.slotB].any (fun m => decide (m.st = .rejected) && decide (m.digest = h.digest)) then none else some h

/-- The headers that may be chosen, the preferred area first. -/
def State.authList (s : State) (f : Flash) : List ImgHdr :=
  let p := s.prefArea f
  [p, 1 - p].filterMap (s.authHdr f)

/-- The header of a list that carries the digest of a slot's image. -/
def State.carrier (s : State) (auth : List ImgHdr) (b : Bool) : Option ImgHdr :=
  if (s.slotMeta b).st = .valid then auth.find? (fun h => decide (h.digest = (s.slotMeta b).digest)) else none

/-- The fourth start in a row without confirmation asks for a rollback. -/
def State.autoRollback (s : State) (auth : List ImgHdr) : State :=
  if 3 < s.cfg.failcnt.toNat ∧ (s.carrier auth s.otherSlot).isSome then
    { s with cfg := { s.cfg with pend := some (s.otherSlot, true), failcnt := 1 } }
  else s

/-- The ACTIVE slot is marked REJECTED. -/
def State.rejectActive (s : State) : State :=
  match s.actSlot with
  | some a => s.setSlot a { s.slotMeta a with st := .rejected }
  | none => s

/-- A pending activation is taken or dropped: the state and the image it gives, if any. -/
def State.takePending (s : State) (auth : List ImgHdr) : State × Option ImgHdr :=
  match s.cfg.pend with
  | none => (s, none)
  | some (b, rej) =>
    let s := { s with cfg := { s.cfg with pend := none } }
    match s.carrier auth b with
    | some h =>
      let s := if rej then s.rejectActive.startBit 3 true else s
      (s.activateSlot b, some h)
    | none => (s.startBit 9 true, none)

/-- A slot that is not ACTIVE holds the image: it becomes ACTIVE. -/
def State.matchSlot (s : State) (h : ImgHdr) : State :=
  let o := s.otherSlot
  if s.actSlot.any (fun a => decide ((s.slotMeta a).digest = h.digest)) then s
  else if (s.slotMeta o).st = .valid ∧ (s.slotMeta o).digest = h.digest then s.activateSlot o
  else s

/-- The ACTIVE slot holds the image. -/
def State.slotHolds (s : State) (h : ImgHdr) : Bool := s.actSlot.any (fun a => decide ((s.slotMeta a).digest = h.digest))

/-- A failed resume goes on as a cold start within the same start (R378, R379). -/
def State.resumeFail (s : State) : State :=
  let s := s.wr CFG_START ((s.rd CFG_START &&& 0x208#32) ||| 4#32)
  { s with cfg := { s.cfg with kind := .cold, step := 1, img := none } }

/-- Step 5. -/
def State.startChoose (s : State) (f : Flash) : State :=
  let auth := s.authList f
  match auth with
  | [] => s.startFail (match s.authArea f (s.prefArea f) with
      | .inl e => e
      | .inr _ => imgErr 0 (s.prefArea f))
  | h0 :: _ =>
    let out := (s.autoRollback auth).takePending auth
    let h := out.2.getD h0
    let s := (out.1.startBit 7 (decide (h.area = 1))).matchSlot h
    let s := { s with cfg := { s.cfg with img := some h } }
    if s.cfg.kind = .resume ∧ !s.slotHolds h then s.resumeFail else s.toStep 6

/-! Step 6 (R515): which clusters fail is free (log entry 39) -/

def State.fullBist (s : State) : State :=
  (List.range 1024).foldl (fun s c =>
    if s.fenced c then s
    else
      let pass := s.freeVal.getLsbD 0
      let t := s.drawn.bistJudge c pass
      if pass then t else t.fenceCluster c 1) s

/-! Step 7 -/

/-- The image is loaded into a slot, which becomes ACTIVE (R379). -/
def State.startLoad (s : State) (f : Flash) (h : ImgHdr) (bad : Nat) : State :=
  let b := s.otherSlot
  match s.loadInto f b h bad with
  | .inl (e, t) => t.startFail e
  | .inr t => ((t.activateSlot b).startBit 4 true).toStep 8

/-- A run agrees with the stored planes of a slot. -/
def State.runStored (s : State) (slot : Nat) (r : CtxRun) : Bool :=
  (List.range (r.words.length / 512)).all (fun i =>
    let w := smGet [] s.res.store (storeKey slot r.ctx i)
    (List.range 512).all (fun n => decide (runWord r i n = smGet 0 w n)))

/-- The words of a context as its slot stores them, in run order. -/
def State.storedWords (s : State) (slot ctx : Nat) (d : DirEnt) : List Word :=
  (List.range (shapeSize d.shape * d.planes)).flatMap (fun i => smGetList 0 (smGet [] s.res.store (storeKey slot ctx i)) 0 512)

/-- Rows of a context that BCH cannot correct, as keys. -/
def State.badRows (s : State) (slot ctx : Nat) : List Nat :=
  ((List.range 512).map (fun r => 2 ^ 21 * slot + 512 * ctx + r)).filter (fun k => (smGet Mark.clean s.res.rowMark k).bad)

/-- The resume check of a context (R380): a context with an uncorrectable row is left for its restore. -/
def State.sweepOk (s : State) (ctx : Nat) : Bool :=
  let d := s.dirEnt ctx
  !d.valid || !(s.badRows s.slot ctx).isEmpty || decide (wordsCrc (s.storedWords s.slot ctx d) = d.w1)

/-- The sweep of a resume reads every row of the VALID contexts: a row BCH corrects is set right, one it cannot is poison-flagged (R263, R380). -/
def State.sweepRows (s : State) : State :=
  let mine := s.res.rowMark.filter (fun e => decide (e.1 / 2 ^ 21 = s.slot) && (s.dirEnt (e.1 % 2 ^ 21 / 512)).valid)
  mine.foldl (fun s e => s.bgSlate (unitSlate (e.1 / 2 ^ 21) (e.1 % 2 ^ 21)) (e.1 % 2 ^ 18)) s

/-- Step 7: stage, compare, or sweep. -/
def State.startImage (s : State) (f : Flash) (h : ImgHdr) (bad : Nat) : State :=
  if !s.slotHolds h then s.startLoad f h bad
  else match s.cfg.kind with
    | .cold =>
      (match s.checkImage f h with
      | .inl e => s.startFail e
      | .inr x => if x.runs.all (s.runStored s.slot) then (s.startBit 5 true).toStep 8 else s.startLoad f h bad)
    | .resume => if (List.range 4096).all s.sweepOk then s.sweepRows.toStep 8 else s.sweepRows.resumeFail
    | .warm => s.toStep 8

/-! Step 8: presets (R373) -/

/-- One record as an access of the supervisor interface: `none` for an error, `some false` while a wait is not over. -/
def State.presetDo (s : State) (p : Preset) : State × Option Bool :=
  let op := fld p.ctl 1 0
  if op = 0 then
    let o := s.busWrite .supv p.addr p.data
    (o.1, if o.2 = .ok ∨ p.addr = GARNET_FENCE then some true else if o.2 = .waits then some false else none)
  else
    let o := s.busRead .supv p.addr
    let v := o.2.2 &&& p.data
    (o.1, if o.2.1 = .ok then some (decide (v = if op = 1 then p.data else 0)) else if o.2.1 = .waits then some false else none)

/-- Apply records in order until one has to wait; true when an access received an error. -/
def State.applyPresets : Nat → State → State × Bool
  | 0, s => (s, false)
  | n + 1, s =>
    match s.cfg.presets with
    | [] => (s, false)
    | p :: ps =>
      let o := s.presetDo p
      match o.2 with
      | none => (o.1, true)
      | some false => (o.1, false)
      | some true => State.applyPresets n { o.1 with cfg := { o.1.cfg with presets := ps, pidx := o.1.cfg.pidx + 1 } }

/-- The failure of the record at hand: cause PRESET. -/
def State.presetErr (s : State) : ImgErr := ⟨14, (s.cfg.img.map (fun h => h.area)).getD 0, s.cfg.psec, s.cfg.pidx⟩

/-- Go on with the presets. -/
def State.presetRun (s : State) : State :=
  let o := s.applyPresets s.cfg.presets.length
  if o.2 then o.1.startFail o.1.presetErr else o.1

/-- The REGS section is read once step 7 is done. -/
def State.presetLoad (s : State) (f : Flash) (h : ImgHdr) : State :=
  match secsOf s.cfg.bfcfg f h 4 with
  | [] => { s with cfg := { s.cfg with presets := [], pidx := 0 } }
  | i :: _ => match s.secPlain f h i with
    | .inl e => s.startFail e
    | .inr bs => match readRegs bs with
      | .inl j => s.startFail ⟨14, h.area, i, j⟩
      | .inr ps => { s with cfg := { s.cfg with presets := ps, pidx := 0, psec := i } }

/-! Steps 9 and 11: memory contents (R374, R375) -/

/-- Write records as the device agent: the state, the first answer that is not `ok`, the record it came to. -/
def State.putRecs (s : State) : Nat → List (Nat × List Byte) → State × AnsKind × Nat
  | n, [] => (s, .ok, n)
  | n, (a, bs) :: rs =>
    let o := s.memWrite .agent a bs
    if o.2.1 = .ok then o.1.putRecs (n + 1) rs else (o.1, o.2.1, n)

/-- Step 9. A write that waits leaves the step to be done again. -/
def State.startMica (s : State) (f : Flash) (h : ImgHdr) : State :=
  match secsOf s.cfg.bfcfg f h 5 with
  | [] => s.toStep 10
  | i :: _ => match s.secPlain f h i with
    | .inl e => s.startFail e
    | .inr bs => match readMica bs with
      | .inl j => s.startFail ⟨14, h.area, i, j⟩
      | .inr rs =>
        let o := s.putRecs 0 rs
        if o.2.1 = .ok then o.1.toStep 10
        else if o.2.1 = .waits then o.1
        else o.1.startFail ⟨14, h.area, i, o.2.2⟩

/-- One Garnet row's worth of a record: rows leave the write buffer where it has no room. -/
def State.garnetPut (s : State) (a : Nat) (bs : List Byte) : State × AnsKind :=
  let o := s.memWrite .agent a bs
  if o.2.1 = .waits then
    let p := s.garnetFlush.memWrite .agent a bs
    (p.1, p.2.1)
  else (o.1, o.2.1)

/-- A record of a GARNET section, row by row. -/
def State.garnetRec (s : State) (off : Nat) (bs : List Byte) : State × AnsKind :=
  (List.range ((off + bs.length + 63) / 64 - off / 64)).foldl (fun (acc : State × AnsKind) i =>
    if acc.2 = .ok then
      let lo := Nat.max off (64 * (off / 64 + i))
      let hi := Nat.min (off + bs.length) (64 * (off / 64 + i) + 64)
      acc.1.garnetPut (0x1100000000 + lo) ((bs.drop (lo - off)).take (hi - lo))
    else acc) (s, .ok)

def State.garnetRecs (s : State) : Nat → List (Nat × List Byte) → State × AnsKind × Nat
  | n, [] => (s, .ok, n)
  | n, (a, bs) :: rs =>
    let o := s.garnetRec a bs
    if o.2 = .ok then o.1.garnetRecs (n + 1) rs else (o.1, o.2, n)

/-- The GINIT mark of the ACTIVE slot. -/
def State.ginit (s : State) : Bool := s.actSlot.any (fun b => (s.slotMeta b).ginit)

/-- The contents are in place and fenced: the mark goes (R375). -/
def State.ginitDone (s : State) : State :=
  let s := s.garnetFlush.fenceCount
  let s := match s.actSlot with
    | some b => s.setSlot b { s.slotMeta b with ginit := false }
    | none => s
  s.startBit 6 true

/-- Step 11. -/
def State.startGarnet (s : State) (f : Flash) (h : ImgHdr) : State :=
  if !s.ginit then s.toStep 12
  else match secsOf s.cfg.bfcfg f h 6 with
    | [] => s.ginitDone.toStep 12
    | i :: _ => match s.secPlain f h i with
      | .inl e => s.startFail e
      | .inr bs => match readGarnet bs with
        | .inl j => s.startFail ⟨14, h.area, i, j⟩
        | .inr rs =>
          let o := s.garnetRecs 0 rs
          if o.2.1 = .ok then o.1.ginitDone.toStep 12
          else if o.2.1 = .waits then o.1
          else o.1.startFail ⟨14, h.area, i, o.2.2⟩

/-! Step 10: Flint tiles (R337, R345, R347) -/

/-- A tile takes its section: its domain goes ON, its streams are delivered. -/
def State.flintLoad (s : State) (x : FlintSec) : State :=
  let t := s.tile x.tile
  let pins := x.pins.foldl (fun m p => smPut m p.2 p.1) ([] : SMap Nat)
  let s := s.setTile x.tile { t with mode := BitVec.ofNat 2 x.mode, hostbus := x.hostbus, pinmap := pins }
  let s := (s.wr (flClk x.tile) x.clk).setDom (domTile x.tile) .on
  let s := x.s0.foldl (fun s w => s.mzFeed (2 * x.tile) w false) s
  x.s1.foldl (fun s w => s.mzFeed (2 * x.tile + 1) w false) s

/-- The sections in order. -/
def State.flintSecs (s : State) (f : Flash) (h : ImgHdr) : List FlintSec → List Nat → State
  | _, [] => s.toStep 11
  | before, i :: is => match s.secPlain f h i with
    | .inl e => s.startFail e
    | .inr bs => match s.readFlint before bs with
      | .inl o => s.startFail ⟨13, h.area, i, o⟩
      | .inr x => (s.flintLoad x).flintSecs f h (x :: before) is

/-! Step 12 -/

/-- GSR is released, native and Flint together; held pads are let go; RUN (R346, R382, R385, R494). -/
def State.gsrRelease (s : State) (h : ImgHdr) : State :=
  let s := [0, 1, 2, 3].foldl (fun s p => if s.partOn p && (s.part p).go then s.mzRelease p else s) s
  let s := { s with gpio := { s.gpio with latch := [] } }.wr GPIO_HOLD 0
  let s := { s with cfg := { s.cfg with st := .run, crit := false } }
  s.record 0x01 0 (wordBytes (s.rd CFG_START) ++ wordBytes h.imgver)

/-! Step 3 (R264, R265) -/

/-- March C- leaves every word of the units of kinds 0-7 zero. -/
def State.marchZero (s : State) : State :=
  let part (x : MzPart) : MzPart := { x with ram := [], ramMark := [] }
  let tile (t : Tile) : Tile := { t with part0 := part t.part0, part1 := part t.part1 }
  let s := s.clusters.foldl (fun s e => s.setCluster e.1 { e.2 with mem := [], memMark := [], memLost := false }) s
  { s with
    spad := ⟨[], [], []⟩
    cache := { s.cache with arr := [], marks := [] }
    flint := ⟨tile s.flint.t0, tile s.flint.t1⟩ }

/-- The march of a start: a word found failing takes a spare or goes out of use (R266, R267). A warm start runs none. -/
def State.startMarch (s : State) (fails : List (Nat × Nat)) : State :=
  match s.cfg.kind with
  | .warm => s
  | .cold => (fails.filter (fun e => unitRemap e.1)).foldl (fun s e => s.marchFail e.1 e.2) s.marchZero
  | .resume => (fails.filter (fun e => unitRemap e.1)).foldl (fun s e => s.marchFail e.1 e.2) s

/-- The step in progress is done (R382). A halt holds the start at step 12 (R434). `fails` are the words that failed in it: of units of kinds 0-7 under a
march, of Slate sectors (kind 8) as rows were written. -/
def State.startStep (s : State) (f : Flash) (fails : List (Nat × Nat)) : State :=
  match s.cfg.step, s.cfg.img with
  | 1, _ => s.toStep 2
  | 2, _ => (if s.cfg.kind = .warm then s.measureFree else s).toStep 3
  | 3, _ => (s.startMarch fails).toStep 4
  | 4, _ =>
    let d := bootDir s.cfg.bfcfg f
    let s := { s with cfg := { s.cfg with areas := (d.map BootDir.present).getD 0 } }
    (s.startBit 8 (d.any (fun (x : BootDir) => decide (x.copy = 1)))).toStep 5
  | 5, _ => s.startChoose f
  | 6, some h => (if s.cfg.kind = .cold ∧ tb h.flags 8 then s.fullBist else s).toStep 7
  | 7, some h =>
    let t := s.startImage f h (fails.filter (fun e => decide (e.1 / 0x1000 = 8))).length
    if t.cfg.st = .starting ∧ t.cfg.step = 8 then t.presetLoad f h else t
  | 8, some _ =>
    let t := s.presetRun
    if t.cfg.st = .starting ∧ t.cfg.presets = [] then t.toStep 9 else t
  | 9, some h => s.startMica f h
  | 10, some h => s.flintSecs f h [] (secsOf s.cfg.bfcfg f h 1)
  | 11, some h => s.startGarnet f h
  | 12, some h => if s.halted then s else s.gsrRelease h
  | _, _ => s

/-- START_STEP_DONE (R382): nothing while no start runs. -/
def execStartStepDone (x : StartIn) (s : State) : Res' := .next (if s.cfg.st = .starting then s.startStep x.flash x.fails else s)

/-- A record is a wait. -/
def isWait (p : Preset) : Bool := decide (fld p.ctl 1 0 ≠ 0)

/-- PRESET_WAIT (R373): the wait at hand polls again; unsatisfied at its timeout it fails the start. -/
def execPresetWait (timedOut : Bool) (s : State) : Res' :=
  .next (if s.cfg.st = .starting ∧ s.cfg.step = 8 ∧ (s.cfg.presets.head?.any isWait) then
      let t := s.presetRun
      if timedOut ∧ t.cfg.st = .starting ∧ t.cfg.pidx = s.cfg.pidx then t.startFail t.presetErr else t
    else s)

/-! Restores (R118, R119, R372) -/

/-- The text of a section, at its position in the keystream, unchecked. -/
def State.secText (s : State) (f : Flash) (h : ImgHdr) (i : Nat) : Option (List Byte) :=
  let e := secEnt s.cfg.bfcfg f h i
  let st := flashRead s.cfg.bfcfg f (h.base + e.off) e.len
  if !tb h.flags 0 then some st
  else (s.imageKey h).map (fun k =>
    let ct := st.take (e.len - 16)
    let pt := Config.imageDecrypt k (secIv h i) ct
    (List.range ct.length).map (fun j => pt.getD j 0))

/-- The area of the flash whose header carries the active slot's digest. -/
def State.activeImage (s : State) (f : Flash) : Option ImgHdr :=
  [0, 1].findSome? (fun n => match s.authArea f n with
    | .inl _ => none
    | .inr h => if s.actSlot.any (fun b => decide ((s.slotMeta b).digest = h.digest)) then some h else none)

/-- The frames of a context as the image holds them, found through the run index. -/
def State.imageRun (s : State) (f : Flash) (h : ImgHdr) (ctx : Nat) : Option CtxRun :=
  match (secsOf s.cfg.bfcfg f h 2).head?.bind (s.secText f h), (secsOf s.cfg.bfcfg f h 3).head?.bind (s.secText f h) with
  | some dir, some fr =>
    let off := (bytesWord ((dir.drop (0x8000 + 4 * ctx)).take 4)).toNat
    let n := runLen (s.dirEnt ctx)
    let ws := bytesWords ((fr.drop (off + 20)).take (4 * n))
    if ws.length = n ∧ wordsCrc ws = (s.dirEnt ctx).w1 then some ⟨ctx, off, ws⟩ else none
  | _, _ => none

/-- Why a restore cannot take place, or the run it takes (R119). -/
def State.restoreRun (s : State) (f : Flash) (ctx : Nat) : Sum Nat CtxRun :=
  if !f.readable then .inl 1
  else match s.activeImage f with
    | none => .inl 2
    | some h => match s.imageRun f h ctx with
      | none => .inl 3
      | some r => .inr r

/-- The failing rows take spare rows, lowest first, while spares last (R118). -/
def State.restoreRows (s : State) (r : CtxRun) : State :=
  let rows := (s.badRows s.slot r.ctx).take s.res.spare.toNat
  { s with res := { s.res with
      store := putRun s.res.store s.slot r
      rowMark := s.res.rowMark.filter (fun e => decide (e.1 / 512 ≠ 4096 * s.slot + r.ctx) || (e.2.bad && !rows.contains e.1))
      spare := s.res.spare - BitVec.ofNat 20 rows.length } }

/-- The restore of a context ends. -/
def State.restoreEnd (s : State) (f : Flash) (ctx : Nat) : State :=
  match s.restoreRun f ctx with
  | .inl cause => s.makeUnavailable ctx cause
  | .inr r =>
    let t := s.restoreRows r
    if (t.badRows t.slot ctx).isEmpty then
      { t with res := { t.res with
          ctxSt := smDel t.res.ctxSt (4096 * t.slot + ctx)
          restoreQ := t.res.restoreQ.filter (fun x => decide (x ≠ ctx)) } }
    else t.makeUnavailable ctx 4

/-- CONTEXT_RESTORE_END (R118, R119): contexts are restored one at a time in the order found; nothing while the supervisor does not run or Slate
cannot be written. -/
def execContextRestoreEnd (ctx : Nat) (f : Flash) (s : State) : Res' :=
  if !decide (ctx < 4096) then .fault .noSuchUnit
  else .next (if s.res.restoreQ.head? = some ctx ∧ s.ctxSt ctx = .restoring ∧ s.flt.supvUp ∧ !s.pins.vppLost then s.restoreEnd f ctx else s)

end Sys2Proof.Machine
end

