-- ==== Sys2Proof/Machine/Drain.lean ====
section
/-! DEFINITION. Commit points, the drain of commit-buffer entries, the inputs of the matching store and the queue engine, fences, and the responses of
remote loads (R60, R139, R143-R150, R179, R184, R239, R240, R486). -/

namespace Sys2Proof.Machine

/-! Entries -/

/-- The packet answers the store that packet `n` of cluster `c` carried. -/
def PktWhat.ackTo (c n : Nat) : PktWhat → Option RspStatus
  | .ack d m st => if d = c ∧ m = n then some st else none
  | _ => none

/-- An entry is freed; its packets are over. -/
def State.entryGone (s : State) (c : Nat) (e : CbEntry) : State :=
  let s := s.setCluster c { s.cluster c with cb := swapFirst e [] (s.cluster c).cb }
  match e.pid with
  | none => s
  | some n =>
    let mine (p : Pkt) : Bool := decide (p.pid = n) || (p.what.ackTo c n).isSome
    ({ s with noc := { s.noc with pkts := s.noc.pkts.filter (fun p => !mine p), kept := s.noc.kept.filter (fun k => !mine k.p) } }).settle

/-- What becomes possible once an entry of an instance has gone: further entries leave, the drain ends, a cluster reset goes on. -/
def State.progress (s : State) (iid : Nat) : State := ((s.sendEntries iid).drainCheck iid).crstCheck

/-- The address of a store. -/
def CbEntry.addr (e : CbEntry) : Nat :=
  match e.what with
  | .store a _ => a
  | .token _ _ => 0

/-- The instance has passed its commit point. -/
def State.committed (s : State) (iid : Nat) : Bool := (s.inst iid).any (fun x => decide (x.st = .draining) && !x.dabort)

/-- An entry whose packet was lost to IO_RESET_N waits in its commit buffer again (R531). -/
def State.entryBack (s : State) (c : Nat) (e : CbEntry) : State :=
  match e.pid with
  | none => s
  | some n =>
    let t := (s.setCluster c { s.cluster c with cb := swapFirst e [{ e with pid := none }] (s.cluster c).cb }).dropPkt n
    ({ t with noc := { t.noc with pkts := t.noc.pkts.filter (fun p => (p.what.ackTo c n).isNone) } }).settle

/-- A store is answered (R148, R150, R531): acknowledged; by an error, which is reported; halted by IO_RESET_N, when a committed store waits in its buffer
and another is lost. An acknowledgement whose payload was unusable still is one. -/
def State.storeDone (s : State) (c : Nat) (e : CbEntry) (st : RspStatus) : State :=
  match st with
  | .error => ((s.entryGone c e).storeErr e.iid (BitVec.ofNat 48 e.addr)).progress e.iid
  | .halted =>
    if s.committed e.iid then s.entryBack c e
    else ((s.entryGone c e).storeErr e.iid (BitVec.ofNat 48 e.addr)).progress e.iid
  | _ => (s.entryGone c e).progress e.iid

/-- The packet of an entry is still on its way. -/
def State.travelling (s : State) (e : CbEntry) : Bool :=
  match e.pid with
  | some n => s.noc.pkts.any (fun p => decide (p.pid = n)) || s.noc.kept.any (fun k => decide (k.p.pid = n))
  | none => false

/-- A store takes effect at its target: the status of the answer, none while there is none. A fence is requested once (R240). -/
def State.storeServe (s : State) (c : Nat) (e : CbEntry) : State × Option RspStatus :=
  match e.what with
  | .token _ _ => (s, none)
  | .store a v =>
    if e.isFence ∧ !s.travelling e then (s, none)
    else
      let o := s.busWrite (.fabric c) a v
      if e.isFence ∧ o.2 = .waits then (o.1.dropPkt (e.pid.getD 0), none)
      else (o.1, match o.2 with
        | .ok => some .normal
        | .poisoned => some .poisoned
        | .none => none
        | .waits => none
        | .halted => some .halted
        | _ => some .error)

/-- The port of a packet takes it as it arrives, or as it stands buffered there (R209). -/
def State.portTakes (s : State) (p : Pkt) : Bool :=
  match s.portSt p.h.dst with
  | .ready => true
  | .waking => false
  | .drain => decide (p.h.vc = 1) || decide (p.h.typ = 6) || (!p.inj && decide (p.net = p.h.dst.net) && decide (p.node = p.h.dst.node))
  | _ => decide (p.h.vc = 1) || decide (p.h.typ = 6)

/-- The way of a packet from where it is to its port, and that of the answer to a request, is open: no router of it withholds its credit (R24, R212), no
earlier packet of its source and channel to the port is before it (R203), and the port takes it. -/
def State.wayOpen (s : State) (p : Pkt) : Bool :=
  let ahead := pathFrom p.h 64 p.net p.node
  let ahead := if p.inj then ahead else ahead.drop 1
  let back := if p.h.vc = 0 then routersTo p.h.dst p.h.src else []
  decide (p.inp = 16) || ((ahead ++ back).all (fun r => !s.freezing r.1 r.2) && !s.overtakes p.pid && s.portTakes p &&
    (decide (p.ue = .none) || (decide (p.ue = .payload) && decide (p.h.vc = 1))))

/-- The answer to a store that is on its way back and can arrive; one with an unusable payload arrives with status poisoned (R316). -/
def State.ackOf (s : State) (c n : Nat) : Option RspStatus :=
  match s.noc.pkts.find? (fun p => (p.what.ackTo c n).isSome) with
  | some p => if s.wayOpen p then (if p.ue = .payload then some .poisoned else p.what.ackTo c n) else none
  | none => none

/-- DRAIN_STORE_ACK (R148, R150): the oldest store of the instance that has been sent and not acknowledged; nothing while it cannot reach its target or
its target gives no answer. Entries that IO_RESET_N sent back leave again. -/
def execDrainStoreAck (iid : Nat) (s : State) : Res' :=
  .next (if s.gsr then s
    else match s.inst iid with
      | none => s
      | some x => match (s.entriesOf x).find? (fun p => p.2.isStore && p.2.pid.isSome) with
        | none => s.progress iid
        | some (c, e) => match s.ackOf c (e.pid.getD 0) with
          | some st => (s.countFlits (clusterPort c) 1).storeDone c e st
          | none => match s.pkt (e.pid.getD 0) with
            | none => s
            | some p =>
              if !s.wayOpen p then s
              else
                let o := s.storeServe c e
                match o.2 with
                | some st => (o.1.exchanged p.h.src p.h.dst p.h.flits 1).storeDone c e st
                | none => o.1)

/-! Tokens -/

/-- A mirror token enters the buffer of 64 (R486); refused while it is full or IO_RESET_N holds HP. -/
def State.mirrorPut (s : State) (t : Token) : State × Bool :=
  if s.hp.buf.length < 64 ∧ !s.pins.ioRst then ({ s with hp := { s.hp with buf := s.hp.buf ++ [t] } }, true) else (s, false)

/-- A marker of an earlier instance of the flow waits for an entry on one of the clusters (R185): later ordered outputs stay behind it. -/
def State.behindMarker (s : State) (c : Nat) (x : Inst) : Bool :=
  s.flow.waits.any (fun w => decide (w.flow = x.flow) && decide (w.iid ≠ x.iid) && w.clusters.contains c && !w.before.contains x.iid)

/-- A drained token is judged at its sink (R149, R179, R184, R185). -/
def State.drainToken (s : State) (c : Nat) (x : Inst) (d : TokDest) (t : Token) : State × Bool :=
  match d with
  | .mst => let u := s.present t; (u, u.taken)
  | .queue =>
    if t.flow = x.flow ∧ s.isOrd x.flow.toNat then (if s.behindMarker c x then (s, false) else s.orderedOut x.flow.toNat x.inst t)
    else s.judgeEnqueue t.flow.toNat t
  | .mirror => s.mirrorPut t

/-- A token at its sink is judged: accepted, its entry is freed; refused, it waits at the input of the sink, which grants no credit (R149,
R205). -/
def State.tokenServe (s : State) (c : Nat) (e : CbEntry) : State × Bool :=
  match e.what, s.inst e.iid with
  | .token d t, some x =>
    let o := s.drainToken c x d t
    if o.2 then ((o.1.entryGone c e).progress e.iid, true)
    else ({ o.1 with noc := { o.1.noc with pkts := o.1.noc.pkts.map (fun (p : Pkt) =>
      if some p.pid = e.pid then { p with net := p.h.dst.net, node := p.h.dst.node, inp := 16, inj := false } else p) } }.settle, false)
  | _, _ => (s, false)

/-- A token packet reaches its sink and is judged there; its flits count once (R149, R215). -/
def State.sinkServe (s : State) (c : Nat) (p : Pkt) (e : CbEntry) : State :=
  ((if p.inp = 16 then s else s.countFlits p.h.dst p.h.flits).tokenServe c e).1

/-- The tokens of an instance that wait for their sinks, in the order of their release. -/
def State.tokensOf (s : State) (x : Inst) : List (Nat × CbEntry) := (s.entriesOf x).filter (fun p => !p.2.isStore)

/-- A token packet may be judged now: it waits at its sink, or its way there is open and no other token waits at the input. -/
def State.atSink (s : State) (p : Pkt) : Bool := decide (p.inp = 16) || (s.wayOpen p && !s.sinkBusy p.h.dst)

/-- DRAIN_TOKEN_ACCEPT (R149): a token waits behind an earlier one for the same input. -/
def execDrainTokenAccept (iid n : Nat) (s : State) : Res' :=
  .next (if s.gsr then s
    else match s.inst iid with
      | none => s
      | some x =>
        let ts := s.tokensOf x
        match ts[n]? with
        | none => s
        | some (c, e) =>
          if (ts.take n).any (fun p => decide (sinkPort p.2.what = sinkPort e.what)) then s
          else match e.pid.bind (fun i => s.pkt i) with
            | none => s
            | some p => if s.atSink p then s.sinkServe c p e else s)

/-! The inputs of the matching store and the queue engine (R139, R179; log entry 88) -/

/-- The token that waits at an input. -/
def State.inputTok (s : State) (q : PortId) : Option Pkt := s.noc.pkts.find? (fun p => decide (p.inp = 16) && decide (p.h.dst = q))

/-- The inputs in their ring, from the one after `first`. -/
def ringFrom (first : Nat) : List Nat := (List.range 16).map (fun i => (first + 1 + i) % 16)

/-- A pass over the inputs: state, tokens judged, the input judged first, and what became of the token that arrives: none while it has not been judged. -/
structure Pass where
  s : State
  n : Nat
  first : Option Nat
  got : Option (Judged × Bool)

/-- The turn of one input in the first round: the token that waits there, else the one that arrives. -/
def Pass.turn (port : Nat → PortId) (judge : State → State × Bool) (own : Nat) (p : Pass) (i : Nat) : Pass :=
  if p.n ≥ 16 then p
  else match p.s.inputTok (port i) with
    | some w => (match w.what with
        | .entry c => (match p.s.entryOf c w.pid with
            | some e => { p with s := p.s.sinkServe c w e, n := p.n + 1, first := p.first.or (some i) }
            | none => p)
        | _ => p)
    | none =>
      if i = own then
        let o := judge p.s
        { s := o.1, n := p.n + 1, first := p.first.or (some i), got := some (o.1.mst.judged, o.2) }
      else p

/-- One cycle of judging (R139, R179): the tokens that wait at the inputs and the one that arrives at input `own`, in the ring; the one that arrives is
judged in the second round where the one before it at its input was accepted. -/
def State.judgeRound (s : State) (port : Nat → PortId) (first own : Nat) (judge : State → State × Bool) : Pass :=
  let p := (ringFrom first).foldl (Pass.turn port judge own) { s := s, n := 0, first := none, got := none }
  if p.got.isNone then p.turn port judge own own else p

/-- TOKEN_ARRIVAL (R126, R138, R139): under GSR the token waits (R384). -/
def execTokenArrival (t : Token) (s : State) : Res' :=
  .next (if s.gsr then s.setJudged .waits
    else
      let p := s.judgeRound (fun i => ⟨2, 8 * i + 6, 3⟩) s.mst.first (t.flow.toNat % 16) (fun s => let u := s.present t; (u, u.taken))
      let u := { p.s with mst := { p.s.mst with first := p.first.getD s.mst.first } }
      u.setJudged ((p.got.map (fun g => g.1)).getD .waits))

/-- ENQUEUE (R179). -/
def execEnqueue (q : Nat) (t : Token) (s : State) : Res' :=
  if !decide (q < 262144) then .fault .noSuchUnit
  else
    let p := s.judgeRound (fun i => ⟨2, 8 * i + 6, 4⟩) s.flow.first (q % 16) (fun s => s.judgeEnqueue q t)
    let u := { p.s with flow := { p.s.flow with first := p.first.getD s.flow.first } }
    .next (u.setJudged (match p.got with
      | some g => if g.2 then .admitted else .refused
      | none => .waits))

/-! Commit (R147) -/

/-- COMMIT_POINT (R147): three cycles after a TEND that nothing has aborted. -/
def execCommitPoint (iid : Nat) (s : State) : Res' :=
  .next (if s.gsr then s
    else match s.inst iid with
      | none => s
      | some x =>
        if x.st = .ending ∨ x.st = .ended then
          let t := s.closeTask iid
          match t.inst iid with
          | some y => if y.st = .ended then (t.commit y).progress iid else t
          | none => t
        else s)

/-! Fences (R239, R240) -/

/-- The fence store of a cluster that has been requested and not answered. -/
def State.fenceEntry (s : State) (c : Nat) : Option CbEntry :=
  (s.cluster c).cb.find? (fun e => e.isFence && e.pid.isSome && !s.travelling e)

/-- A fence is answered. -/
def State.fenceAnswer (s : State) (i : Iface) : State :=
  match i with
  | .fabric c => (match s.fenceEntry c with
      | some e => s.storeDone c e .normal
      | none => s.answer i .ok [])
  | _ => s.answer i .ok []

/-- Drop the first fence whose rows have all been written. -/
def dropFence : List Fence → List Fence
  | [] => []
  | f :: fs => if f.rows = [] then fs else f :: dropFence fs

/-- FENCE_COMPLETE (R239): the oldest fence whose rows have all been written. -/
def execFenceComplete (s : State) : Res' :=
  .next (match s.garnet.fences.find? (fun f => decide (f.rows = [])) with
    | none => s
    | some f =>
      let t := { s with garnet := { s.garnet with fences := dropFence s.garnet.fences } }
      (t.fenceAnswer f.who).fenceCount)

/-! Responses of remote loads (R60, R146) -/

/-- A load at its target: none while there is no answer. -/
def State.loadServe (s : State) (c a : Nat) : State × Option (Word × RspStatus) :=
  let o := s.busRead (.fabric c) a
  (o.1, match o.2.1 with
    | .ok => some (o.2.2, .normal)
    | .poisoned => some (o.2.2, .poisoned)
    | .halted => some (0, .halted)
    | .none => none
    | .waits => none
    | _ => some (0, .error))

/-- The response fills its slot; the request is over. -/
def State.loadDone (s : State) (c slot : Nat) (r : Word × RspStatus) : State := (s.dropLoads c (fun i => decide (i = slot))).slotFill c slot r.1 r.2

/-- The answer of a request that is on its way back and can arrive; one with an unusable payload arrives with status poisoned (R316). -/
def State.rspOf (s : State) (c slot n : Nat) : Option (Word × RspStatus) :=
  s.noc.pkts.findSome? (fun p => match p.what with
    | .loadRsp d i m v st =>
      if d = c ∧ i = slot ∧ m = n ∧ s.wayOpen p = true then some (v, if p.ue = .payload then .poisoned else st) else none
    | _ => none)

/-- RLD_RESPONSE (R60, R146): the response of the request that owns the slot; nothing while the request cannot reach its target. -/
def execRldResponse (c slot : Nat) (s : State) : Res' :=
  if !(decide (c < 1024) && decide (slot < 16)) then .fault .noSuchUnit
  else .next (match (s.cluster c).rlds.find? (fun r => decide (r.slot = slot)) with
    | none => s
    | some r =>
      if (s.cluster c).slotOf slot ≠ .pending then s
      else match s.rspOf c slot r.pid with
        | some x => (s.loadDone c slot x).countFlits (clusterPort c) 1
        | none => match s.pkt r.pid with
          | none => s
          | some p =>
            if !s.wayOpen p then s
            else
              let o := s.loadServe c r.addr
              match o.2 with
              | some x => (o.1.loadDone c slot x).exchanged p.h.src p.h.dst p.h.flits 1
              | none => o.1)

end Sys2Proof.Machine
end

