-- ==== Sys2Proof/Machine/NocHop.lean ====
section
/-! DEFINITION. Packets on the move (R199-R214, R531): arbitration, hops, ejection at an endpoint, urgency, bounced packets; and IO_RESET_N, which
takes what is in the Bedrock network. -/

namespace Sys2Proof.Machine

/-! Urgency (R206) -/

/-- The packet with another header, in its place. -/
def State.setHdr (s : State) (pid : Nat) (h : Hdr) : State :=
  { s with noc := { s.noc with pkts := s.noc.pkts.map (fun (p : Pkt) => if p.pid = pid then { p with h := h } else p) } }

/-- One step of urgency. -/
def Hdr.step (h : Hdr) : Hdr := { h with wcnt := 0, urg := if h.urg = 15 then 15 else h.urg + 1 }

/-- Waiting cycles per step in a router (R206). -/
def State.urgStep (s : State) (net node : Nat) : Nat := 2 ^ ((s.rcfg net node).toNat % 16)
/-- URG rises with waiting in the router (AGEEN, R215). -/
def State.ageing (s : State) (net node : Nat) : Bool := (s.rcfg net node).getLsbD 8

/-- A packet waits one cycle: WCNT counts, and at the step of the router it returns to 0 and URG rises, where the router lets it rise. -/
def State.waitOne (s : State) (p : Pkt) : State :=
  let s := s.countWait p.h.dst 1
  let full := decide (p.h.wcnt.toNat + 1 ≥ s.urgStep p.net p.node)
  s.setHdr p.pid (if full then (if s.ageing p.net p.node then p.h.step else { p.h with wcnt := 0 }) else { p.h with wcnt := p.h.wcnt + 1 })

/-! Arbitration (R205, R207) -/

/-- The head packet of each (input, channel) pair of a router that requests an output, with the number of its pair. -/
def State.requests (s : State) (net node out : Nat) : List (Nat × Pkt) :=
  (List.range 48).filterMap (fun pr =>
    match s.noc.pkts.find? (fun p => !p.inj && decide (p.net = net) && decide (p.node = node) && decide (p.inp = pr / 3) && decide (p.h.vc = pr % 3)) with
    | some p => if nextOut p.h net node = out then some (pr, p) else none
    | none => none)

/-- The hop is open: its next buffer has room (R205), its gateway lets it through (R214), its endpoint takes packets (R209). -/
def State.hopOpen (s : State) (net node out : Nat) (p : Pkt) : Bool :=
  if s.pins.ioRst && ((decide (net = 2) && decide (out = 10)) || decide (net = 3)) && decide (p.h.vc = 2) then false
  else match nextHop p.h net node out with
    | some (n, d, i) => (s.pins.ioRst && decide (net = 2) && decide (out = 10)) || s.roomFor p n d i (if crossesSpine net node out then 8 else 6)
    | none => decide (s.portSt p.h.dst ≠ .waking) && !s.sinkBusy p.h.dst

/-- How far a pair follows the last winner of an output in its ring; `last` is that winner plus one. -/
def ringDist (last pr : Nat) : Nat := (pr + 48 - last % 48) % 48

/-- The winner: greatest URG, then the pair that follows the last winner in the ring. -/
def winner (last : Nat) : List (Nat × Pkt) → Option (Nat × Pkt)
  | [] => none
  | x :: xs => match winner last xs with
    | none => some x
    | some y =>
      if x.2.h.urg.toNat < y.2.h.urg.toNat ∨ (x.2.h.urg = y.2.h.urg ∧ ringDist last y.1 < ringDist last x.1) then some y else some x

/-! Ejection (R209) -/

/-- A response leaves its endpoint (R200): the type, PRI and TAG of its request. -/
def State.respond (s : State) (p : Pkt) (src : PortId) (typ : Nat) (w : PktWhat) : State :=
  (s.dropPkt p.pid).inject (if p.h.typ = 6 then 7 else typ) 0 p.h.pri.toNat src p.h.src w noAddr

/-- A cluster still waits for the response of a request. -/
def State.awaits (s : State) (c slot req : Nat) : Bool :=
  decide ((s.cluster c).slotOf slot = .pending) && (s.cluster c).rlds.any (fun r => decide (r.slot = slot) && decide (r.pid = req))

/-- A bounce has come back to its source (R211): a bundle's placement is withdrawn, any other packet waits to be sent again. -/
def State.bounced (s : State) (b : Pkt) (n : Nat) : State :=
  let s := s.dropPkt b.pid
  match s.noc.kept.find? (fun k => decide (k.p.pid = n)) with
  | none => s
  | some k => match k.p.what with
    | .bundle iid _ => (s.dropPkt n).withdraw iid
    | _ => { s with noc := { s.noc with kept := s.noc.kept.map (fun (x : Kept) => if x.p.pid = n then { x with back := true } else x) } }

/-- The answer to a load packet at its target. -/
def State.loadAnswer (s : State) (c : Nat) (p : Pkt) : State × Option (Word × RspStatus) :=
  s.loadServe c ((((s.cluster c).rlds.find? (fun r => decide (r.pid = p.pid))).map (fun r => r.addr)).getD 0)

/-- The router of a port that is DRAINED or OFF answers for it (R209): a REG packet reads zero or is ignored, with status normal. -/
def State.routerAnswers (s : State) (p : Pkt) : State :=
  match p.what with
  | .load c slot => s.respond p p.h.dst 4 (.loadRsp c slot p.pid 0 .normal)
  | .entry c => s.respond p p.h.dst 5 (.ack c p.pid .normal)
  | _ => s.dropPkt p.pid

/-- What a packet does at the endpoint it is addressed to. It stays in its buffer where the endpoint withholds credit. -/
def State.deliver (s : State) (p : Pkt) : State :=
  match p.what with
  | .bundle _ _ => s.dropPkt p.pid
  | .entry c => (match s.entryOf c p.pid with
      | none => s.dropPkt p.pid
      | some e =>
        if e.isStore then
          let o := s.storeServe c e
          match o.2 with
          | some st => o.1.respond p p.h.dst 5 (.ack c p.pid st)
          | none => o.1
        else (s.tokenServe c e).1)
  | .load c slot =>
    if !s.awaits c slot p.pid then s.dropPkt p.pid
    else
      let o := s.loadAnswer c p
      (match o.2 with
       | some (v, st) => o.1.respond p p.h.dst 4 (.loadRsp c slot p.pid v st)
       | none => o.1)
  | .loadRsp c slot req v st =>
    if s.awaits c slot req then (s.dropPkt p.pid).loadDone c slot (v, if p.ue = .payload then .poisoned else st) else s.dropPkt p.pid
  | .ack c n st => (match s.entryOf c n with
      | some e => (s.dropPkt p.pid).storeDone c e (if p.ue = .payload then .poisoned else st)
      | none => s.dropPkt p.pid)
  | .bounce n => s.bounced p n

/-- Ejection as the state of the port has it (R209): a packet buffered before the port left READY meets the state of now. -/
def State.eject (s : State) (p : Pkt) : State :=
  match s.portSt p.h.dst with
  | .waking => s
  | .drained => if p.h.typ = 6 then s.routerAnswers p else if p.h.vc = 1 then s.deliver p else (s.bounce p).wakeBank p.h.dst
  | .off => if p.h.typ = 6 then s.routerAnswers p else if p.h.vc = 1 then s.dropPkt p.pid else (s.bounce p).wakeBank p.h.dst
  | _ => s.deliver p

/-- The packet still stands where it stood. -/
def State.stays (s : State) (p : Pkt) : Bool :=
  (s.pkt p.pid).any (fun q => decide (q.net = p.net) && decide (q.node = p.node) && decide (q.inp = p.inp))

/-- Ejection, with the flits counted once the packet has left its buffer. -/
def State.ejectCount (s : State) (p : Pkt) : State :=
  let t := s.eject p
  if t.stays p then t else t.countFlits p.h.dst p.h.flits

/-! IO_RESET_N (R214, R531) -/

/-- A packet in the Bedrock network is lost to the reset: a transfer ends as halted, a store that has taken effect counts, what has not taken effect
waits at its source. -/
def State.ioLost (s : State) (p : Pkt) : State :=
  match p.what with
  | .load c slot => if s.awaits c slot p.pid then (s.dropPkt p.pid).loadDone c slot (0, .halted) else s.dropPkt p.pid
  | .loadRsp c slot req _ _ => if s.awaits c slot req then (s.dropPkt p.pid).loadDone c slot (0, .halted) else s.dropPkt p.pid
  | .entry c => (match s.entryOf c p.pid with
      | none => s.dropPkt p.pid
      | some e => if e.isStore then s.storeDone c e .halted else s.entryBack c e)
  | .ack c n st => (match s.entryOf c n with
      | some e => (s.dropPkt p.pid).storeDone c e st
      | none => s.dropPkt p.pid)
  | .bounce n => s.bounced p n
  | .bundle _ _ => s.dropPkt p.pid

/-- A gateway answers for the Bedrock side (R214): a VC0 packet gets a halted response, a VC1 packet is discarded. -/
def State.gatewayHalt (s : State) (node : Nat) (p : Pkt) : State :=
  match p.what with
  | .load c slot => s.respond p ⟨2, node, 6⟩ 4 (.loadRsp c slot p.pid 0 .halted)
  | .entry c => s.respond p ⟨2, node, 6⟩ 5 (.ack c p.pid .halted)
  | _ => s.dropPkt p.pid

/-! Hops -/

/-- A packet whose header cannot be used is discarded (R316). -/
def State.nocUe (s : State) (p : Pkt) : State :=
  (s.dropPkt p.pid).record 0x33 3 (natBytes 1 p.net ++ natBytes 1 p.node)

/-- The granted packet takes its hop; an uncorrectable word found in it discards it, bounces it or goes with it (R316). -/
def State.hop (s : State) (net node out : Nat) (p : Pkt) : State :=
  if p.ue = .header then s.nocUe p
  else if p.ue = .payload ∧ p.h.vc ≠ 1 then s.bounce p
  else match nextHop p.h net node out with
    | none => s.ejectCount p
    | some (n, d, i) =>
      if s.pins.ioRst ∧ net = 2 ∧ out = 10 then s.gatewayHalt node p
      else (s.dropPkt p.pid).enter { p with net := n, node := d, inp := i }

/-- The output grants the first packet that its next buffer or endpoint takes, of those given in the order of R207 by `winner`; the state, and the pair
that was granted. -/
def State.grantOut (s : State) (net node out last : Nat) : Nat → List (Nat × Pkt) → State × Option Nat
  | 0, _ => (s, none)
  | n + 1, xs => match winner last xs with
    | none => (s, none)
    | some (pr, p) =>
      let t := s.hop net node out p
      if t.stays p then t.grantOut net node out last n (xs.filter (fun x => decide (x.1 ≠ pr))) else (t, some pr)

/-- The head packets of a router that request an output and may go. -/
def State.openReqs (s : State) (net node out : Nat) : List (Nat × Pkt) := (s.requests net node out).filter (fun x => s.hopOpen net node out x.2)

/-- An output's cycle: it grants one packet; the other head packets that request it wait, all of them when none can be granted. -/
def State.outCycle (s : State) (net node out : Nat) : State :=
  let rs := s.requests net node out
  let key := 16 * routerKey net node + out
  let o := s.grantOut net node out (smGet 0 s.noc.lastWin key) rs.length (s.openReqs net node out)
  let t := (rs.filter (fun x => decide (some x.1 ≠ o.2))).foldl (fun s x => s.waitOne x.2) o.1
  match o.2 with
  | none => t
  | some pr => ({ t with noc := { t.noc with lastWin := smSet 0 t.noc.lastWin key (pr + 1) } }).settle

/-- The packet that an output is to grant meets an error of its code (R316); an error it has met already stays. -/
def State.upsetHead (s : State) (net node : Nat) (x : HopOut) : State :=
  match winner (smGet 0 s.noc.lastWin (16 * routerKey net node + x.out)) (s.openReqs net node x.out) with
  | some (_, q) => if x.ue = .none then s else
      { s with noc := { s.noc with pkts := s.noc.pkts.map (fun (p : Pkt) => if p.pid = q.pid ∧ p.ue ≠ .header then { p with ue := x.ue } else p) } }
  | none => s

/-- PACKET_HOP (R201, R205-R207, R209, R316). -/
def execPacketHop (net node : Nat) (x : HopOut) (s : State) : Res' :=
  if nodeOk net node && decide (x.out < 16) then .next ((s.upsetHead net node x).outCycle net node x.out) else .fault .noSuchUnit

/-- URGENCY_STEP (R206): the head packet named has waited until its step. -/
def execUrgencyStep (pkt : Nat) (s : State) : Res' :=
  .next (match s.pkt pkt with
    | none => s
    | some p =>
      if p.inj ∨ !(s.requests p.net p.node (nextOut p.h p.net p.node)).any (fun x => decide (x.2.pid = pkt)) then s
      else
        (s.countWait p.h.dst (Nat.max 1 (s.urgStep p.net p.node - p.h.wcnt.toNat))).setHdr pkt
          (if s.ageing p.net p.node then p.h.step else { p.h with wcnt := 0 }))

/-! Bounced packets (R211) -/

/-- Where a packet kept at its source goes now. -/
def State.resolveDst (s : State) (p : Pkt) : PortId :=
  match p.what with
  | .entry c => ((s.entryOf c p.pid).map (fun e => sinkPort e.what)).getD p.h.dst
  | .load c _ => (((s.cluster c).rlds.find? (fun r => decide (r.pid = p.pid))).map (fun r => addrPort r.addr)).getD p.h.dst
  | _ => p.h.dst

/-- A kept packet is sent again; later ones keep to its place in the order of their source (R203, R211). -/
def State.sendKept (s : State) (k : Kept) : State :=
  let p := k.p
  let h := { mkHdr p.h.typ.toNat p.h.nflit.toNat p.h.pri.toNat p.h.src (s.resolveDst p) with tag := p.h.tag }
  let q : Pkt := { p with h := h, net := p.h.src.net, node := p.h.src.node, inp := 4 + p.h.src.port, inj := true }
  let s := (s.dropPkt p.pid).putPkt q
  if s.mayEnter q then s.enter q else s

/-- The first packet that a source holds and may send: bounced ones go in the order of their first sending (R211). -/
def State.firstBack (s : State) (src : PortId) : Option Kept :=
  s.noc.kept.find? (fun k => k.back && !k.held && decide (k.p.h.src = src))

/-- Packets held behind a bounced one follow it, as long as no bounced one to their address comes before them. -/
def State.sendHeld (s : State) (src : PortId) (addr : Option (Nat × Nat)) : Nat → State
  | 0 => s
  | n + 1 => match s.noc.kept.find? (fun k => k.back && decide (k.p.h.src = src) && decide (s.pktAddr k.p = addr)) with
    | some k => if k.held then (s.sendKept k).sendHeld src addr n else s
    | none => s

/-- BOUNCE_RESEND (R211): in their original order. -/
def execBounceResend (pkt : Nat) (s : State) : Res' :=
  .next (match s.noc.kept.find? (fun k => decide (k.p.pid = pkt)) with
    | none => s
    | some k =>
      if k.back ∧ !k.held ∧ s.firstBack k.p.h.src = some k then
        (s.sendKept k).sendHeld k.p.h.src (s.pktAddr k.p) s.noc.kept.length
      else s)

/-! The reset itself (R531) -/

/-- IO_RESET_ASSERT (R214, R402, R465, R466, R477, R482, R486, R494, R530, R531). -/
def execIoResetAssert (s : State) : Res' :=
  if s.pins.ioRst then .next s
  else if s.pins.por ∨ s.pins.sysRst then .next { s with pins := { s.pins with ioRst := true } }
  else
    let s := s.sessIdle
    let s := s.resetLanes true
    let s := s.resetRegs false (fun a => inBlockList [21, 22, 23, 24] a || decide (a = LANE_STATUS))
    let s := s.resetHost.strapPulls
    let s := { s with pins := { s.pins with ioRst := true }, gpio := { s.gpio with ev := [] } }
    let s := (s.noc.pkts.filter (fun p => decide (p.net = 3))).foldl (fun s p => s.ioLost p) s
    .next ((s.ddrAsleep.record 0x62 1 []).setBits SYS_RSTCAUSE 0x200#32)

/-- IO_RESET_RELEASE (R531): entries that waited in their commit buffers leave again. -/
def execIoResetRelease (s : State) : Res' :=
  let s := { s with pins := { s.pins with ioRst := false } }.ddrAwake
  .next (s.dsp.insts.foldl (fun s x => s.progress x.iid) s)

end Sys2Proof.Machine
end

