-- ==== Sys2Proof/Machine/HostAcc.lean ====
section
/-! DEFINITION. The host interfaces (R386, R474-R478, R483-R488): PCIe requests, its link and resets, native HP, mirrors, SMBus; the failure of the
PCIe clock (R411, R477). -/

namespace Sys2Proof.Machine

/-! Errors (R476) -/

/-- An error of an interface is captured: cause 1 DECODE, 2 REFUSED, 3 POISON, 4 TIMEOUT. -/
def State.hostErr (s : State) (i : Iface) (cause addr : Nat) (write : Bool) : State :=
  let info := BitVec.ofNat 32 (cause * 2 ^ 28 + Bool.bit write)
  match i with
  | .pcie =>
    let s := s.bump PCIE_ERRCNT PCIE_CNTOVF 0
    let s := if tb (s.rd PCIE_STATUS) 0 then s else (s.wr PCIE_EINFO info).wr64 PCIE_EADDR_LO (addr % 2 ^ 48)
    s.setBits PCIE_STATUS 1
  | .hp =>
    let s := if tb (s.rd HP_STATUS) 1 then s else s.wr HP_EINFO info
    s.setBits HP_STATUS 2
  | .smb => { s with smb := { s.smb with status := BitVec.ofNat 4 (2 * cause + 1) } }
  | _ => s

/-- A memory address that no endpoint backs (R33): not installed or not READY, a way that is not locked, a retired page (R268); any other error there is a
refusal. -/
def State.memAbsent (s : State) (a : Nat) : Bool :=
  !isMem a || (isExternal a && s.extAbsent a) || isLockWin a || (isSpad a && s.retiredPage 1 (spadOff a / 4096)) ||
  (isGarnet a && s.retiredPage 2 (garnetOff a / 4096))

/-- The cause of an error response over `n` bytes; which of the two it is before step 12 is free (R386; log entry 4). -/
def State.errCause (s : State) (i : Iface) (a n : Nat) : State × Nat :=
  let blocks := (List.range ((a + n + 255) / 256 - a / 256)).map (fun k => Nat.max a (256 * (a / 256 + k)))
  if inBlocks a || inWindows a then
    (if a % 4 ≠ 0 ∨ n ≠ 4 then (s, 1)
     else if s.gsr ∧ !answersEarly a then (s.drawn, 1 + Bool.bit (s.freeVal.getLsbD 0))
     else (s, 2))
  else if i = .smb ∨ blocks.any (fun b => !isMem b) then (s, 1)
  else if s.gsr then (s.drawn, 1 + Bool.bit (s.freeVal.getLsbD 0))
  else (s, if blocks.any s.memAbsent then 1 else 2)

/-- An access is over: its answer, and what is captured. An error's cause stands in its answer as data; a poisoned read gives zeros. -/
def State.hostEnd (s : State) (i : Iface) (a n : Nat) (write : Bool) (k : AnsKind) (d : List Byte) : State :=
  match k with
  | .ok => s.answer i .ok d
  | .poisoned => (s.hostErr i 3 a write).answer i .poisoned (List.replicate n 0)
  | .waits => s.answer i .waits []
  | .none => s
  | _ =>
    let c := s.errCause i a n
    (c.1.hostErr i c.2 a write).answer i .error [BitVec.ofNat 8 c.2]

/-! PCIe requests (R475) -/

/-- The link is up, so that requests arrive. -/
def State.linkUp (s : State) : Bool := s.pcieOn && tb (s.rd PCIE_LINK) 8

/-- The device address of a BAR offset. -/
def barAddr (bar off : Nat) : Option Nat :=
  if bar = 0 then
    (if off < 0x1D00000 then some (0x2000000000 + off)
     else if 0x2000000 ≤ off ∧ off < 0x2400000 then some (0x2100000000 + off - 0x2000000)
     else none)
  else if bar = 2 ∧ off < 0xC000000 then some (0x1000000000 + off)
  else if bar = 4 ∧ off < 2 ^ 36 then some off
  else none

/-- An offset of the MSI-X table or pending bits. -/
def inMsix (bar off : Nat) : Bool := decide (bar = 0) && decide (0x3000000 ≤ off) && decide (off < 0x3008100)

/-- A word of the MSI-X table or of the pending-bit array. -/
def State.msixRead (s : State) (o : Nat) : Word :=
  if o < 0x8000 then s.msixWord (o / 16) (o / 4 % 4)
  else wordN (((List.range 32).map (fun j => atBit (smGet false s.pcie.pba (8 * (o - 0x8000) + j)) j)).foldl (· + ·) 0)

/-- A pending vector that is not masked sends its message (R478). -/
def State.msixPend (s : State) (v : Nat) : State := if smGet false s.pcie.pba v then s.msixFire v else s

/-- A word of the table is written; the pending bits are read-only. -/
def State.msixWrite (s : State) (o : Nat) (w : Word) : State :=
  if o < 0x8000 then
    let i := o / 4 % 4
    let w := if i = 3 then w &&& 1#32 else w
    ({ s with pcie := { s.pcie with msix := smSet (if i = 3 then 1 else 0) s.pcie.msix (o / 4) w } }).msixPend (o / 16)
  else s

/-- A memory transfer of the PCIe interface, byte enables in `bs`. -/
def State.pcieXfer (s : State) (a : Nat) (write : Bool) (n : Nat) (bs : List (Option Byte)) : Served :=
  match s.accessGate .pcie a with
  | some k => (s, k, [])
  | none =>
    s.memXferFrom (some pciePort) ⟨.pcie, a, n, write, bs⟩

/-- An offset that no table names: an address outside R32. Its device address is free. -/
def State.barHole (s : State) (write : Bool) : State :=
  (s.drawn.hostErr .pcie 1 (s.freeVal.toNat % 2 ^ 48) write).answer .pcie .error [1]

/-- PCIE_MEM_READ (R475, R476). -/
def execPcieMemRead (bar off len : Nat) (s : State) : Res' :=
  .next (if !s.linkUp then s
    else if inMsix bar off then
      s.answer .pcie .ok ((((List.range ((len + off % 4 + 3) / 4)).flatMap (fun i => wordBytes (s.msixRead ((off - 0x3000000) / 4 * 4 + 4 * i)))).drop
        (off % 4)).take len)
    else match barAddr bar off with
      | none => s.barHole false
      | some a =>
        if bar = 0 then
          (if len ≠ 4 ∨ a % 4 ≠ 0 then s.hostEnd .pcie a len false .error []
           else
            let o := s.busRead .pcie a
            o.1.hostEnd .pcie a 4 false o.2.1 (wordBytes o.2.2))
        else
          let o := s.pcieXfer a false len []
          o.1.hostEnd .pcie a len false o.2.1 o.2.2)

/-- A word written with EP set (R249, R476): it is stored as POISON wherever it is held. No BAR reaches Garnet (R475). -/
def State.poisonWord (s : State) (a : Nat) : State :=
  let t := s.flushWord a
  match t.wLoc a with
  | some l => t.wPut l (List.replicate 8 (some 0)) .poison
  | none => t

/-- The same straight in external memory: the words touched of one sector. -/
def State.poisonLine (s : State) (r : MemReq) (sec : Nat) : State × Bool :=
  match s.regionOf sec with
  | none => (s, false)
  | some (rid, reg) =>
    let x := (s.ddrFlits sec false).lineFetch rid reg sec
    let hit (i : Nat) : Bool := decide (r.addr < sec + 8 * i + 8) && decide (sec + 8 * i < r.addr + r.len)
    if x.2.2.any Mark.bad && !(List.range 8).all hit then (x.1, false)
    else
      let ms := (List.range 8).map (fun i => if hit i then Mark.poison else x.2.2.getD i .clean)
      let bs := (List.range 64).map (fun i => if hit (i / 8) then 0 else x.2.1.getD i 0)
      ((x.1.ddrFlits sec true).lineWrite rid reg sec bs ms, true)

/-- A write with EP set within one 256-byte block. -/
def State.poisonBlock (s : State) (r : MemReq) : Served :=
  if isExternal r.addr && !s.extAbsent r.addr && !s.extWaits r.addr && s.sliceBypass (cSlice r.addr) then
    if s.pins.ioRst then (s, .halted, [])
    else if !s.ddrReach r.addr then (s, .waits, [])
    else
      (reqSectors r).foldl (fun (acc : Served) sec =>
        if acc.2.1 = .ok then
          let x := acc.1.poisonLine r sec
          (x.1, if x.2 then .ok else .error, [])
        else acc) (s, .ok, [])
  else
    let lo := r.addr / 8 * 8
    let n := (r.addr + r.len + 7) / 8 * 8 - lo
    let o := s.memServe ⟨.pcie, lo, n, true, List.replicate n (some 0)⟩
    if o.2.1 ≠ .ok then (o.1, o.2.1, [])
    else
      let plain (w : Nat) : Nat := if isSpad w then 0x1000000000 + spadOff w else w
      ((reqWords r).foldl (fun s w => s.poisonWord (plain w)) o.1, .ok, [])

/-- A write with EP set (R476). -/
def State.poisonXfer (s : State) (r : MemReq) : Served := s.xferBy (fun s q => s.sendReq (some pciePort) State.poisonBlock q) r

/-- PCIE_MEM_WRITE (R475, R476): a write that is not performed is discarded. -/
def execPcieMemWrite (bar off : Nat) (bytes : List (Option Byte)) (ep : Bool) (s : State) : Res' :=
  let n := bytes.length
  .next (if !s.linkUp then s
    else if ep && decide (bar = 0) then s
    else if inMsix bar off then
      let w0 := (off - 0x3000000) / 4 * 4
      (List.range ((n + off % 4 + 3) / 4)).foldl (fun s i =>
        let old := wordBytes (s.msixRead (w0 + 4 * i))
        let new := (List.range 4).map (fun j => if off ≤ 0x3000000 + w0 + 4 * i + j then
          (bytes.getD (0x3000000 + w0 + 4 * i + j - off) none).getD (old.getD j 0) else old.getD j 0)
        s.msixWrite (w0 + 4 * i) (bytesWord new)) s
    else match barAddr bar off with
      | none => s.barHole true
      | some a =>
        if bar = 0 then
          (if n ≠ 4 ∨ a % 4 ≠ 0 ∨ bytes.any Option.isNone then s.hostEnd .pcie a 0 true .error []
           else
            let o := s.busWrite .pcie a (bytesWord (bytes.map (fun b => b.getD 0)))
            o.1.hostEnd .pcie a 4 true o.2 [])
        else if ep then
          let o := match s.accessGate .pcie a with
            | some k => (s, k, [])
            | none => s.poisonXfer ⟨.pcie, a, n, true, bytes⟩
          o.1.hostEnd .pcie a n true o.2.1 []
        else
          let o := s.pcieXfer a true n bytes
          o.1.hostEnd .pcie a n true o.2.1 [])

/-! The endpoint (R477, R482) -/

/-- The link leaves L0. -/
def State.linkLost (s : State) : State := if tb (s.rd PCIE_LINK) 8 then (s.wr PCIE_LINK 0).setBits PCIE_STATUS 4 else s

/-- The function loses its MSI-X table, its channels halt. -/
def State.functionReset (s : State) : State :=
  let t := { s with pcie := { s.pcie with msix := [] } }.dmaHaltAll
  { t with pcie := { t.pcie with pba := [] } }

/-- PERST (R477, R482): a pulse of PERST_N. -/
def execPerst (s : State) : Res' := .next (if s.pcieOn then s.linkLost.functionReset else s)

/-- FUNCTION_LEVEL_RESET (R477, R482). -/
def execFunctionLevelReset (s : State) : Res' := .next (if s.linkUp then s.functionReset.setBits PCIE_STATUS 2 else s)

/-- A start has come to its step 2 (R477, R485, R488). -/
def State.pastStep1 (s : State) : Bool :=
  match s.cfg.st with
  | .held => false
  | .starting => decide (2 ≤ s.cfg.step)
  | _ => true

/-- PCIE_LINK_CHANGE (R477): up after training, or down for a loss. The endpoint trains from step 2 on, after a PCLK failure once REFOK reads 1. -/
def execPcieLinkChange (up : Bool) (width gen : Nat) (s : State) : Res' :=
  .next (if !s.pcieOn then s
    else if !up then s.linkLost
    else if s.pastStep1 ∧ (!s.clkFailed 14 ∨ tb (s.rd CLK_STATUS) 3) ∧ [1, 2, 4, 8].contains width ∧ 1 ≤ gen ∧ gen ≤ 4 then
      let t := s.wr PCIE_LINK (BitVec.ofNat 32 (256 + 16 * width + gen))
      (t.pcie.pba.map (fun e => e.1)).foldl (fun s v => s.msixPend v) t
    else s)

/-- PCLK has failed since `old`: the endpoint is reset (R410, R477). -/
def State.pclkGone (old s : State) : State := if !old.clkFailed 14 && s.clkFailed 14 then s.linkLost.functionReset else s

/-- CLOCK_MONITOR_WINDOW (R411, R415): the counts of the clocks that run. -/
def execClockMonitorWindow (counts : List (Nat × Nat)) (s : State) : Res' := .next (s.pclkGone (s.clkWindow counts))

/-- CLOCK_NO_EDGE (R411). -/
def execClockNoEdge (clk : Nat) (s : State) : Res' := .next (s.pclkGone ((s.clkFail clk).clkGoodWindow false))

/-- A source of R478 that is asserted. -/
def State.irqAsserted (s : State) (n : Nat) : Bool :=
  if n < 64 then irqLevel (PCIE_DMA_STAT n) (s.rd (PCIE_DMA_STAT n))
  else if n = 64 then decide (s.rd SYS_FLTSTAT ≠ 0)
  else if n < 93 then irqLevel (0x2000000000 + 0x100000 * (n - 64)) (s.rd (0x2000000000 + 0x100000 * (n - 64)))
  else false

/-- IRQ_N is low (R413, R478). -/
def State.irqLow (s : State) : Bool := s.pins.irq || (List.range 93).any (fun n => tb (s.rd (PCIE_IRQMAP n)) 30 && s.irqAsserted n)

/-! Native HP (R483-R486) -/

/-- HP answers in native mode. -/
def State.hpUp (s : State) : Bool := s.pastStep1 && !s.pins.ioRst && !(s.tile 0).hostbus

/-- Data on HP_D, and the answer. -/
def State.hpData (s : State) (v : Word) : State := { s with hp := { s.hp with data := v } }.answer .hp .ok (wordBytes v)

/-- An access of HP to a device address is tried; one that waits is held. -/
def State.hpTry (s : State) (x : HpAcc) : State :=
  let o := if x.write then (let w := s.busWrite .hp x.addr x.v; (w.1, w.2, (0 : Word))) else s.busRead .hp x.addr
  let t := { o.1 with hp := { o.1.hp with wait := if o.2.1 = .waits then some x else none } }
  match o.2.1 with
  | .waits => t.answer .hp .waits []
  | .none => t
  | .ok => if x.write then t.answer .hp .ok [] else t.hpData o.2.2
  | k => { t with hp := { t.hp with data := if x.write then t.hp.data else 0 } }.hostEnd .hp x.addr 4 x.write k []

/-- The device address of a word of the window. -/
def State.hpWindow (s : State) (n : Nat) : Nat := s.rd64 HP_WBASE_LO + 4 * (n - 0x1000)

/-- An access of the host through the native word addresses (R484). -/
def State.hpAccess (s : State) (n : Nat) (write : Bool) (v : Word) : State :=
  if n < 0x1000 then (if write then s else s.hpData (if s.gsr then 0 else smGet 0 s.hp.mirror n))
  else if n < 0x1400 then { s with hp := { s.hp with wait := some ⟨write, s.hpWindow n, v⟩ } }
  else if 0x2000 ≤ n ∧ n < 0x2040 then s.hpTry ⟨write, HP_STATUS + 4 * (n - 0x2000), v⟩
  else if write then s
  else s.hpData 0

/-- HP_NATIVE_READ (R484): nothing new while an access waits (R485). -/
def execHpNativeRead (a : BitVec 14) (s : State) : Res' := .next (if s.hpUp ∧ s.hp.wait.isNone then s.hpAccess a.toNat false 0 else s)

/-- HP_NATIVE_WRITE (R484). -/
def execHpNativeWrite (a : BitVec 14) (v : Word) (s : State) : Res' := .next (if s.hpUp ∧ s.hp.wait.isNone then s.hpAccess a.toNat true v else s)

/-- HP_WINDOW_COMPLETE (R485): the waiting access is made; it waits on where the device holds it back. -/
def execHpWindowComplete (s : State) : Res' :=
  .next (match s.hp.wait with
    | some x => if s.hpUp then s.hpTry x else s
    | none => s)

/-- A waiting access of HP ends with TIMEOUT. -/
def State.hpTimeout (s : State) : State :=
  match s.hp.wait with
  | some x =>
    let t := { s with hp := { s.hp with wait := none, data := if x.write then s.hp.data else 0 } }
    (t.hostErr .hp 4 x.addr x.write).answer .hp .error [4]
  | none => s

/-- HP_WINDOW_TIMEOUT (R485). -/
def execHpWindowTimeout (s : State) : Res' := .next s.hpTimeout

/-- MIRROR_UPDATE (R486): the oldest token of the buffer is applied. -/
def execMirrorUpdate (s : State) : Res' :=
  .next (match s.hp.buf with
    | [] => s
    | t :: ts =>
      let s := { s with hp := { s.hp with buf := ts } }
      if t.kind ≠ .data ∨ t.poison then s.bump HP_MDISC HP_CNTOVF 0
      else
        let i := t.inst.toNat % 4096
        let m := smSet 0 s.hp.mirror i (BitVec.ofNat 32 t.value.toNat)
        let m := if t.port.getLsbD 0 then smSet 0 m ((i + 1) % 4096) (BitVec.ofNat 32 (t.value.toNat / 2 ^ 32)) else m
        let s := { s with hp := { s.hp with mirror := m } }
        if t.port.getLsbD 1 then s.setBits HP_STATUS 4 else s)

/-! SMBus (R488) -/

/-- The target acknowledges its address. -/
def State.smbUp (s : State) : Bool := s.pastStep1 && !s.pins.ioRst

/-- The access is over: data, status, the next address. -/
def State.smbDone (s : State) (write : Bool) (k : AnsKind) (v : Word) : State :=
  let a := s.smb.addr.toNat
  match k with
  | .waits => s.answer .smb .waits []
  | .none => s
  | _ =>
    let good := decide (k = .ok)
    let t := { s with smb := { s.smb with data := if write then s.smb.data else if good then v else 0
                                          status := 0, addr := s.smb.addr + 4 } }
    if good then t.answer .smb .ok (if write then [] else wordBytes v) else t.hostEnd .smb a 4 write k []

/-- SMB_SET_ADDRESS (R488). -/
def execSmbSetAddress (a : BitVec 48) (pecOk : Bool) (s : State) : Res' :=
  .next (if s.smbUp && pecOk then { s with smb := { s.smb with addr := a } } else s)

/-- SMB_READ (R488). -/
def execSmbRead (pecOk : Bool) (s : State) : Res' :=
  .next (if s.smbUp && pecOk then
      let o := s.busRead .smb s.smb.addr.toNat
      o.1.smbDone false o.2.1 o.2.2
    else s)

/-- SMB_WRITE (R488). -/
def execSmbWrite (v : Word) (pecOk : Bool) (s : State) : Res' :=
  .next (if s.smbUp && pecOk then
      let o := s.busWrite .smb s.smb.addr.toNat v
      o.1.smbDone true o.2 0
    else s)

/-- SMB_STATUS (R488). -/
def execSmbStatus (s : State) : Res' :=
  .next (if s.smbUp then
      ({ s with smb := { s.smb with status := 0 } }).answer .smb .ok [BitVec.ofNat 8 s.smb.status.toNat]
    else s)

/-- The request of an interface still waits. -/
def State.hostWaits (s : State) (i : Iface) : Bool := decide ((smGet Answer.none s.ifc.ans (ifCode i)).kind = .waits)

/-- HOST_TIMEOUT (R476): a host request still without a response. -/
def execHostTimeout (i : Iface) (addr : Nat) (write : Bool) (s : State) : Res' :=
  .next (match i with
    | .pcie => if s.hostWaits i then (s.hostErr i 4 addr write).answer i .error [4] else s
    | .hp => s.hpTimeout
    | .smb =>
      if s.hostWaits i then
        let t := { s with smb := { s.smb with data := if write then s.smb.data else 0, addr := s.smb.addr + 4 } }
        (t.hostErr i 4 addr write).answer i .error [4]
      else s
    | _ => s)

end Sys2Proof.Machine
end

