-- ==== Sys2Proof/Machine/Dispatch.lean ====
section
/-! DEFINITION. One arm per command: each calls the command's meaning, or is rejected by name while it has none. -/

namespace Sys2Proof.Machine

def exec (i : Instr) (s : State) : Host.Outcome State Fault Refusal :=
  match i with
  | .nop x1 x2 x3 => Sys2Proof.Machine.execNop x1 x2 x3 s
  | .mov x1 x2 x3 => Sys2Proof.Machine.execMov x1 x2 x3 s
  | .add x1 x2 x3 => Sys2Proof.Machine.execAdd x1 x2 x3 s
  | .adc x1 x2 x3 => Sys2Proof.Machine.execAdc x1 x2 x3 s
  | .sub x1 x2 x3 => Sys2Proof.Machine.execSub x1 x2 x3 s
  | .sbc x1 x2 x3 => Sys2Proof.Machine.execSbc x1 x2 x3 s
  | .sadd x1 x2 x3 => Sys2Proof.Machine.execSadd x1 x2 x3 s
  | .ssub x1 x2 x3 => Sys2Proof.Machine.execSsub x1 x2 x3 s
  | .uadd x1 x2 x3 => Sys2Proof.Machine.execUadd x1 x2 x3 s
  | .usub x1 x2 x3 => Sys2Proof.Machine.execUsub x1 x2 x3 s
  | .and x1 x2 x3 => Sys2Proof.Machine.execAnd x1 x2 x3 s
  | .or x1 x2 x3 => Sys2Proof.Machine.execOr x1 x2 x3 s
  | .xor x1 x2 x3 => Sys2Proof.Machine.execXor x1 x2 x3 s
  | .andn x1 x2 x3 => Sys2Proof.Machine.execAndn x1 x2 x3 s
  | .shl x1 x2 x3 => Sys2Proof.Machine.execShl x1 x2 x3 s
  | .shr x1 x2 x3 => Sys2Proof.Machine.execShr x1 x2 x3 s
  | .sar x1 x2 x3 => Sys2Proof.Machine.execSar x1 x2 x3 s
  | .ror x1 x2 x3 => Sys2Proof.Machine.execRor x1 x2 x3 s
  | .fshl x1 x2 x3 => Sys2Proof.Machine.execFshl x1 x2 x3 s
  | .fshr x1 x2 x3 => Sys2Proof.Machine.execFshr x1 x2 x3 s
  | .cmpeq x1 x2 x3 => Sys2Proof.Machine.execCmpeq x1 x2 x3 s
  | .cmplt x1 x2 x3 => Sys2Proof.Machine.execCmplt x1 x2 x3 s
  | .cmpltu x1 x2 x3 => Sys2Proof.Machine.execCmpltu x1 x2 x3 s
  | .min x1 x2 x3 => Sys2Proof.Machine.execMin x1 x2 x3 s
  | .max x1 x2 x3 => Sys2Proof.Machine.execMax x1 x2 x3 s
  | .minu x1 x2 x3 => Sys2Proof.Machine.execMinu x1 x2 x3 s
  | .maxu x1 x2 x3 => Sys2Proof.Machine.execMaxu x1 x2 x3 s
  | .sel x1 x2 x3 => Sys2Proof.Machine.execSel x1 x2 x3 s
  | .bsel x1 x2 x3 => Sys2Proof.Machine.execBsel x1 x2 x3 s
  | .tst x1 x2 x3 => Sys2Proof.Machine.execTst x1 x2 x3 s
  | .mul x1 x2 x3 => Sys2Proof.Machine.execMul x1 x2 x3 s
  | .mulw x1 x2 x3 => Sys2Proof.Machine.execMulw x1 x2 x3 s
  | .mulwu x1 x2 x3 => Sys2Proof.Machine.execMulwu x1 x2 x3 s
  | .dot4ss x1 x2 x3 => Sys2Proof.Machine.execDot4ss x1 x2 x3 s
  | .dot4uu x1 x2 x3 => Sys2Proof.Machine.execDot4uu x1 x2 x3 s
  | .dot4su x1 x2 x3 => Sys2Proof.Machine.execDot4su x1 x2 x3 s
  | .clmull x1 x2 x3 => Sys2Proof.Machine.execClmull x1 x2 x3 s
  | .clmulh x1 x2 x3 => Sys2Proof.Machine.execClmulh x1 x2 x3 s
  | .crcr8 x1 x2 x3 => Sys2Proof.Machine.execCrcr8 x1 x2 x3 s
  | .crcn8 x1 x2 x3 => Sys2Proof.Machine.execCrcn8 x1 x2 x3 s
  | .clz x1 x2 x3 => Sys2Proof.Machine.execClz x1 x2 x3 s
  | .popc x1 x2 x3 => Sys2Proof.Machine.execPopc x1 x2 x3 s
  | .bfx x1 x2 x3 => Sys2Proof.Machine.execBfx x1 x2 x3 s
  | .bfxs x1 x2 x3 => Sys2Proof.Machine.execBfxs x1 x2 x3 s
  | .bfi x1 x2 x3 => Sys2Proof.Machine.execBfi x1 x2 x3 s
  | .perm x1 x2 x3 => Sys2Proof.Machine.execPerm x1 x2 x3 s
  | .tcon x1 x2 x3 => Sys2Proof.Machine.execTcon x1 x2 x3 s
  | .temit x1 x2 x3 => Sys2Proof.Machine.execTemit x1 x2 x3 s
  | .ldc x1 x2 x3 => Sys2Proof.Machine.execLdc x1 x2 x3 s
  | .stc x1 x2 x3 => Sys2Proof.Machine.execStc x1 x2 x3 s
  | .rld x1 x2 x3 => Sys2Proof.Machine.execRld x1 x2 x3 s
  | .rst x1 x2 x3 => Sys2Proof.Machine.execRst x1 x2 x3 s
  | .rsp x1 x2 x3 => Sys2Proof.Machine.execRsp x1 x2 x3 s
  | .ldlc x1 x2 x3 => Sys2Proof.Machine.execLdlc x1 x2 x3 s
  | .getf x1 x2 x3 => Sys2Proof.Machine.execGetf x1 x2 x3 s
  | .setf x1 x2 x3 => Sys2Proof.Machine.execSetf x1 x2 x3 s
  | .psw x1 x2 x3 => Sys2Proof.Machine.execPsw x1 x2 x3 s
  | .tend x1 x2 x3 => Sys2Proof.Machine.execTend x1 x2 x3 s
  | .rldResponse x1 x2 => Sys2Proof.Machine.execRldResponse x1 x2 s
  | .taskStart x1 => Sys2Proof.Machine.execTaskStart x1 s
  | .taskWatchdog x1 => Sys2Proof.Machine.execTaskWatchdog x1 s
  | .commitPoint x1 => Sys2Proof.Machine.execCommitPoint x1 s
  | .drainStoreAck x1 => Sys2Proof.Machine.execDrainStoreAck x1 s
  | .drainTokenAccept x1 x2 => Sys2Proof.Machine.execDrainTokenAccept x1 x2 s
  | .tokenArrival x1 => Sys2Proof.Machine.execTokenArrival x1 s
  | .clrSticky x1 => Sys2Proof.Machine.execClrSticky x1 s
  | .clrFlow x1 => Sys2Proof.Machine.execClrFlow x1 s
  | .cancelToken x1 => Sys2Proof.Machine.execCancelToken x1 s
  | .errholdRelease => Sys2Proof.Machine.execErrholdRelease s
  | .mstSizeWrite x1 x2 => Sys2Proof.Machine.execMstSizeWrite x1 x2 s
  | .dispatchCycle => Sys2Proof.Machine.execDispatchCycle s
  | .loadUpdate => Sys2Proof.Machine.execLoadUpdate s
  | .fillGrant x1 => Sys2Proof.Machine.execFillGrant x1 s
  | .fillComplete x1 => Sys2Proof.Machine.execFillComplete x1 s
  | .contextRestoreEnd x1 x2 => Sys2Proof.Machine.execContextRestoreEnd x1 x2 s
  | .planeAgeStep => Sys2Proof.Machine.execPlaneAgeStep s
  | .pinEnable x1 x2 x3 => Sys2Proof.Machine.execPinEnable x1 x2 x3 s
  | .pinRelease x1 x2 x3 => Sys2Proof.Machine.execPinRelease x1 x2 x3 s
  | .planeSweep x1 => Sys2Proof.Machine.execPlaneSweep x1 s
  | .enqueue x1 x2 => Sys2Proof.Machine.execEnqueue x1 x2 s
  | .dequeue x1 => Sys2Proof.Machine.execDequeue x1 s
  | .queueRecordWrite x1 x2 => Sys2Proof.Machine.execQueueRecordWrite x1 x2 s
  | .flowPush x1 x2 => Sys2Proof.Machine.execFlowPush x1 x2 s
  | .flowPop x1 => Sys2Proof.Machine.execFlowPop x1 s
  | .flowOrdWrite x1 x2 => Sys2Proof.Machine.execFlowOrdWrite x1 x2 s
  | .flowWmqRead x1 => Sys2Proof.Machine.execFlowWmqRead x1 s
  | .packetHop x1 x2 x3 => Sys2Proof.Machine.execPacketHop x1 x2 x3 s
  | .urgencyStep x1 => Sys2Proof.Machine.execUrgencyStep x1 s
  | .bounceResend x1 => Sys2Proof.Machine.execBounceResend x1 s
  | .regAccess x1 x2 x3 x4 => Sys2Proof.Machine.execRegAccess x1 x2 x3 x4 s
  | .portDrainRequest x1 => Sys2Proof.Machine.execPortDrainRequest x1 s
  | .portDrainCancel x1 => Sys2Proof.Machine.execPortDrainCancel x1 s
  | .portDrained x1 x2 x3 => Sys2Proof.Machine.execPortDrained x1 x2 x3 s
  | .portDrainTo x1 x2 x3 => Sys2Proof.Machine.execPortDrainTo x1 x2 x3 s
  | .portWake x1 x2 x3 => Sys2Proof.Machine.execPortWake x1 x2 x3 s
  | .portReady x1 x2 x3 => Sys2Proof.Machine.execPortReady x1 x2 x3 s
  | .routerFreeze x1 => Sys2Proof.Machine.execRouterFreeze x1 s
  | .routerFrozen x1 x2 => Sys2Proof.Machine.execRouterFrozen x1 x2 s
  | .routerUnfreeze x1 => Sys2Proof.Machine.execRouterUnfreeze x1 s
  | .nocRcfgWrite x1 x2 => Sys2Proof.Machine.execNocRcfgWrite x1 x2 s
  | .cacheRequest x1 => Sys2Proof.Machine.execCacheRequest x1 s
  | .sectorFetchResponse x1 => Sys2Proof.Machine.execSectorFetchResponse x1 s
  | .cacheLockWrite x1 x2 => Sys2Proof.Machine.execCacheLockWrite x1 x2 s
  | .lockTransitionEnd x1 => Sys2Proof.Machine.execLockTransitionEnd x1 s
  | .cacheClean x1 => Sys2Proof.Machine.execCacheClean x1 s
  | .cacheInval x1 => Sys2Proof.Machine.execCacheInval x1 s
  | .cacheCleanInv x1 => Sys2Proof.Machine.execCacheCleanInv x1 s
  | .mopDone => Sys2Proof.Machine.execMopDone s
  | .spadRequest x1 => Sys2Proof.Machine.execSpadRequest x1 s
  | .spadAliasWrite x1 => Sys2Proof.Machine.execSpadAliasWrite x1 s
  | .spadBankWrite x1 x2 => Sys2Proof.Machine.execSpadBankWrite x1 x2 s
  | .mergeFlushTimeout x1 x2 => Sys2Proof.Machine.execMergeFlushTimeout x1 x2 s
  | .ceWriteback x1 => Sys2Proof.Machine.execCeWriteback x1 s
  | .garnetRead x1 => Sys2Proof.Machine.execGarnetRead x1 s
  | .garnetWrite x1 => Sys2Proof.Machine.execGarnetWrite x1 s
  | .garnetRowWriteout x1 x2 x3 => Sys2Proof.Machine.execGarnetRowWriteout x1 x2 x3 s
  | .garnetFence x1 => Sys2Proof.Machine.execGarnetFence x1 s
  | .fenceComplete => Sys2Proof.Machine.execFenceComplete s
  | .pwrFailFall => Sys2Proof.Machine.execPwrFailFall s
  | .pfDone => Sys2Proof.Machine.execPfDone s
  | .pwrFailRise => Sys2Proof.Machine.execPwrFailRise s
  | .scrubStart x1 => Sys2Proof.Machine.execScrubStart x1 s
  | .scrubStop => Sys2Proof.Machine.execScrubStop s
  | .scrubBlock => Sys2Proof.Machine.execScrubBlock s
  | .backgroundScrub x1 x2 => Sys2Proof.Machine.execBackgroundScrub x1 x2 s
  | .eccMbflush x1 => Sys2Proof.Machine.execEccMbflush x1 s
  | .retireEntryWrite x1 x2 => Sys2Proof.Machine.execRetireEntryWrite x1 x2 s
  | .marchStart x1 => Sys2Proof.Machine.execMarchStart x1 s
  | .marchDone x1 => Sys2Proof.Machine.execMarchDone x1 s
  | .ddrTrain => Sys2Proof.Machine.execDdrTrain s
  | .trainDone x1 => Sys2Proof.Machine.execTrainDone x1 s
  | .mr4Poll x1 => Sys2Proof.Machine.execMr4Poll x1 s
  | .ddrPowerDown x1 => Sys2Proof.Machine.execDdrPowerDown x1 s
  | .ddrSelfRefresh x1 => Sys2Proof.Machine.execDdrSelfRefresh x1 s
  | .regionCommit x1 x2 => Sys2Proof.Machine.execRegionCommit x1 x2 s
  | .regionInitDone x1 => Sys2Proof.Machine.execRegionInitDone x1 s
  | .kidAlloc x1 => Sys2Proof.Machine.execKidAlloc x1 s
  | .kidRetire x1 => Sys2Proof.Machine.execKidRetire x1 s
  | .kidFree x1 => Sys2Proof.Machine.execKidFree x1 s
  | .rekeyStart x1 => Sys2Proof.Machine.execRekeyStart x1 s
  | .rekeyDone => Sys2Proof.Machine.execRekeyDone s
  | .nokidRetry x1 => Sys2Proof.Machine.execNokidRetry x1 s
  | .sysInj x1 => Sys2Proof.Machine.execSysInj x1 s
  | .checkerReadback x1 => Sys2Proof.Machine.execCheckerReadback x1 s
  | .supvRestart => Sys2Proof.Machine.execSupvRestart s
  | .flintFix x1 x2 => Sys2Proof.Machine.execFlintFix x1 x2 s
  | .mzNop x1 x2 x3 => Sys2Proof.Machine.execMzNop x1 x2 x3 s
  | .mzPass x1 x2 x3 => Sys2Proof.Machine.execMzPass x1 x2 x3 s
  | .mzAdd x1 x2 x3 => Sys2Proof.Machine.execMzAdd x1 x2 x3 s
  | .mzAdc x1 x2 x3 => Sys2Proof.Machine.execMzAdc x1 x2 x3 s
  | .mzSub x1 x2 x3 => Sys2Proof.Machine.execMzSub x1 x2 x3 s
  | .mzSbc x1 x2 x3 => Sys2Proof.Machine.execMzSbc x1 x2 x3 s
  | .mzAnd x1 x2 x3 => Sys2Proof.Machine.execMzAnd x1 x2 x3 s
  | .mzOr x1 x2 x3 => Sys2Proof.Machine.execMzOr x1 x2 x3 s
  | .mzXor x1 x2 x3 => Sys2Proof.Machine.execMzXor x1 x2 x3 s
  | .mzShl x1 x2 x3 => Sys2Proof.Machine.execMzShl x1 x2 x3 s
  | .mzShr x1 x2 x3 => Sys2Proof.Machine.execMzShr x1 x2 x3 s
  | .mzSar x1 x2 x3 => Sys2Proof.Machine.execMzSar x1 x2 x3 s
  | .mzMul x1 x2 x3 => Sys2Proof.Machine.execMzMul x1 x2 x3 s
  | .mzMulh x1 x2 x3 => Sys2Proof.Machine.execMzMulh x1 x2 x3 s
  | .mzCmpeq x1 x2 x3 => Sys2Proof.Machine.execMzCmpeq x1 x2 x3 s
  | .mzCmplt x1 x2 x3 => Sys2Proof.Machine.execMzCmplt x1 x2 x3 s
  | .mzSel x1 x2 x3 => Sys2Proof.Machine.execMzSel x1 x2 x3 s
  | .mzMin x1 x2 x3 => Sys2Proof.Machine.execMzMin x1 x2 x3 s
  | .mzMax x1 x2 x3 => Sys2Proof.Machine.execMzMax x1 x2 x3 s
  | .hostBusRead x1 x2 => Sys2Proof.Machine.execHostBusRead x1 x2 s
  | .hostBusWrite x1 x2 x3 => Sys2Proof.Machine.execHostBusWrite x1 x2 x3 s
  | .cfgdWrite x1 x2 => Sys2Proof.Machine.execCfgdWrite x1 x2 s
  | .mzPad x1 x2 => Sys2Proof.Machine.execMzPad x1 x2 s
  | .mzIdent x1 x2 => Sys2Proof.Machine.execMzIdent x1 x2 s
  | .mzSeek x1 x2 => Sys2Proof.Machine.execMzSeek x1 x2 s
  | .mzFill x1 x2 => Sys2Proof.Machine.execMzFill x1 x2 s
  | .mzMode x1 x2 => Sys2Proof.Machine.execMzMode x1 x2 s
  | .mzIv x1 x2 => Sys2Proof.Machine.execMzIv x1 x2 s
  | .mzCheck x1 x2 => Sys2Proof.Machine.execMzCheck x1 x2 s
  | .mzRestart x1 x2 => Sys2Proof.Machine.execMzRestart x1 x2 s
  | .mzGo x1 x2 => Sys2Proof.Machine.execMzGo x1 x2 s
  | .mzFinish x1 x2 => Sys2Proof.Machine.execMzFinish x1 x2 s
  | .mzGsrRelease x1 => Sys2Proof.Machine.execMzGsrRelease x1 s
  | .mzProg x1 => Sys2Proof.Machine.execMzProg x1 s
  | .mailboxFormToken x1 x2 => Sys2Proof.Machine.execMailboxFormToken x1 x2 s
  | .mailboxPresent x1 x2 => Sys2Proof.Machine.execMailboxPresent x1 x2 s
  | .mailboxTake x1 x2 => Sys2Proof.Machine.execMailboxTake x1 x2 s
  | .mailboxDiscard x1 x2 => Sys2Proof.Machine.execMailboxDiscard x1 x2 s
  | .flintClkWrite x1 x2 => Sys2Proof.Machine.execFlintClkWrite x1 x2 s
  | .mailboxConfigWrite x1 x2 x3 => Sys2Proof.Machine.execMailboxConfigWrite x1 x2 x3 s
  | .porRelease x1 => Sys2Proof.Machine.execPorRelease x1 s
  | .sysResetRelease => Sys2Proof.Machine.execSysResetRelease s
  | .presetWait x1 => Sys2Proof.Machine.execPresetWait x1 s
  | .startStepDone x1 => Sys2Proof.Machine.execStartStepDone x1 s
  | .cfgLoad x1 x2 => Sys2Proof.Machine.execCfgLoad x1 x2 s
  | .loadCommit x1 => Sys2Proof.Machine.execLoadCommit x1 s
  | .cfgActivate x1 => Sys2Proof.Machine.execCfgActivate x1 s
  | .cfgRollback => Sys2Proof.Machine.execCfgRollback s
  | .cfgRestart x1 => Sys2Proof.Machine.execCfgRestart x1 s
  | .cfgAbort => Sys2Proof.Machine.execCfgAbort s
  | .cfgClrrej => Sys2Proof.Machine.execCfgClrrej s
  | .cfgConfirm x1 => Sys2Proof.Machine.execCfgConfirm x1 s
  | .confirmTimeout => Sys2Proof.Machine.execConfirmTimeout s
  | .sessionOpen x1 x2 => Sys2Proof.Machine.execSessionOpen x1 x2 s
  | .sessionSubmit x1 => Sys2Proof.Machine.execSessionSubmit x1 s
  | .sessionCancel x1 => Sys2Proof.Machine.execSessionCancel x1 s
  | .sessionExpired => Sys2Proof.Machine.execSessionExpired s
  | .grantedWrite x1 x2 x3 => Sys2Proof.Machine.execGrantedWrite x1 x2 x3 s
  | .programImageKeyE x1 x2 => Sys2Proof.Machine.execProgramImageKeyE x1 x2 s
  | .programImageKeyB x1 x2 => Sys2Proof.Machine.execProgramImageKeyB x1 x2 s
  | .programMzKey x1 x2 => Sys2Proof.Machine.execProgramMzKey x1 x2 s
  | .programSigningHash x1 x2 => Sys2Proof.Machine.execProgramSigningHash x1 x2 s
  | .revokeSigningHash x1 x2 => Sys2Proof.Machine.execRevokeSigningHash x1 x2 s
  | .secGenesis x1 x2 => Sys2Proof.Machine.execSecGenesis x1 x2 s
  | .enrolAuthority x1 x2 => Sys2Proof.Machine.execEnrolAuthority x1 x2 s
  | .revokeAuthority x1 x2 => Sys2Proof.Machine.execRevokeAuthority x1 x2 s
  | .fusePolicyWrite x1 x2 => Sys2Proof.Machine.execFusePolicyWrite x1 x2 s
  | .arbsetWrite x1 x2 => Sys2Proof.Machine.execArbsetWrite x1 x2 s
  | .rpolWrite x1 x2 => Sys2Proof.Machine.execRpolWrite x1 x2 s
  | .secScanen x1 x2 => Sys2Proof.Machine.execSecScanen x1 x2 s
  | .clockMonitorWindow x1 => Sys2Proof.Machine.execClockMonitorWindow x1 s
  | .clockNoEdge x1 => Sys2Proof.Machine.execClockNoEdge x1 s
  | .dawnCalibration x1 => Sys2Proof.Machine.execDawnCalibration x1 s
  | .zenithReady => Sys2Proof.Machine.execZenithReady s
  | .clkReturn => Sys2Proof.Machine.execClkReturn s
  | .clockGateClose x1 => Sys2Proof.Machine.execClockGateClose x1 s
  | .cgTimeout x1 => Sys2Proof.Machine.execCgTimeout x1 s
  | .clkObsWrite x1 => Sys2Proof.Machine.execClkObsWrite x1 s
  | .pwrReqAuto x1 => Sys2Proof.Machine.execPwrReqAuto x1 s
  | .pwrReqOn x1 => Sys2Proof.Machine.execPwrReqOn x1 s
  | .pwrReqOff x1 => Sys2Proof.Machine.execPwrReqOff x1 s
  | .pwrDselWrite x1 x2 => Sys2Proof.Machine.execPwrDselWrite x1 x2 s
  | .domainSwitchOff x1 => Sys2Proof.Machine.execDomainSwitchOff x1 s
  | .cirrusEntry x1 => Sys2Proof.Machine.execCirrusEntry x1 s
  | .stratusEntry x1 => Sys2Proof.Machine.execStratusEntry x1 s
  | .nimbusEntry x1 => Sys2Proof.Machine.execNimbusEntry x1 s
  | .clusterWake x1 => Sys2Proof.Machine.execClusterWake x1 s
  | .pwrOppWrite x1 x2 => Sys2Proof.Machine.execPwrOppWrite x1 x2 s
  | .oppTransition x1 => Sys2Proof.Machine.execOppTransition x1 s
  | .pwrCpolWrite x1 => Sys2Proof.Machine.execPwrCpolWrite x1 s
  | .thermalSample x1 x2 x3 => Sys2Proof.Machine.execThermalSample x1 x2 x3 s
  | .thermResume => Sys2Proof.Machine.execThermResume s
  | .brokenClear x1 => Sys2Proof.Machine.execBrokenClear x1 s
  | .thermtrip => Sys2Proof.Machine.execThermtrip s
  | .ageMeasurement x1 => Sys2Proof.Machine.execAgeMeasurement x1 s
  | .ageMeasure x1 => Sys2Proof.Machine.execAgeMeasure x1 s
  | .dataBlock x1 x2 x3 => Sys2Proof.Machine.execDataBlock x1 x2 x3 s
  | .laneIdle x1 => Sys2Proof.Machine.execLaneIdle x1 s
  | .laneSleep x1 => Sys2Proof.Machine.execLaneSleep x1 s
  | .laneStart x1 x2 => Sys2Proof.Machine.execLaneStart x1 x2 s
  | .laneTerm x1 x2 => Sys2Proof.Machine.execLaneTerm x1 x2 s
  | .laneXoff x1 => Sys2Proof.Machine.execLaneXoff x1 s
  | .laneXon x1 => Sys2Proof.Machine.execLaneXon x1 s
  | .laneDframe x1 x2 => Sys2Proof.Machine.execLaneDframe x1 x2 s
  | .laneDend x1 x2 => Sys2Proof.Machine.execLaneDend x1 x2 s
  | .laneMarker x1 x2 => Sys2Proof.Machine.execLaneMarker x1 x2 s
  | .rawEgressFrame x1 => Sys2Proof.Machine.execRawEgressFrame x1 s
  | .dalyelTransmit x1 => Sys2Proof.Machine.execDalyelTransmit x1 s
  | .dalyelResendTimeout x1 => Sys2Proof.Machine.execDalyelResendTimeout x1 s
  | .dalyelAckFrame x1 => Sys2Proof.Machine.execDalyelAckFrame x1 s
  | .hazeEntry x1 => Sys2Proof.Machine.execHazeEntry x1 s
  | .duskEntry x1 => Sys2Proof.Machine.execDuskEntry x1 s
  | .laneLcfgWrite x1 x2 => Sys2Proof.Machine.execLaneLcfgWrite x1 x2 s
  | .laneGrateWrite x1 x2 => Sys2Proof.Machine.execLaneGrateWrite x1 x2 s
  | .laneInj x1 => Sys2Proof.Machine.execLaneInj x1 s
  | .haloFrame x1 => Sys2Proof.Machine.execHaloFrame x1 s
  | .haloEnum => Sys2Proof.Machine.execHaloEnum s
  | .haloTime => Sys2Proof.Machine.execHaloTime s
  | .haloNomst => Sys2Proof.Machine.execHaloNomst s
  | .haloTxGo x1 => Sys2Proof.Machine.execHaloTxGo x1 s
  | .haloLost => Sys2Proof.Machine.execHaloLost s
  | .haloRxPop => Sys2Proof.Machine.execHaloRxPop s
  | .haloBoltGo => Sys2Proof.Machine.execHaloBoltGo s
  | .pcieMemRead x1 x2 x3 => Sys2Proof.Machine.execPcieMemRead x1 x2 x3 s
  | .pcieMemWrite x1 x2 x3 x4 => Sys2Proof.Machine.execPcieMemWrite x1 x2 x3 x4 s
  | .hostTimeout x1 x2 x3 => Sys2Proof.Machine.execHostTimeout x1 x2 x3 s
  | .perst => Sys2Proof.Machine.execPerst s
  | .functionLevelReset => Sys2Proof.Machine.execFunctionLevelReset s
  | .dmaTailWrite x1 x2 => Sys2Proof.Machine.execDmaTailWrite x1 x2 s
  | .dmaCopy x1 => Sys2Proof.Machine.execDmaCopy x1 s
  | .dmaTokin x1 => Sys2Proof.Machine.execDmaTokin x1 s
  | .dmaTokout x1 => Sys2Proof.Machine.execDmaTokout x1 s
  | .dmaDescriptorDone x1 => Sys2Proof.Machine.execDmaDescriptorDone x1 s
  | .dmaResume x1 => Sys2Proof.Machine.execDmaResume x1 s
  | .dmaSkip x1 => Sys2Proof.Machine.execDmaSkip x1 s
  | .dmaStop x1 => Sys2Proof.Machine.execDmaStop x1 s
  | .hpNativeRead x1 => Sys2Proof.Machine.execHpNativeRead x1 s
  | .hpNativeWrite x1 x2 => Sys2Proof.Machine.execHpNativeWrite x1 x2 s
  | .hpWindowComplete => Sys2Proof.Machine.execHpWindowComplete s
  | .hpWindowTimeout => Sys2Proof.Machine.execHpWindowTimeout s
  | .mirrorUpdate => Sys2Proof.Machine.execMirrorUpdate s
  | .hpPush x1 x2 => Sys2Proof.Machine.execHpPush x1 x2 s
  | .smbSetAddress x1 x2 => Sys2Proof.Machine.execSmbSetAddress x1 x2 s
  | .smbRead x1 => Sys2Proof.Machine.execSmbRead x1 s
  | .smbWrite x1 x2 => Sys2Proof.Machine.execSmbWrite x1 x2 s
  | .smbStatus => Sys2Proof.Machine.execSmbStatus s
  | .gpioDataWrite x1 x2 => Sys2Proof.Machine.execGpioDataWrite x1 x2 s
  | .gpioSet x1 x2 => Sys2Proof.Machine.execGpioSet x1 x2 s
  | .gpioClr x1 x2 => Sys2Proof.Machine.execGpioClr x1 x2 s
  | .gpioFoutWrite x1 x2 => Sys2Proof.Machine.execGpioFoutWrite x1 x2 s
  | .gpioFset x1 x2 => Sys2Proof.Machine.execGpioFset x1 x2 s
  | .gpioFclr x1 x2 => Sys2Proof.Machine.execGpioFclr x1 x2 s
  | .gpioFselWrite x1 x2 => Sys2Proof.Machine.execGpioFselWrite x1 x2 s
  | .gpioEventEdge x1 x2 => Sys2Proof.Machine.execGpioEventEdge x1 x2 s
  | .gpioHoldWrite x1 => Sys2Proof.Machine.execGpioHoldWrite x1 s
  | .strataRtcWrite x1 x2 => Sys2Proof.Machine.execStrataRtcWrite x1 x2 s
  | .statisticSample x1 x2 => Sys2Proof.Machine.execStatisticSample x1 x2 s
  | .checkpointTimer => Sys2Proof.Machine.execCheckpointTimer s
  | .strataCkpt => Sys2Proof.Machine.execStrataCkpt s
  | .strataClrrec x1 => Sys2Proof.Machine.execStrataClrrec x1 s
  | .strataClrstat x1 => Sys2Proof.Machine.execStrataClrstat x1 s
  | .boltIn => Sys2Proof.Machine.execBoltIn s
  | .snapBolt => Sys2Proof.Machine.execSnapBolt s
  | .boltLatch x1 => Sys2Proof.Machine.execBoltLatch x1 s
  | .snapRearm => Sys2Proof.Machine.execSnapRearm s
  | .bistTestStart x1 x2 => Sys2Proof.Machine.execBistTestStart x1 x2 s
  | .bistSignatureCheck x1 x2 => Sys2Proof.Machine.execBistSignatureCheck x1 x2 s
  | .bistInterrupt x1 => Sys2Proof.Machine.execBistInterrupt x1 s
  | .bistUnfence x1 x2 => Sys2Proof.Machine.execBistUnfence x1 x2 s
  | .bistTest x1 => Sys2Proof.Machine.execBistTest x1 s
  | .porAssert => Sys2Proof.Machine.execPorAssert s
  | .sysResetAssert => Sys2Proof.Machine.execSysResetAssert s
  | .ioResetAssert => Sys2Proof.Machine.execIoResetAssert s
  | .ioResetRelease => Sys2Proof.Machine.execIoResetRelease s
  | .supplyMonitorDrop x1 => Sys2Proof.Machine.execSupplyMonitorDrop x1 s
  | .clusterReset x1 => Sys2Proof.Machine.execClusterReset x1 s
  | .clwMdataRead x1 x2 => Sys2Proof.Machine.execClwMdataRead x1 x2 s
  | .mdataTimeout x1 x2 => Sys2Proof.Machine.execMdataTimeout x1 x2 s
  | .pairLowRead x1 x2 => Sys2Proof.Machine.execPairLowRead x1 x2 s
  | .pairLowWrite x1 x2 x3 => Sys2Proof.Machine.execPairLowWrite x1 x2 x3 s
  | .pairHighWrite x1 x2 x3 => Sys2Proof.Machine.execPairHighWrite x1 x2 x3 s
  | .registerWrite x1 x2 x3 => Sys2Proof.Machine.execRegisterWrite x1 x2 x3 s
  | .vppSlateReturn => Sys2Proof.Machine.execVppSlateReturn s
  | .aonSupplyLoss => Sys2Proof.Machine.execAonSupplyLoss s
  | .pcieLinkChange x1 x2 x3 => Sys2Proof.Machine.execPcieLinkChange x1 x2 x3 s
  | .hostCompletion x1 x2 x3 => Sys2Proof.Machine.execHostCompletion x1 x2 x3 s
  | .completionTimeout x1 => Sys2Proof.Machine.execCompletionTimeout x1 s
  | .prbsReceive x1 x2 => Sys2Proof.Machine.execPrbsReceive x1 x2 s
  | .rawEgressEmptyTimeout x1 => Sys2Proof.Machine.execRawEgressEmptyTimeout x1 s
  | .supvRestartDone => Sys2Proof.Machine.execSupvRestartDone s
  | .jtagInstruction x1 => Sys2Proof.Machine.execJtagInstruction x1 s
  | .refreshInterval x1 => Sys2Proof.Machine.execRefreshInterval x1 s

end Sys2Proof.Machine
end

