-- ==== Sys2Proof/Machine/Step.lean ====
section
/-! DEFINITION. One step: the command at the front of the queue runs with the queue's rest; an empty queue lets time pass. -/

namespace Sys2Proof.Machine

/-- Take the command at the front; on an empty queue one RTCK edge passes, with the BOLTs it brings (log entry 1), and a re-key under way passes one page
(R294, log entry 109); links offer the tokens they hold to their sinks (R460, R463). -/
def step (s : State) : Host.Outcome State Fault Refusal :=
  match s.pending with
  | [] => .next s.edge.rekeyPage.linksRetry
  | c :: rest => exec c { s with pending := rest }

/-- `s` with the command a word spells at the front of its queue: unchanged, since no word spells one. -/
def State.withFetchWord (s : State) (nbits w : Nat) : State :=
  match decodeTableWord nbits w with
  | some c => { s with pending := c :: s.pending }
  | none => s

end Sys2Proof.Machine
end

