-- ==== Sys2Proof/Safety.lean ====
section
/-! DEFINITION. The terms claims are stated in: a command that completes, what a step leaves alone, and the conditions on the state under which
the commands of a family have their own effect. -/

namespace Sys2Proof.Safety

open Sys2Proof.Machine

/-- The command completes: it answers a next state, and that state satisfies `P`. -/
def Completes (i : Instr) (s : State) (P : State → Prop) : Prop := ∃ t, exec i s = .next t ∧ P t

/-- The command of a cell of cluster `c` completes: its effect gives a state that satisfies `P`, and the last cell of the last issue cycle then ends
that cycle (R70). -/
def CellEnds (i : Instr) (s : State) (c : Nat) (P : State → Prop) : Prop := ∃ u : State, exec i s = .next (u.closeOn c) ∧ P u

/-- Every register reads as before, but those of `as`. -/
def RegsKept (as : List Nat) (s t : State) : Prop := ∀ a, a ∉ as → t.rd a = s.rd a

/-- A row of the opcode table of the cells (R52): the code, the role of XT, whether the destination is a pair (R43), whether it is a DOT4 (R49),
whether it takes the carry-in of the chain (R56), and the command. -/
structure CellRow where
  op : Nat
  role : XtRole
  wide : Bool
  dot : Bool
  chain : Bool
  cmd : Nat → Nat → Micro → Instr

/-- The operations of R52 that read their sources and write their cell only. -/
def cellRows : List CellRow :=
  [⟨0x00, .imm, false, false, false, .nop⟩, ⟨0x01, .imm, false, false, false, .mov⟩, ⟨0x02, .lane, false, false, false, .add⟩,
   ⟨0x03, .imm, false, false, true, .adc⟩, ⟨0x04, .lane, false, false, false, .sub⟩, ⟨0x05, .imm, false, false, true, .sbc⟩,
   ⟨0x06, .lane, false, false, false, .sadd⟩, ⟨0x07, .lane, false, false, false, .ssub⟩, ⟨0x08, .lane, false, false, false, .uadd⟩,
   ⟨0x09, .lane, false, false, false, .usub⟩, ⟨0x0A, .imm, false, false, false, .and⟩, ⟨0x0B, .imm, false, false, false, .or⟩,
   ⟨0x0C, .imm, false, false, false, .xor⟩, ⟨0x0D, .imm, false, false, false, .andn⟩, ⟨0x0E, .imm, false, false, false, .shl⟩,
   ⟨0x0F, .imm, false, false, false, .shr⟩, ⟨0x10, .imm, false, false, false, .sar⟩, ⟨0x11, .imm, false, false, false, .ror⟩,
   ⟨0x12, .src3, false, false, false, .fshl⟩, ⟨0x13, .src3, false, false, false, .fshr⟩] ++
  [⟨0x14, .lane, false, false, false, .cmpeq⟩, ⟨0x15, .lane, false, false, false, .cmplt⟩, ⟨0x16, .lane, false, false, false, .cmpltu⟩,
   ⟨0x17, .lane, false, false, false, .min⟩, ⟨0x18, .lane, false, false, false, .max⟩, ⟨0x19, .lane, false, false, false, .minu⟩,
   ⟨0x1A, .lane, false, false, false, .maxu⟩, ⟨0x1B, .imm, false, false, false, .sel⟩, ⟨0x1C, .src3, false, false, false, .bsel⟩,
   ⟨0x1D, .imm, false, false, false, .tst⟩, ⟨0x1E, .imm, false, false, false, .mul⟩, ⟨0x1F, .imm, true, false, false, .mulw⟩,
   ⟨0x20, .imm, true, false, false, .mulwu⟩, ⟨0x21, .src3, false, true, false, .dot4ss⟩, ⟨0x22, .src3, false, true, false, .dot4uu⟩,
   ⟨0x23, .src3, false, true, false, .dot4su⟩, ⟨0x24, .imm, false, false, false, .clmull⟩, ⟨0x25, .imm, false, false, false, .clmulh⟩,
   ⟨0x26, .src3, false, false, false, .crcr8⟩, ⟨0x27, .src3, false, false, false, .crcn8⟩, ⟨0x28, .imm, false, false, false, .clz⟩,
   ⟨0x29, .imm, false, false, false, .popc⟩, ⟨0x2A, .src3, false, false, false, .bfx⟩, ⟨0x2B, .src3, false, false, false, .bfxs⟩,
   ⟨0x2C, .src3, false, false, false, .bfi⟩, ⟨0x2D, .src3, false, false, false, .perm⟩, ⟨0x35, .imm, false, false, false, .ldlc⟩,
   ⟨0x36, .imm, false, false, false, .getf⟩, ⟨0x37, .imm, false, false, false, .setf⟩]

/-- The operations of R52 that reach beyond their cell. -/
def portRows : List CellRow :=
  [⟨0x2E, .field 0x1F#5, false, false, false, .tcon⟩, ⟨0x2F, .field 0x0F#5, false, false, false, .temit⟩,
   ⟨0x30, .imm, false, false, false, .ldc⟩, ⟨0x31, .src3, false, false, false, .stc⟩, ⟨0x32, .field 0x0F#5, false, false, false, .rld⟩,
   ⟨0x33, .src3, false, false, false, .rst⟩, ⟨0x34, .field 0x0F#5, false, false, false, .rsp⟩, ⟨0x39, .imm, false, false, false, .tend⟩]

/-- Cell `k` of cluster `c` has OP with the fields `m` to issue: the cluster runs an instance that issues, the executing plane holds the
microinstruction at IR[SQ] of an active cell (R39, R64, R70), no cell after it has issued in the open cycle, and no parity bit of what the instance
issues from disagrees (R307, R309). -/
def CellHere (s : State) (c k op : Nat) (m : Micro) : Prop :=
  c < 1024 ∧ k < 32 ∧ s.gsr = false ∧ (∀ j, (s.cluster c).last = some j → j < k) ∧
  (∃ x, s.runInst c = some x ∧ (x.st = .running ∨ x.st = .ending)) ∧
  cellActive (s.ctrlWord c (s.cluster c).plane k) = true ∧
  s.cellWord c (s.cluster c).plane k ((s.cell c k).pl (s.cluster c).plane).sq.toNat = Micro.word op m ∧
  s.parityRaises c = []

/-- It is the turn of the cell to issue: beside that, no cell stalls the cycle (R50, R51), and no operation of the cycle aborts the instance (R304). -/
def CellTurn (s : State) (c k op : Nat) (m : Micro) : Prop := CellHere s c k op m ∧ s.waiting c = none ∧ s.opRaises c = []

/-- The microinstruction is one the loader accepts (R41-R43, R54, R56, R66). -/
def CellLegal (s : State) (r : CellRow) (c k : Nat) (m : Micro) : Prop :=
  Micro.ok m r.role r.wide = true ∧ (r.chain = true → chMode (s.ctrlWord c (s.cluster c).plane k) ≠ 3)

/-- The predicate of the microinstruction holds on the flags at the start of the cycle (R44). -/
def CellOn (s : State) (c k : Nat) (m : Micro) : Prop := predHolds m.pred ((s.cell c k).pl (s.cluster c).plane).fl = true

/-- The command of the row with OP and role given, issued in its turn, writes what `f` makes of its operands, and does nothing else; the last cell of
the last issue cycle ends that cycle (R70). -/
def CellDoes (op : Nat) (role : XtRole) (wide dot chain : Bool) (cmd : Nat → Nat → Micro → Instr) (f : Opnds → Micro → Alu) : Prop :=
  ∀ s c k m, CellTurn s c k op m → CellLegal s ⟨op, role, wide, dot, chain, cmd⟩ c k m → CellOn s c k m →
    exec (cmd c k m) s = .next ((s.doIssue c k m (s.opnds c k m dot) (f (s.opnds c k m dot) m)).closeOn c)

/-- What L register `n` of plane `p` holds once a latency-2 result on its way has landed (R43, R46). -/
def landedL (x : Cell) (p n : Nat) : Word :=
  match x.pend with
  | some w =>
    if w.plane = p ∧ w.dst.toNat < 16 ∧ n = w.dst.toNat then w.lo
    else match w.hi with
      | some hi => if w.plane = p ∧ w.dst.toNat < 15 ∧ n = w.dst.toNat + 1 then hi else smGet 0 (x.pl p).l n
      | none => smGet 0 (x.pl p).l n
  | none => smGet 0 (x.pl p).l n

/-- Flags of a one-lane sum with exact value `u` unsigned and `i` signed (R53): C is the carry (no borrow), V signed overflow. -/
def sumFlags (c : Bool) (i : Int) (r : Word) : FlagUpd :=
  { c := some c, v := some (decide (i < -(2 ^ 31)) || decide (2 ^ 31 ≤ i)), n := some (r.getLsbD 31), z := some (decide (r = 0)) }

/-- It is the turn of a cell of a Flint part to issue an operation (R325, R327): the part runs, no cell after it has issued in the open cycle,
and its configured entry at its step counter has the code and the fields given. -/
def MzTurn (s : State) (p cell op : Nat) (e : MzEntry) : Prop :=
  p < 4 ∧ s.partOn p = true ∧ (s.part p).run = true ∧ s.mzStopped = false ∧ cell < 10 * s.mzCols p ∧
  (∀ j, (s.part p).last = some j → j < cell) ∧ mzAgrees e op ((s.part p).entry cell) = true

/-- The operation of a code, issued in its turn, gives its cell the result and carry that `f` makes of its operands and the carry at the start of the
cycle, steps it, places the result on its line with LDE, and changes nothing else (R324-R329). -/
def MzDoes (op : Nat) (cmd : Nat → Nat → MzEntry → Instr) (f : Half → Half → Bool → Option Half × Option Bool) : Prop :=
  ∀ s p cell e, MzTurn s p cell op e →
    let c := smGet MzCell.zero (s.part p).cells cell
    let r := f (s.mzOperand p cell e.sa e.imm) (s.mzOperand p cell e.sb e.imm) c.c
    Completes (cmd p cell e) s (fun t =>
      smGet MzCell.zero (t.part p).cells cell =
        { sc := mzNext e.next c.sc c.c, o := r.1.getD c.o, see := c.see, acc := if e.wacc then r.1.getD c.acc else c.acc, c := r.2.getD c.c } ∧
      (∀ j, j ≠ cell → smGet MzCell.zero (t.part p).cells j = smGet MzCell.zero (s.part p).cells j) ∧
      ((e.lde = false ∨ r.1 = none) → (t.part p).put = (s.part p).put) ∧
      t.part p = { s.part p with cells := (t.part p).cells, put := (t.part p).put, last := some cell } ∧
      (∀ q, q < 4 → q ≠ p → t.part q = s.part q) ∧ t = { s with flint := t.flint })

/-- Lane `l` is a link of its own that is UP, Dalyel or raw, its lane is locked and takes its blocks as they come (R448, R449, R453). -/
def LaneAlone (s : State) (l : Nat) (dal : Bool) : Prop :=
  l < 48 ∧ s.laneDeaf l = false ∧ s.linkOf l = some l ∧ s.width l = 1 ∧ s.dataSlots l = 1 ∧ s.dalyel l = dal ∧ (s.link l).st = 3 ∧ (s.link l).ptr = 0 ∧
  (s.lane l).lock = true ∧ (s.lane l).hist = 0 ∧ (s.lane l).slot = 0 ∧ (s.lane l).laneid ≠ none ∧ (s.lane l).fifo = []

/-- A block is not the one at which a marker is due (R451, R453), nor a marker received inverted (R452). -/
def NotMarker (s : State) (l : Nat) (hdr : BitVec 2) (w : DWord) : Prop :=
  ((s.lane l).mseq ≠ none → (s.lane l).since + 1 ≠ s.amPeriod l) ∧ (hdr = 2 → (s.lane l).polinv = false → invMarker w = true → (s.lane l).mseq ≠ none)

/-- A lane after a block with a good header that is no marker. -/
def laneAfter (x : Lane) (w : DWord) (pwr : BitVec 2) : Lane :=
  { x with good := Nat.min 64 (x.good + 1), since := x.since + 1, bip := bipOf x.bip w, pwr := pwr }

/-- The block given by command `i` is taken by lane `l`, which it leaves as said, and turns its link into `y`; no other lane or link changes. -/
def LaneTakes (i : Instr) (s : State) (l : Nat) (x : Lane) (y : Link) (P : State → Prop) : Prop :=
  Completes i s (fun t => t.lane l = x ∧ t.link l = y ∧ (∀ m, m ≠ l → t.lane m = s.lane m ∧ t.link m = s.link m) ∧ P t)

/-- An access of an interface reaches the register at an address (R8, R24, R33, R35, R209, R386): the gate lets it pass, the address is aligned and no
memory, the network carries its packet and the answer, the block is awake. -/
def Reaches (s : State) (i : Iface) (a : Nat) : Prop :=
  s.accessGate i a = none ∧ isMem a = false ∧ a % 4 = 0 ∧ s.regHeld i a = false ∧ s.windowDark i a = false

/-- The last answer an interface received. -/
def ansOf (s : State) (i : Iface) : Answer := smGet Answer.none s.ifc.ans (ifCode i)

/-- No token waits at an input of the matching store (port 3) or of the queue engine (port 4) (R139, R179). -/
def InputsFree (s : State) (port : Nat) : Prop := ∀ i, i < 16 → s.inputTok ⟨2, 8 * i + 6, port⟩ = none

/-- The state after a token that came alone to its input of the matching store: that input was the first one judged (R139, log entry 88). -/
def judgedAt (t : Token) (u : State) : State := { u with mst := { u.mst with first := t.flow.toNat % 16 } }

/-- A 32-bit counter after one more event: it holds at its largest value (R190). -/
def plusOne (w : Word) : Word := if w.toNat + 1 ≥ 2 ^ 32 - 1 then 0xFFFFFFFF#32 else w + 1

end Sys2Proof.Safety

namespace Sys2Proof.Machine

/-- The memories are in the canonical form: addresses strictly rising and no entry equal to what its address reads as unlisted: zero, but a
free value in a scratchpad bank whose contents were lost (log entry 4). -/
def Memory.wf (s : State) : Bool :=
  smWf 0 s.cache.arr && smWf 0 s.garnet.arr && smWf 0 s.ddr.dram && smWf 0 s.ddr.chk &&
  (smSorted s.spad.arr && s.spad.arr.all (fun e => decide (e.2 ≠ s.spad.dflt e.1))) &&
  s.clusters.all (fun e => smWf 0 e.2.mem)

end Sys2Proof.Machine
end

