-- ==== Sys2Proof/Certificates/Slice0/Obligations.lean ====
section
/-! DEFINITION. The statements for the provers, each a proposition about the model. The docstrings name the rules of spec/ the statement speaks of. -/

open Sys2Proof Sys2Proof.Machine Sys2Proof.Safety

/-! Cells (R39-R57) -/

/-- R52, R53: moves, logic, shifts and rotates: N and Z of the result, C the last bit shifted out, left by a shift of 0. -/
def Obligations.CellMovesLogicShifts : Prop :=
  CellDoes 0x00 .imm false false false .nop (fun _ _ => {}) ∧
  CellDoes 0x01 .imm false false false .mov (fun o _ => { lo := some o.a, fl := { n := some (o.a.getLsbD 31), z := some (decide (o.a = 0)) } }) ∧
  CellDoes 0x0A .imm false false false .and (fun o _ => { lo := some (o.a &&& o.b), fl := { n := some (o.a.getLsbD 31 && o.b.getLsbD 31), z := some (decide (o.a &&& o.b = 0)) } }) ∧
  CellDoes 0x0B .imm false false false .or (fun o _ => { lo := some (o.a ||| o.b), fl := { n := some (o.a.getLsbD 31 || o.b.getLsbD 31), z := some (decide (o.a ||| o.b = 0)) } }) ∧
  CellDoes 0x0C .imm false false false .xor (fun o _ => { lo := some (o.a ^^^ o.b), fl := { n := some (o.a.getLsbD 31 ^^ o.b.getLsbD 31), z := some (decide (o.a = o.b)) } }) ∧
  CellDoes 0x0D .imm false false false .andn (fun o _ => { lo := some (o.a &&& ~~~o.b), fl := { n := some (o.a.getLsbD 31 && !o.b.getLsbD 31), z := some (decide (o.a &&& ~~~o.b = 0)) } }) ∧
  CellDoes 0x0E .imm false false false .shl (fun o _ =>
    let n := (o.b &&& 31#32).toNat
    { lo := some (o.a <<< n), fl := { c := if n = 0 then none else some (o.a.getLsbD (32 - n)), n := some ((o.a <<< n).getLsbD 31), z := some (decide (o.a <<< n = 0)) } }) ∧
  CellDoes 0x0F .imm false false false .shr (fun o _ =>
    let n := (o.b &&& 31#32).toNat
    { lo := some (o.a >>> n), fl := { c := if n = 0 then none else some (o.a.getLsbD (n - 1)), n := some ((o.a >>> n).getLsbD 31), z := some (decide (o.a >>> n = 0)) } }) ∧
  CellDoes 0x10 .imm false false false .sar (fun o _ =>
    let n := (o.b &&& 31#32).toNat
    { lo := some (o.a.sshiftRight n), fl := { c := if n = 0 then none else some (o.a.getLsbD (n - 1)), n := some (o.a.getLsbD 31), z := some (decide (o.a.sshiftRight n = 0)) } }) ∧
  CellDoes 0x11 .imm false false false .ror (fun o _ =>
    let r := o.a.rotateRight (o.b &&& 31#32).toNat
    { lo := some r, fl := { n := some (r.getLsbD 31), z := some (decide (o.a = 0)) } }) ∧
  CellDoes 0x12 .src3 false false false .fshl (fun o _ =>
    let r : Word := (((o.a ++ o.b) : BitVec 64) <<< (o.x &&& 31#32).toNat).extractLsb' 32 32
    { lo := some r, fl := { n := some (r.getLsbD 31), z := some (decide (r = 0)) } }) ∧
  CellDoes 0x13 .src3 false false false .fshr (fun o _ =>
    let r : Word := (((o.a ++ o.b) : BitVec 64) >>> (o.x &&& 31#32).toNat).extractLsb' 0 32
    { lo := some r, fl := { n := some (r.getLsbD 31), z := some (decide (r = 0)) } })

/-- R52, R53, R56, R57: sums and differences. In one-lane form the flags are those of the exact sum and the carry-out is C; in the 16-bit and 8-bit
forms each lane wraps by itself, C and V stay and the carry-out is 0. The saturating operations clamp each lane to its range, set S when a lane saturates
and never clear it. -/
def Obligations.CellSumsAndSaturation : Prop :=
  ((∀ s c k m, CellTurn s c k 0x02 m → CellLegal s ⟨0x02, .lane, false, false, false, .add⟩ c k m → CellOn s c k m →
    let o := s.opnds c k m false
    ∃ v : Word, (∀ i, i < 32 / laneWidth m.xt → laneU (laneWidth m.xt) i v = (laneU (laneWidth m.xt) i o.a + laneU (laneWidth m.xt) i o.b) % 2 ^ laneWidth m.xt) ∧
      let r : Alu := if m.xt = 0 then { lo := some v, fl := sumFlags (decide (2 ^ 32 ≤ o.a.toNat + o.b.toNat)) (o.a.toInt + o.b.toInt) v, carry := decide (2 ^ 32 ≤ o.a.toNat + o.b.toNat) }
        else { lo := some v, fl := { n := some (v.getLsbD 31), z := some (decide (v = 0)) } }
      exec (.add c k m) s = .next ((s.doIssue c k m o r).closeOn c)) ∧
  (∀ s c k m, CellTurn s c k 0x04 m → CellLegal s ⟨0x04, .lane, false, false, false, .sub⟩ c k m → CellOn s c k m →
    let o := s.opnds c k m false
    ∃ v : Word, (∀ i, i < 32 / laneWidth m.xt → laneU (laneWidth m.xt) i v = (laneU (laneWidth m.xt) i o.a + 2 ^ laneWidth m.xt - laneU (laneWidth m.xt) i o.b) % 2 ^ laneWidth m.xt) ∧
      let r : Alu := if m.xt = 0 then { lo := some v, fl := sumFlags (decide (o.b.toNat ≤ o.a.toNat)) (o.a.toInt - o.b.toInt) v, carry := decide (o.b.toNat ≤ o.a.toNat) }
        else { lo := some v, fl := { n := some (v.getLsbD 31), z := some (decide (v = 0)) } }
      exec (.sub c k m) s = .next ((s.doIssue c k m o r).closeOn c)) ∧
  CellDoes 0x03 .imm false false true .adc (fun o _ =>
    let k := o.a.toNat + o.b.toNat + Bool.bit o.cin
    { lo := some (BitVec.ofNat 32 k), fl := sumFlags (decide (2 ^ 32 ≤ k)) (o.a.toInt + o.b.toInt + (Bool.bit o.cin : Nat)) (BitVec.ofNat 32 k), carry := decide (2 ^ 32 ≤ k) }) ∧
  CellDoes 0x05 .imm false false true .sbc (fun o _ =>
    let v := o.a - o.b - (if o.cin then 0 else 1)
    let noBorrow := decide (o.b.toNat + (if o.cin then 0 else 1) ≤ o.a.toNat)
    { lo := some v, fl := sumFlags noBorrow (o.a.toInt - o.b.toInt - (if o.cin then 0 else 1)) v, carry := noBorrow })) ∧
  (let sat (signed : Bool) (w : Nat) (e : Int) : Int :=
    if signed then max (-(2 ^ (w - 1))) (min (2 ^ (w - 1) - 1) e) else max 0 (min (2 ^ w - 1) e)
  let num (signed : Bool) (w n : Nat) : Int := if signed then (BitVec.ofNat w n).toInt else (n : Int)
  let does (op : Nat) (signed sub : Bool) (cmd : Nat → Nat → Micro → Instr) : Prop :=
    ∀ s c k m, CellTurn s c k op m → CellLegal s ⟨op, .lane, false, false, false, cmd⟩ c k m → CellOn s c k m →
      let o := s.opnds c k m false
      let w := laneWidth m.xt
      let sum (i : Nat) : Int := if sub then num signed w (laneU w i o.a) - num signed w (laneU w i o.b) else num signed w (laneU w i o.a) + num signed w (laneU w i o.b)
      ∃ v : Word, (∀ i, i < 32 / w → num signed w (laneU w i v) = sat signed w (sum i)) ∧
        exec (cmd c k m) s = .next ((s.doIssue c k m o { lo := some v, fl := { n := some (v.getLsbD 31), z := some (decide (v = 0)), s := if (List.range (32 / w)).any (fun i => decide (sat signed w (sum i) ≠ sum i)) then some true else none } }).closeOn c)
  does 0x06 true false .sadd ∧ does 0x07 true true .ssub ∧ does 0x08 false false .uadd ∧ does 0x09 false true .usub)


/-- R52, R53: compares give all ones or zero per lane and P when a lane is true; minima and maxima pick a lane of SA or SB; SEL, BSEL and TST. -/
def Obligations.CellComparesAndPicks : Prop :=
  let cmp (op : Nat) (cmd : Nat → Nat → Micro → Instr) (f : (w : Nat) → BitVec w → BitVec w → Bool) : Prop :=
    ∀ s c k m, CellTurn s c k op m → CellLegal s ⟨op, .lane, false, false, false, cmd⟩ c k m → CellOn s c k m →
      let o := s.opnds c k m false
      let w := laneWidth m.xt
      let hit (i : Nat) : Bool := f w (BitVec.ofNat w (laneU w i o.a)) (BitVec.ofNat w (laneU w i o.b))
      ∃ v : Word, (∀ i, i < 32 / w → laneU w i v = if hit i then 2 ^ w - 1 else 0) ∧
        exec (cmd c k m) s = .next ((s.doIssue c k m o { lo := some v, fl := { p := some ((List.range (32 / w)).any hit) } }).closeOn c)
  let pick (op : Nat) (cmd : Nat → Nat → Micro → Instr) (f : (w : Nat) → BitVec w → BitVec w → Bool) : Prop :=
    ∀ s c k m, CellTurn s c k op m → CellLegal s ⟨op, .lane, false, false, false, cmd⟩ c k m → CellOn s c k m →
      let o := s.opnds c k m false
      let w := laneWidth m.xt
      ∃ v : Word, (∀ i, i < 32 / w → laneU w i v =
          if f w (BitVec.ofNat w (laneU w i o.a)) (BitVec.ofNat w (laneU w i o.b)) then laneU w i o.a else laneU w i o.b) ∧
        exec (cmd c k m) s = .next ((s.doIssue c k m o { lo := some v, fl := { n := some (v.getLsbD 31), z := some (decide (v = 0)) } }).closeOn c)
  cmp 0x14 .cmpeq (fun _ x y => decide (x = y)) ∧ cmp 0x15 .cmplt (fun _ x y => x.slt y) ∧ cmp 0x16 .cmpltu (fun _ x y => x.ult y) ∧
  pick 0x17 .min (fun _ x y => x.slt y) ∧ pick 0x18 .max (fun _ x y => y.slt x) ∧ pick 0x19 .minu (fun _ x y => x.ult y) ∧ pick 0x1A .maxu (fun _ x y => y.ult x) ∧
  CellDoes 0x1B .imm false false false .sel (fun o _ => { lo := some (if o.f.p then o.a else o.b) }) ∧
  CellDoes 0x1C .src3 false false false .bsel (fun o _ => { lo := some ((o.a &&& o.x) ||| (o.b &&& ~~~o.x)) }) ∧
  CellDoes 0x1D .imm false false false .tst (fun o _ =>
    { lo := some (o.a &&& o.b), fl := { p := some (decide (o.a &&& o.b ≠ 0)), z := some (decide (o.a &&& o.b = 0)) } })

/-- R43, R46, R52, R53: products, DOT4 and carry-less products, of latency 2. -/
def Obligations.CellProducts : Prop :=
  let dot (op : Nat) (cmd : Nat → Nat → Micro → Instr) (va vb : BitVec 8 → Int) : Prop :=
    CellDoes op .src3 false true false cmd (fun o _ =>
      let term (i : Nat) : Int := va (o.a.extractLsb' (8 * i) 8) * vb (o.b.extractLsb' (8 * i) 8)
      { lo := some (o.x + BitVec.ofInt 32 (term 0 + term 1 + term 2 + term 3)), late := true, dot4 := true })
  let clm (op : Nat) (cmd : Nat → Nat → Micro → Instr) (base : Nat) : Prop :=
    ∀ s c k m, CellTurn s c k op m → CellLegal s ⟨op, .imm, false, false, false, cmd⟩ c k m → CellOn s c k m →
      let o := s.opnds c k m false
      ∃ v : Word, (∀ i, i < 32 → v.getLsbD i =
          decide (((List.range 32).filter (fun j => o.b.getLsbD j && decide (j ≤ base + i) && o.a.getLsbD (base + i - j))).length % 2 = 1)) ∧
        exec (cmd c k m) s = .next ((s.doIssue c k m o { lo := some v, fl := { z := some (decide (v = 0)) }, late := true }).closeOn c)
  CellDoes 0x1E .imm false false false .mul (fun o _ =>
    { lo := some (BitVec.ofNat 32 (o.a.toNat * o.b.toNat)), fl := { n := some ((o.a * o.b).getLsbD 31), z := some (decide (o.a * o.b = 0)) }, late := true }) ∧
  CellDoes 0x1F .imm true false false .mulw (fun o _ =>
    let r : BitVec 64 := BitVec.ofInt 64 (o.a.toInt * o.b.toInt)
    { lo := some (r.extractLsb' 0 32), hi := some (r.extractLsb' 32 32), fl := { n := some (r.getLsbD 63), z := some (decide (o.a = 0 ∨ o.b = 0)) }, late := true }) ∧
  CellDoes 0x20 .imm true false false .mulwu (fun o _ =>
    let r : BitVec 64 := BitVec.ofNat 64 (o.a.toNat * o.b.toNat)
    { lo := some (r.extractLsb' 0 32), hi := some (r.extractLsb' 32 32), fl := { n := some (r.getLsbD 63), z := some (decide (o.a = 0 ∨ o.b = 0)) }, late := true }) ∧
  dot 0x21 .dot4ss (fun x => x.toInt) (fun x => x.toInt) ∧ dot 0x22 .dot4uu (fun x => (x.toNat : Int)) (fun x => (x.toNat : Int)) ∧
  dot 0x23 .dot4su (fun x => x.toInt) (fun x => (x.toNat : Int)) ∧
  clm 0x24 .clmull 0 ∧ clm 0x25 .clmulh 32

/-- R52, R53, R55: CRC steps, counts, bit fields, the byte permute, LDLC and the flags word. -/
def Obligations.CellBitsAndFlags : Prop :=
  let step8 (f : Word → Word) (r : Word) : Word := f (f (f (f (f (f (f (f r)))))))
  let pos (x : Word) : Nat := (x &&& 31#32).toNat
  let wid (x : Word) : Nat := ((x >>> 5) &&& 31#32).toNat + 1
  let byte (i : Nat) (a : Word) : BitVec 8 := a.extractLsb' (8 * i) 8
  let pick (o : Opnds) (i : Nat) : BitVec 8 :=
    let n := (o.x.extractLsb' (4 * i) 4).toNat
    if n < 4 then byte n o.a else if n < 8 then byte (n - 4) o.b else 0
  CellDoes 0x26 .src3 false false false .crcr8 (fun o _ =>
    let r := step8 (fun r => if r.getLsbD 0 then (r >>> 1) ^^^ o.x else r >>> 1) (o.a ^^^ (o.b &&& 0xFF#32))
    { lo := some r, fl := { z := some (decide (r = 0)) } }) ∧
  CellDoes 0x27 .src3 false false false .crcn8 (fun o _ =>
    let r := step8 (fun r => if r.getLsbD 31 then (r <<< 1) ^^^ o.x else r <<< 1) (o.a ^^^ ((o.b &&& 0xFF#32) <<< 24))
    { lo := some r, fl := { z := some (decide (r = 0)) } }) ∧
  CellDoes 0x28 .imm false false false .clz (fun o _ =>
    { lo := some (BitVec.ofNat 32 (if o.a = 0 then 32 else 31 - Nat.log2 o.a.toNat)), fl := { z := some (o.a.getLsbD 31) } }) ∧
  CellDoes 0x29 .imm false false false .popc (fun o _ =>
    { lo := some (BitVec.ofNat 32 (((List.range 32).filter (fun i => o.a.getLsbD i)).length)), fl := { z := some (decide (o.a = 0)) } }) ∧
  CellDoes 0x2A .src3 false false false .bfx (fun o _ =>
    let r := (o.a >>> pos o.x) &&& BitVec.ofNat 32 (2 ^ wid o.x - 1)
    { lo := some r, fl := { n := some (r.getLsbD 31), z := some (decide (r = 0)) } }) ∧
  CellDoes 0x2B .src3 false false false .bfxs (fun o _ =>
    let r : Word := ((o.a >>> pos o.x).setWidth (wid o.x)).signExtend 32
    { lo := some r, fl := { n := some (r.getLsbD 31), z := some (decide (r = 0)) } }) ∧
  CellDoes 0x2C .src3 false false false .bfi (fun o _ =>
    let mask : Word := BitVec.ofNat 32 (2 ^ wid o.x - 1) <<< pos o.x
    let r := (o.a &&& ~~~mask) ||| ((o.b <<< pos o.x) &&& mask)
    { lo := some r, fl := { n := some (r.getLsbD 31), z := some (decide (r = 0)) } }) ∧
  CellDoes 0x2D .src3 false false false .perm (fun o _ => { lo := some (((pick o 3 ++ pick o 2 ++ pick o 1 ++ pick o 0) : BitVec 32)) }) ∧
  CellDoes 0x35 .imm false false false .ldlc (fun o _ => { lc := some (o.a.extractLsb' 0 8) }) ∧
  CellDoes 0x36 .imm false false false .getf (fun o _ =>
    { lo := some (BitVec.zeroExtend 32 (BitVec.ofBool o.f.s ++ BitVec.ofBool o.f.p ++ BitVec.ofBool o.f.z ++ BitVec.ofBool o.f.n ++ BitVec.ofBool o.f.v ++ BitVec.ofBool o.f.c)) }) ∧
  CellDoes 0x37 .imm false false false .setf (fun o _ =>
    { fl := { c := some (o.a.getLsbD 0), v := some (o.a.getLsbD 1), n := some (o.a.getLsbD 2), z := some (o.a.getLsbD 3), p := some (o.a.getLsbD 4), s := some (o.a.getLsbD 5) } })

/-- R42, R46, R47, R54: an issue lands the result on its way, then writes its own: a latency-1 result at once, over what lands in the same place, a
latency-2 result after the next issue. SQ and LC follow SEQ with the LC and P of the start of the cycle. No other cell and nothing else changes. -/
def Obligations.CellIssueWritesItsCell : Prop :=
  ∀ (s : State) (c k : Nat) (m : Micro) (o : Opnds) (r : Alu), k < 32 →
    (∀ w, (s.cell c k).pend = some w → w.hi ≠ none → w.dst.toNat < 15 ∨ w.dst = 16) →
    let t := s.doIssue c k m o r
    let x := s.cell c k
    let y := t.cell c k
    let q := x.pl o.p
    let d := m.dst.toNat
    let now := r.late = false
    t = { s with cells := t.cells, clusters := t.clusters } ∧
    (∀ c' k', k' < 32 → (c' ≠ c ∨ k' ≠ k) → t.cell c' k' = s.cell c' k') ∧ (∀ c', c' ≠ c → t.cluster c' = s.cluster c') ∧
    t.cluster c = { s.cluster c with last := some k } ∧
    (∀ p n, n < 16 → smGet 0 (y.pl p).l n = match r.lo with
      | some v => if now ∧ p = o.p ∧ n = d then v else landedL x p n
      | none => landedL x p n) ∧
    (∀ v, r.lo = some v → now → (d = 16 ∨ d = 18 → y.y = v) ∧ (d = 17 ∨ d = 18 → y.z = v)) ∧
    (x.pend = none → (r.lo = none ∨ ¬now ∨ (d ≠ 16 ∧ d ≠ 18) → y.y = x.y) ∧ (r.lo = none ∨ ¬now ∨ (d ≠ 17 ∧ d ≠ 18) → y.z = x.z)) ∧
    y.pend = (match r.lo with
      | some v => if now then none else some ⟨o.p, m.dst, v, r.hi, r.fl.n, r.fl.z, r.dot4⟩
      | none => none) ∧
    (x.pend = none → (y.pl o.p).fl = if now then r.fl.apply q.fl else q.fl) ∧
    (y.pl o.p).sq = (match m.seq.toNat with
      | 1 => if q.lc = 0 then q.sq + 1 else loopStart (s.ctrlWord c o.p k)
      | 2 => if o.f.p then q.sq else q.sq + 1
      | 3 => if o.f.p then q.sq + 1 else q.sq
      | 4 => 0
      | 5 => q.sq
      | _ => q.sq + 1) ∧
    (y.pl o.p).lc = (match r.lc with
      | some v => v
      | none => if m.seq.toNat = 1 then (if q.lc = 0 then loopInit (s.ctrlWord c o.p k) else q.lc - 1) else q.lc) ∧
    y.carry = r.carry

/-- R54, R55: the SEQ field sets the sequence counter for the next cycle by its table, with the P and LC held at the start of the cycle; LOOP also sets LC; an
LDLC that takes effect in the same cycle has its value written to LC instead. -/
def Obligations.SeqStepsTheCounter : Prop :=
  ∀ r, r ∈ cellRows → ∀ s c k m, CellTurn s c k r.op m → CellLegal s r c k m →
    m.seq.toNat ≤ 5 ∧ Completes (r.cmd c k m) s (fun t =>
      let p := (s.cluster c).plane
      let x := (s.cell c k).pl p
      let y := (t.cell c k).pl p
      let w := s.ctrlWord c p k
      (m.seq = 0 → y.sq = x.sq + 1) ∧
      (m.seq = 1 → y.sq = if x.lc ≠ 0 then BitVec.ofNat 3 (fld w 23 21) else x.sq + 1) ∧
      (m.seq = 2 → y.sq = if x.fl.p then x.sq else x.sq + 1) ∧
      (m.seq = 3 → y.sq = if x.fl.p = false then x.sq else x.sq + 1) ∧
      (m.seq = 4 → y.sq = 0) ∧
      (m.seq = 5 → y.sq = x.sq) ∧
      (r.op = 0x35 → CellOn s c k m → y.lc = BitVec.ofNat 8 (s.opnds c k m false).a.toNat) ∧
      ((r.op ≠ 0x35 ∨ ¬CellOn s c k m) → y.lc = if m.seq = 1 then (if x.lc ≠ 0 then x.lc - 1 else BitVec.ofNat 8 (fld w 31 24)) else x.lc))

/-- R45: with a false predicate an operation writes no destination and no flag and does nothing beyond its cell, its carry-out is 0, and its SEQ
action is carried out. -/
def Obligations.FalsePredicateOnlySequences : Prop :=
  ∀ r, r ∈ cellRows ++ portRows ++ [⟨0x38, .field 0x03#5, false, false, false, .psw⟩] → ∀ s c k m, (r.op = 0x38 → k = 0) →
    CellTurn s c k r.op m → CellLegal s r c k m → ¬CellOn s c k m →
    CellEnds (r.cmd c k m) s c (fun t =>
      let p := (s.cluster c).plane
      let x := s.cell c k
      let n := seqNext m.seq (x.pl p).sq (x.pl p).lc (x.pl p).fl (s.ctrlWord c p k)
      t = { s with cells := t.cells, clusters := t.clusters } ∧ t.cluster c = { s.cluster c with last := some k } ∧
      (∀ c', c' ≠ c → t.cluster c' = s.cluster c') ∧ (∀ c' k', k' < 32 → (c' ≠ c ∨ k' ≠ k) → t.cell c' k' = s.cell c' k') ∧
      t.cell c k = { (x.land.setPl p { x.land.pl p with sq := n.1, lc := n.2 }) with carry := false, issued := true })

/-- R39, R50, R51, R66, R304, R307, R309, R384: where a cell does not issue. A word the loader rejects is refused (log entry 10). Under GSR nothing
happens. A parity error of a plane of the group or of what a cell that is to issue reads aborts the instance. A cell that must wait stalls its instance, and
no cell of the cycle issues; where a cell raises an abort the instance aborts, by the first cause in the order of R304. The order parity, stall, abort is the
model's (log entry 89). -/
def Obligations.CellIssueIsHeldBack : Prop :=
  (∀ r, r ∈ cellRows ++ portRows → ∀ s c k m,
    (1024 ≤ c ∨ 32 ≤ k → exec (r.cmd c k m) s = .fault .noSuchUnit) ∧
    (c < 1024 → k < 32 → (∀ j, (s.cluster c).last = some j → j < k) →
      (¬CellLegal s r c k m → s.gsr = true ∨ s.parityRaises c = [] → exec (r.cmd c k m) s = .refused .illegalMicro) ∧
      (CellLegal s r c k m → s.gsr = true → exec (r.cmd c k m) s = .next s) ∧
      (s.gsr = false → s.issuing c = true → s.parityRaises c ≠ [] → exec (r.cmd c k m) s = .next (s.abortFor c (s.parityRaises c)))) ∧
    (CellHere s c k r.op m → CellLegal s r c k m →
      (s.waiting c = some (c, k) → exec (r.cmd c k m) s = .next (s.stallCycle c)) ∧
      (∀ e, s.waiting c = some e → e ≠ (c, k) → exec (r.cmd c k m) s = .next s) ∧
      (s.waiting c = none → s.opRaises c ≠ [] → exec (r.cmd c k m) s = .next (s.abortFor c (s.opRaises c))))) ∧
  (∀ (s : State) c d k,
    (Raise.plane d ∈ s.parityRaises c ↔ d ∈ s.group c ∧ (s.plane d (s.cluster d).plane).par ≠ []) ∧
    (Raise.cell d k ∈ s.parityRaises c ↔ (d, k) ∈ s.pendingCells c ∧ s.regsBad d k = true)) ∧
  (∀ (s : State) c k op m (n : Nat), s.ir c k = Micro.word op m → op < 64 → n < 16 → n ∈ (opReads op m).map (fun r => r.toNat) →
    smGet false (s.cell c k).par (16 * (s.cluster c).plane + n) = true → s.regsBad c k = true) ∧
  (∀ (rs : List Raise) r, firstRaise rs = some r → r ∈ rs ∧ ∀ q, q ∈ rs → causeRank r.cause ≤ causeRank q.cause) ∧
  (∀ (s : State) c r, s.abortFor c [r] = (s.raised r).abortOn c r.cause (s.raiseDetail r))

/-- R72-R75: LDC reads the half-word of address bits [13:2] with latency 2, zero from a word not written since the task start; STC writes it; each
counts one access of the port; a word whose code is UE or POISON aborts the task with POISON. R53, R60, R125, R143, R145, R146: a TEMIT or RST of a
REPLAYABLE task enters the commit buffer; an RLD asks or is answered from the buffer; RSP reads a slot; TCON reads the bundle. -/
def Obligations.CellPortsReachMemoryAndTokens : Prop :=
  ((∀ s c k m, CellTurn s c k 0x30 m → CellLegal s ⟨0x30, .imm, false, false, false, .ldc⟩ c k m → CellOn s c k m →
    let o := s.opnds c k m false
    let a := o.a + o.b
    let i := (a.extractLsb' 2 12).toNat
    let x := s.cluster c
    let byte (j : Nat) : Byte := smGet 0 x.mem (4 * i + j)
    let v : Word := if smGet false x.written (i / 2) then byte 3 ++ byte 2 ++ byte 1 ++ byte 0 else 0
    (x.markAt a ≠ .ce →
      CellEnds (.ldc c k m) s c (fun t => t.cells = (s.doIssue c k m o { lo := some v, late := true }).cells ∧
        t.cluster c = { x with last := some k, memAcc := x.memAcc + 1 } ∧ (∀ d, d ≠ c → t.cluster d = s.cluster d) ∧
        t = { s with cells := t.cells, clusters := t.clusters })) ∧
    (x.markAt a = .ce →
      CellEnds (.ldc c k m) s c (fun t => t.cells = (s.doIssue c k m o { lo := some v, late := true }).cells ∧
        t.cluster c = { x with last := some k, memAcc := x.memAcc + 1, memMark := smDel x.memMark (i / 2) } ∧ (∀ d, d ≠ c → t.cluster d = s.cluster d) ∧
        t.rd ECC_CECNT = plusOne (s.rd ECC_CECNT) ∧ tb (t.rd ECC_STATUS) 0 = true))) ∧
  (∀ s c k m, CellTurn s c k 0x31 m → CellLegal s ⟨0x31, .src3, false, false, false, .stc⟩ c k m → CellOn s c k m →
    let o := s.opnds c k m false
    let a := o.a + o.x
    let i := (a.extractLsb' 2 12).toNat
    let x := s.cluster c
    (x.markAt a ≠ .ce →
      CellEnds (.stc c k m) s c (fun t => t.cells = (s.doIssue c k m o {}).cells ∧ (∀ d, d ≠ c → t.cluster d = s.cluster d) ∧
        t = { s with cells := t.cells, clusters := t.clusters } ∧
        t.cluster c = { x with last := some k, memAcc := x.memAcc + 1, mem := (t.cluster c).mem, written := (t.cluster c).written } ∧
        (∀ w, smGet false (t.cluster c).written w = (smGet false x.written w || decide (w = i / 2))) ∧
        (∀ b, smGet 0 (t.cluster c).mem b =
          if b / 4 = i then o.b.extractLsb' (8 * (b % 4)) 8
          else if b / 8 = i / 2 ∧ smGet false x.written (i / 2) = false then 0 else smGet 0 x.mem b)))) ∧
  (∀ s c k m, CellHere s c k 0x30 m → CellOn s c k m →
    let a := (s.opnds c k m false).a + (s.opnds c k m false).b
    ((s.cluster c).markAt a).bad = true → s.opRaise c k = some (.mem c a) ∧ (Raise.mem c a).cause = 1)) ∧
  ((∀ s c k m x, CellTurn s c k 0x2F m → CellLegal s ⟨0x2F, .field 0x0F#5, false, false, false, .temit⟩ c k m → CellOn s c k m →
    s.runInst c = some x → (s.dirEnt x.ctx.toNat).replayable = true → (s.cluster c).cb.length < 256 →
    let o := s.opnds c k m false
    let d := m.xt.toNat % 16
    let e : BitVec 64 := s.img c o.p (449 + 2 * d) ++ s.img c o.p (448 + 2 * d)
    CellEnds (.temit c k m) s c (fun t => ∃ dest tok n,
      t.cluster c = { s.cluster c with last := some k, cb := (s.cluster c).cb ++ [⟨x.iid, .token dest tok, n, false, .clean, none⟩], emits := (s.cluster c).emits + 1 } ∧
      (∀ p, p ∈ s.entriesOf x → p.2.seq < n) ∧
      t.cells = (s.doIssue c k m o {}).cells ∧ t = { s with cells := t.cells, clusters := t.clusters } ∧ (∀ c', c' ≠ c → t.cluster c' = s.cluster c') ∧
      (e.extractLsb' 62 2 = 0 → dest = .mst) ∧ (e.extractLsb' 62 2 = 1 → dest = .queue) ∧ (e.extractLsb' 62 2 = 2 → dest = .mirror) ∧
      tok.ctx = e.extractLsb' 50 12 ∧ tok.port = e.extractLsb' 46 4 ∧ tok.value = o.b ++ o.a ∧ tok.poison = false ∧
      (e.extractLsb' 44 2 = 0 → tok.kind = .data) ∧ (e.extractLsb' 44 2 = 1 → tok.kind = .sticky) ∧ (e.extractLsb' 44 2 = 3 → tok.kind = .control) ∧
      (e.extractLsb' 39 2 = 0 → tok.pri = e.extractLsb' 41 3) ∧ (e.extractLsb' 39 2 = 1 → tok.pri = x.pri) ∧
      (e.extractLsb' 39 2 = 2 → tok.pri = (s.dirEnt tok.ctx.toNat).pridef) ∧
      tok.flow = (if e.getLsbD 38 then x.flow else e.extractLsb' 10 18) ∧
      (e.extractLsb' 36 2 = 0 → tok.inst = x.inst) ∧ (e.extractLsb' 36 2 = 1 → tok.inst = x.inst + (e.extractLsb' 28 8).signExtend 24))) ∧
  (∀ s c k m x, CellTurn s c k 0x33 m → CellLegal s ⟨0x33, .src3, false, false, false, .rst⟩ c k m → CellOn s c k m →
    s.runInst c = some x → (s.dirEnt x.ctx.toNat).replayable = true → (s.cluster c).cb.length < 256 →
    let o := s.opnds c k m false
    let a : BitVec 48 := o.x.extractLsb' 0 16 ++ o.a.extractLsb' 2 30 ++ 0#2
    CellEnds (.rst c k m) s c (fun t => ∃ n, (∀ p, p ∈ s.entriesOf x → p.2.seq < n) ∧
      t.cluster c = { s.cluster c with last := some k, cb := (s.cluster c).cb ++ [⟨x.iid, .store a.toNat o.b, n, false, .clean, none⟩], emits := (s.cluster c).emits + 1 } ∧
      t.cells = (s.doIssue c k m o {}).cells ∧ t = { s with cells := t.cells, clusters := t.clusters } ∧ (∀ c', c' ≠ c → t.cluster c' = s.cluster c')))) ∧
  (∀ s c k m x, CellTurn s c k 0x32 m → CellLegal s ⟨0x32, .field 0x0F#5, false, false, false, .rld⟩ c k m → CellOn s c k m →
    s.runInst c = some x →
    let o := s.opnds c k m false
    let a : BitVec 48 := o.b.extractLsb' 0 16 ++ o.a.extractLsb' 2 30 ++ 0#2
    let slot := m.xt.toNat % 16
    let asked (t : State) (v : Slot) : Prop := (slot, v) ∈ (t.cluster c).slotUpd ∧ (t.cluster c).slotOf slot = v ∧ (t.cluster c).slots = (s.cluster c).slots ∧
      (∃ pid, ({ slot := slot, addr := a.toNat, pid := pid } : RldReq) ∈ (t.cluster c).rlds) ∧ (t.cluster c).mem = (s.cluster c).mem ∧
      (t.cluster c).emits = (s.cluster c).emits + 1 ∧ t.cells = (s.doIssue c k m o {}).cells ∧ (∀ d, d ≠ c → t.cluster d = s.cluster d) ∧ t.dsp = s.dsp ∧
      t.mst = s.mst ∧ t.flow = s.flow ∧ t.res = s.res ∧ t.cache = s.cache ∧ t.spad = s.spad ∧ t.garnet = s.garnet ∧ t.ddr = s.ddr
    ((s.dirEnt x.ctx.toNat).replayable = false ∨ cbMatch (s.cluster c).cb a.toNat = none →
      (addrKnown a.toNat = true → CellEnds (.rld c k m) s c (fun t => asked t .pending ∧ (t.cluster c).cb = (s.cluster c).cb)) ∧
      (addrKnown a.toNat = false → CellEnds (.rld c k m) s c (fun t => asked t (.full 0 .error) ∧ (t.cluster c).cb = (s.cluster c).cb))) ∧
    (∀ e v, (s.dirEnt x.ctx.toNat).replayable = true → cbMatch (s.cluster c).cb a.toNat = some (e, v) →
      (e.code = .clean → CellEnds (.rld c k m) s c (fun t => asked t (.full v .normal) ∧ (t.cluster c).cb = (s.cluster c).cb)) ∧
      (e.code = .ce → CellEnds (.rld c k m) s c (fun t => asked t (.full v .normal) ∧ t.rd ECC_CECNT = plusOne (s.rd ECC_CECNT))) ∧
      (e.code.bad = true → e.iid ≠ x.iid → CellEnds (.rld c k m) s c (fun t => asked t (.full v .poisoned))))) ∧
  ((∀ s c k m, CellTurn s c k 0x34 m → CellLegal s ⟨0x34, .field 0x0F#5, false, false, false, .rsp⟩ c k m → CellOn s c k m →
    let o := s.opnds c k m false
    let i := m.xt.toNat % 16
    let took (t : State) : Prop := (t.cluster c).slotAt i = (s.cluster c).slotAt i ∧
      ((∀ u, u ∈ (s.cluster c).slotUpd → u.1 ≠ i) → (t.cluster c).slotOf i = .empty) ∧ (∀ j, j ≠ i → (t.cluster c).slotOf j = (s.cluster c).slotOf j) ∧
      t = { s with cells := t.cells, clusters := t.clusters }
    (∀ v, (s.cluster c).slotAt i = .full v .normal →
      CellEnds (.rsp c k m) s c (fun t => t.cells = (s.doIssue c k m o { lo := some v }).cells ∧ took t)) ∧
    ((s.cluster c).slotAt i = .empty →
      CellEnds (.rsp c k m) s c (fun t => t.cells = (s.doIssue c k m o { lo := some 0 }).cells ∧ took t))) ∧
  (∀ s c k m, CellHere s c k 0x34 m → CellOn s c k m →
    let i := m.xt.toNat % 16
    ((s.cluster c).slotAt i = .pending → s.cellWaits c k = true) ∧
    (∀ v st, (s.cluster c).slotAt i = .full v st → st ≠ .normal → s.opRaise c k = some (.rsp c i st))) ∧
  (∀ c i, (Raise.rsp c i .poisoned).cause = 1 ∧ (Raise.rsp c i .error).cause = 2 ∧ (Raise.rsp c i .halted).cause = 6)) ∧
  (∀ s c k m x b, CellTurn s c k 0x2E m → CellLegal s ⟨0x2E, .field 0x1F#5, false, false, false, .tcon⟩ c k m → CellOn s c k m →
    s.runInst c = some x → x.bundle.find? (fun b => decide (b.2.t.port.toNat = m.xt.toNat % 16)) = some b →
    exec (.tcon c k m) s = .next ((s.doIssue c k m (s.opnds c k m false)
      { lo := some (if m.xt.getLsbD 4 then b.2.t.value.extractLsb' 32 32 else b.2.t.value.extractLsb' 0 32) }).closeOn c))

/-- R68, R70: PSW names the plane that issues from the next cycle; TEND ends the task after one more cycle. At the end of the cycle the planes switch, unless a TEND
took effect in it, and the last issue cycle frees the clusters. R67, R169: the task-start cycle: on every cell of every plane of the context SQ, LC, the flags,
L0 and L1 take their initial values and L2-L15 zero; Y, Z and the chain register are zero; every memory word is unwritten and every slot EMPTY. R151: the
watchdog aborts with WATCHDOG. -/
def Obligations.TasksStartSwitchAndEnd : Prop :=
  ((∀ (s : State) c m p, CellTurn s c 0 0x38 m → CellLegal s ⟨0x38, .field 0x03#5, false, false, false, .psw⟩ c 0 m → CellOn s c 0 m →
    s.validPlane c (s.cluster c).ctx (posOf (s.dirEnt (s.cluster c).ctx.toNat).shape c) (m.xt.toNat % 4) = some p →
    CellEnds (.psw c 0 m) s c (fun t => t.cluster c = { s.cluster c with last := some 0, psw := some p } ∧
      t.cells = (s.doIssue c 0 m (s.opnds c 0 m false) {}).cells ∧ (∀ d, d ≠ c → t.cluster d = s.cluster d) ∧
      t = { s with cells := t.cells, clusters := t.clusters })) ∧
  (∀ (s : State) c k m, 0 < k → k < 32 → exec (.psw c k m) s = .refused .illegalMicro) ∧
  (∀ (s : State) c k m x, CellTurn s c k 0x39 m → CellLegal s ⟨0x39, .imm, false, false, false, .tend⟩ c k m → CellOn s c k m →
    s.runInst c = some x → x.st = .running →
    CellEnds (.tend c k m) s c (fun t => t.runInst c = some { x with tend := true } ∧ t.cells = (s.doIssue c k m (s.opnds c k m false) {}).cells ∧
      (∀ j, j ≠ x.iid → t.inst j = s.inst j) ∧ t = { s with cells := t.cells, clusters := t.clusters, dsp := { s.dsp with insts := t.dsp.insts } })) ∧
  (∀ (s : State) c (x : Inst), s.runInst c = some x → c ∈ x.clusters → x.clusters.Nodup →
    let t := s.endCycle c
    (∀ d, d ∈ x.clusters → (t.cluster d).plane = (if x.tend ∨ x.st = .ending then (s.cluster d).plane else ((s.cluster d).psw).getD (s.cluster d).plane) ∧
      (t.cluster d).psw = none ∧ (t.cluster d).last = none ∧ (t.cluster d).run = (if x.st = .ending then none else (s.cluster d).run)) ∧
    t.inst x.iid = some (if x.st = .ending then { x with st := .ended } else if x.tend then { x with st := .ending, tend := false } else x) ∧
    (s.closeOn c = if x.st = .ending ∧ s.cycleDone c = true then t else s))) ∧
  ((∀ (s : State) iid x, s.inst iid = some x → s.canStart x = true → s.gsr = false → s.halted = false → x.clusters.Nodup →
    (∀ c, c ∈ x.clusters → c < 1024) →
    Completes (.taskStart iid) s (fun t => t.inst iid = some { x with st := .running, tend := false } ∧
      (∀ c, c ∈ x.clusters → (t.cluster c).run = some iid ∧ (t.cluster c).ctx = x.ctx ∧ (t.cluster c).inst = x.inst ∧ (t.cluster c).slots = [] ∧
        (t.cluster c).written = [] ∧ (t.cluster c).last = none ∧ (t.cluster c).cb = (s.cluster c).cb ∧ t.dom c = .on ∧
        (∀ k, k < 32 → (t.cell c k).y = 0 ∧ (t.cell c k).z = 0 ∧ (t.cell c k).chain = false ∧ (t.cell c k).pend = none ∧
          (∀ i p, i < (s.dirEnt x.ctx.toNat).planes → s.validPlane c x.ctx (posOf (s.dirEnt x.ctx.toNat).shape c) i = some p →
            let w := s.ctrlWord c p k
            let r := (t.cell c k).pl p
            r.sq = 0 ∧ r.lc = w.extractLsb' 24 8 ∧ r.fl = Flags.ofWord (w >>> 13) ∧ smGet 0 r.l 0 = s.cellWord c p k 12 ∧
            smGet 0 r.l 1 = s.cellWord c p k 13 ∧ (∀ n, 2 ≤ n → smGet 0 r.l n = 0)))) ∧
      (∀ c, c ∉ x.clusters → t.cluster c = s.cluster c ∧ ∀ k, k < 32 → t.cell c k = s.cell c k) ∧ t.mst = s.mst ∧ t.flow = s.flow)) ∧
  (∀ (s : State) iid x, s.inst iid = some x → fld (s.rd MST_TASKLIM) 4 0 ≠ 0 → x.st.open = true →
    exec (.taskWatchdog iid) s = .next (s.abort iid 7 (BitVec.ofNat 48 (x.origin % 1024)))))

/-- R152, R153: an abort stops every cluster of the instance and discards its commit-buffer entries; a REPLAYABLE instance whose cause is replayed
goes back to the ready list away from those clusters, POISON, UPSET and HW_ERR being counted, HALT not; a cause not replayed resolves it. -/
def Obligations.AbortReplaysOrResolves : Prop :=
  ∀ (s : State) iid (x : Inst) cause detail, s.inst iid = some x → x.iid = iid → x.st.open = true → (s.dirEnt x.ctx.toNat).replayable = true →
    let t := s.abort iid cause detail
    let back (n : Nat) : Inst := { x with tend := false, lastCause := cause, counted := n, st := .ready, ret := s.dsp.now, avoid := x.clusters, clusters := [] }
    ((cause = 1 ∨ cause = 3 ∨ cause = 4) → x.counted < 3 → t.inst iid = some (back (x.counted + 1))) ∧
    (cause = 6 → x.counted < 4 → t.inst iid = some (back x.counted)) ∧
    ((cause = 6 ∨ cause = 1 ∨ cause = 3 ∨ cause = 4) → x.counted < 3 →
      (∀ c, c ∈ x.clusters → (t.cluster c).run ≠ some iid ∧ ∀ e, e ∈ (t.cluster c).cb → e.iid ≠ iid) ∧
      (∀ c, c ∉ x.clusters → t.cluster c = s.cluster c) ∧ t.mst = s.mst ∧ t.flow = s.flow ∧ t.res = s.res) ∧
    ((cause = 1 ∨ cause = 3 ∨ cause = 4) → x.counted = 3 →
      ∃ u : State, t = (u.resolve { x with tend := false, lastCause := cause, counted := 4 } 1 cause (BitVec.ofNat 48 (x.origin % 1024))).record 0x32 2
        (natBytes 2 x.ctx.toNat ++ natBytes 4 x.flow.toNat ++ natBytes 4 x.inst.toNat ++ natBytes 1 cause))

/-- R147, R148, R149: at the commit point every entry of the instance may leave and its data-token slots are freed; a store that is acknowledged frees its
entry; a token at the head of its input is judged and, once accepted, frees its entry. R60, R146: a response fills the slot it belongs to. -/
def Obligations.CommitDrainAndResponses : Prop :=
  (∀ (s : State) iid x, s.gsr = false → s.inst iid = some x →
    (x.st = .ended → exec (.commitPoint iid) s = .next ((s.commit x).progress iid)) ∧
    (x.st = .ending → s.cycleDone x.origin = true → (s.cluster x.origin).run = some iid →
      exec (.commitPoint iid) s = .next (((s.endCycle x.origin).commit { x with st := .ended }).progress iid)) ∧
    ((x.st ≠ .ending ∧ x.st ≠ .ended) ∨ (x.st = .ending ∧ s.cycleDone x.origin = false) → exec (.commitPoint iid) s = .next s)) ∧
  (∀ (s : State) (x : Inst), s.inst x.iid = some x → x.clusters.Nodup → x.storeErrs = [] → s.entriesOf x ≠ [] →
    let t := s.commit x
    t.inst x.iid = some { x with st := .draining, bundle := [] } ∧
    (∀ c, c ∈ x.clusters → (t.cluster c).cb = (s.cluster c).cb.map (fun e => if e.iid = x.iid then { e with go := true } else e)) ∧
    (∀ c, c ∉ x.clusters → t.cluster c = s.cluster c) ∧ t.flow = s.flow ∧ t.mst.pend = s.mst.pend ∧ t.mst.sticky = s.mst.sticky) ∧
  (∀ (s : State) iid x c e pid, s.gsr = false → s.inst iid = some x →
    (s.entriesOf x).find? (fun p => p.2.isStore && p.2.pid.isSome) = some (c, e) → e.pid = some pid →
    (∀ st, s.ackOf c pid = some st → exec (.drainStoreAck iid) s = .next ((s.countFlits (clusterPort c) 1).storeDone c e st)) ∧
    (∀ p, s.ackOf c pid = none → s.pkt pid = some p →
      (s.wayOpen p = false → exec (.drainStoreAck iid) s = .next s) ∧
      (∀ st, s.wayOpen p = true → (s.storeServe c e).2 = some st →
        exec (.drainStoreAck iid) s = .next (((s.storeServe c e).1.exchanged p.h.src p.h.dst p.h.flits 1).storeDone c e st)) ∧
      (s.wayOpen p = true → (s.storeServe c e).2 = none → exec (.drainStoreAck iid) s = .next (s.storeServe c e).1))) ∧
  (∀ (s : State) c (e : CbEntry) st,
    (st = .normal ∨ st = .poisoned → s.storeDone c e st = (s.entryGone c e).progress e.iid) ∧
    (st = .error ∨ (st = .halted ∧ s.committed e.iid = false) →
      s.storeDone c e st = ((s.entryGone c e).storeErr e.iid (BitVec.ofNat 48 e.addr)).progress e.iid) ∧
    (∀ n, st = .halted → s.committed e.iid = true → e ∈ (s.cluster c).cb → e.pid = some n → { e with pid := none } ∈ ((s.storeDone c e st).cluster c).cb)) ∧
  (∀ (s : State) c (e : CbEntry), e ∈ (s.cluster c).cb → ((s.entryGone c e).cluster c).cb.length + 1 = (s.cluster c).cb.length) ∧
  (∀ (s : State) iid n x c e i p, s.gsr = false → s.inst iid = some x → (s.tokensOf x)[n]? = some (c, e) → e.pid = some i → s.pkt i = some p →
    s.atSink p = true → (∀ q, q ∈ (s.tokensOf x).take n → sinkPort q.2.what ≠ sinkPort e.what) →
    exec (.drainTokenAccept iid n) s = .next (s.sinkServe c p e)) ∧
  (∀ (s : State) c (e : CbEntry) (p : Pkt) d t x, e.what = .token d t → s.inst e.iid = some x →
    let u := if p.inp = 16 then s else s.countFlits p.h.dst p.h.flits
    (u.drainToken c x d t).2 = true → s.sinkServe c p e = ((u.drainToken c x d t).1.entryGone c e).progress e.iid) ∧
  (∀ (s : State) c (x : Inst) (d : TokDest) (t : Token), (s.drainToken c x d t).2 = true ↔
    (match d with
     | .mst => (s.present t).taken = true
     | .queue => if t.flow = x.flow ∧ s.isOrd x.flow.toNat = true then s.behindMarker c x = false ∧ (s.orderedOut x.flow.toNat x.inst t).2 = true
       else (s.judgeEnqueue t.flow.toNat t).2 = true
     | .mirror => s.hp.buf.length < 64 ∧ s.pins.ioRst = false)) ∧
  (∀ (s : State) c slot r, c < 1024 → slot < 16 → (s.cluster c).rlds.find? (fun r => decide (r.slot = slot)) = some r →
    (s.cluster c).slotOf slot = .pending →
    (∀ v st, s.rspOf c slot r.pid = some (v, st) → Completes (.rldResponse c slot) s (fun t => (t.cluster c).slotOf slot = .full v st ∧
      (∀ j, j ≠ slot → (t.cluster c).slotOf j = (s.cluster c).slotOf j) ∧ (t.cluster c).cb = (s.cluster c).cb ∧ (∀ d, d ≠ c → t.cluster d = s.cluster d) ∧
      t.cells = s.cells ∧ t.dsp = s.dsp ∧ t.mst = s.mst ∧ t.flow = s.flow)) ∧
    (∀ p v st, s.rspOf c slot r.pid = none → s.pkt r.pid = some p → s.wayOpen p = true → (s.loadServe c r.addr).2 = some (v, st) →
      Completes (.rldResponse c slot) s (fun t => (t.cluster c).slotOf slot = .full v st)) ∧
    (∀ p, s.rspOf c slot r.pid = none → s.pkt r.pid = some p → s.wayOpen p = false → exec (.rldResponse c slot) s = .next s)) ∧
  (∀ (s : State) c slot, c < 1024 → slot < 16 → (s.cluster c).slotOf slot ≠ .pending → exec (.rldResponse c slot) s = .next s)

/-! Matching store (R126-R141, R158) -/

/-- R129, R130, R138: a data token for a declared port of a valid context is admitted where its account has room and held until its instance is complete;
the token that completes an instance fires it, and it enters the ready list with the highest PRI of its data tokens. -/
def Obligations.TokensAreHeldAndFire : Prop :=
  ∀ (s : State) (t : Token), s.gsr = false → InputsFree s 3 → s.ecc.heldPoison = [] → t.kind = .data → (s.dirEnt t.ctx.toNat).valid = true → (s.dirEnt t.ctx.toNat).declares t.port.toNat = true →
    (∀ h, h ∈ s.mst.pend → sameInst h.t t = true → h.t.port ≠ t.port) →
    (s.usedP t.pri.toNat < s.resP t.pri.toNat ∨ s.sharedFree > 0) →
    let h : HeldTok := ⟨t, false, .clean⟩
    let u : State := { s with mst := { s.mst with pend := s.mst.pend ++ [h], used := smSet 0 s.mst.used t.pri.toNat (s.usedP t.pri.toNat + 1), judged := .admitted } }
    ((∀ k, k ∈ pendKeys u.mst.pend → u.complete k = false) → exec (.tokenArrival t) s = .next (judgedAt t u)) ∧
    (u.complete t = true → (∀ k, k ∈ pendKeys u.mst.pend → sameInst k t = false → u.complete k = false) →
      (∀ p b, p ∈ (s.dirEnt t.ctx.toNat).ports → u.portTok t p = some b → b.2.t.poison = false ∧ b.2.code = .clean) →
      Completes (.tokenArrival t) s (fun v =>
        v.mst.pend = u.mst.pend.filter (fun h => !sameInst h.t t) ∧ v.mst.used = u.mst.used ∧ v.mst.judged = .admitted ∧
        ∃ x : Inst, v.dsp.insts = s.dsp.insts ++ [x] ∧ x.iid = s.dsp.nextIid ∧ x.ctx = t.ctx ∧ x.flow = t.flow ∧ x.inst = t.inst ∧ x.st = .ready ∧
          x.ready = s.dsp.now ∧ x.counted = 0 ∧ x.bundle = (s.dirEnt t.ctx.toNat).ports.filterMap (fun p => u.portTok t p) ∧
          (∀ b, b ∈ x.bundle → b.1 = true → b.2.t.pri.toNat ≤ x.pri.toNat) ∧ (∃ b, b ∈ x.bundle ∧ b.1 = true ∧ b.2.t.pri = x.pri)))

/-- R131, R132, R138: a token for an invalid context, an undeclared port or a port already filled is resolved by an error token; a token that finds no
room is refused, counted by its priority, and waits; under GSR every token waits (R384). R133, R158: the control tokens remove what they name, free its
slots and are counted; a held error token that can be delivered leaves the buffer. R141: a reservation size is set while the total fits, else ignored
with CFGERR. -/
def Obligations.TokensAreRefusedOrControl : Prop :=
  ((∀ (s : State) (t : Token), s.gsr = true → exec (.tokenArrival t) s = .next { s with mst := { s.mst with judged := .waits } }) ∧
  (∀ (s : State) (t : Token), s.gsr = false → InputsFree s 3 → (t.kind = .data ∨ t.kind = .sticky) →
    ((s.dirEnt t.ctx.toNat).valid = false → exec (.tokenArrival t) s = .next (judgedAt t (s.tokError t 0x0C))) ∧
    ((s.dirEnt t.ctx.toNat).valid = true → (s.dirEnt t.ctx.toNat).declares t.port.toNat = false →
      exec (.tokenArrival t) s = .next (judgedAt t (s.tokError t 0x08))) ∧
    ((s.dirEnt t.ctx.toNat).valid = true → (s.dirEnt t.ctx.toNat).declares t.port.toNat = true → t.kind = .data →
      (∃ h, h ∈ s.mst.pend ∧ sameInst h.t t = true ∧ h.t.port = t.port) → exec (.tokenArrival t) s = .next (judgedAt t (s.tokError t 0x09)))) ∧
  (∀ (s : State) (t : Token), s.gsr = false → InputsFree s 3 → t.kind = .data → (s.dirEnt t.ctx.toNat).valid = true → (s.dirEnt t.ctx.toNat).declares t.port.toNat = true →
    (∀ h, h ∈ s.mst.pend → sameInst h.t t = true → h.t.port ≠ t.port) → s.resP t.pri.toNat ≤ s.usedP t.pri.toNat → s.sharedFree = 0 →
    (s.completing t = false ∨ s.cres ≤ s.mst.crUsed) →
    exec (.tokenArrival t) s = .next (judgedAt t (((s.bump (MST_REF t.pri.toNat) MST_CNTOVF t.pri.toNat).setBits MST_STATUS (if s.completing t then 1 else 2)).setJudged .refused))) ∧
  (∀ (s : State) (t : Token) cause, (s.tokError t cause).mst.judged = .resolved cause ∨ (s.tokError t cause).mst.judged = .waits)) ∧
  ((∀ (s : State) (t : Token), s.gsr = false →
    (∀ old, s.mst.sticky.find? (fun h => sameSticky h.t t) = some old → exec (.clrSticky t) s = .next ((State.countControl { s with mst := { s.mst with
      sticky := s.mst.sticky.filter (fun h => !(decide (h.t.ctx = t.ctx) && decide (h.t.flow = t.flow) && decide (h.t.port = t.port)))
      used := if old.resv then s.mst.used else smSet 0 s.mst.used old.t.pri.toNat (s.usedP old.t.pri.toNat - 1)
      crUsed := if old.resv then s.mst.crUsed - 1 else s.mst.crUsed } }).setJudged .acted)) ∧
    (s.mst.sticky.find? (fun h => sameSticky h.t t) = none → exec (.clrSticky t) s = .next (s.countControl.setJudged .acted))) ∧
  (∀ (s : State) (t : Token), s.gsr = false → Completes (.clrFlow t) s (fun v =>
      v.mst.sticky = s.mst.sticky.filter (fun h => !(decide (h.t.ctx = t.ctx) && decide (h.t.flow = t.flow))) ∧ v.mst.pend = s.mst.pend ∧ v.mst.judged = .acted ∧
      v.rd DSP_CTLTOK = plusOne (s.rd DSP_CTLTOK) ∧ v.dsp = s.dsp ∧ v.flow = s.flow)) ∧
  (∀ (s : State) (t : Token), s.gsr = false → (∀ h, h ∈ s.mst.pend → sameInst h.t t = false) →
    exec (.cancelToken t) s = .next (s.countControl.setJudged .acted)) ∧
  (∀ (s : State) (t : Token) h hs u, s.gsr = false → s.mst.pend.filter (fun h => sameInst h.t t) = h :: hs →
    s.errToken { ctx := t.ctx, inst := t.inst, port := 0, kind := .error, pri := maxPri (h :: hs), flow := t.flow, poison := false,
                 value := 0x0A00000000000000#64 } true true = (u, true) →
    Completes (.cancelToken t) s (fun v => v.mst.pend = u.mst.pend.filter (fun h => !sameInst h.t t) ∧ v.mst.judged = .acted)) ∧
  (∀ (s : State) h hs u, s.mst.hold = h :: hs → s.errDeliver h.t h.q h.ordered h.fin h.own = (u, true) →
    exec .errholdRelease s = .next (State.retryResolved { u with mst := { u.mst with hold := hs } })) ∧
  (∀ (s : State), s.mst.hold = [] → exec .errholdRelease s = .next s.retryResolved) ∧
  (∀ (s : State) t, s.gsr = true → exec (.clrSticky t) s = .next (s.setJudged .waits) ∧ exec (.clrFlow t) s = .next (s.setJudged .waits) ∧
    exec (.cancelToken t) s = .next (s.setJudged .waits)) ∧
  (∀ (s : State) v, (fld v 20 0 + s.sumRes ≤ mstSlots → exec (.mstSizeWrite none v) s = .next (s.wr MST_CRES (v &&& 0x1FFFFF#32))) ∧
    (mstSlots < fld v 20 0 + s.sumRes → exec (.mstSizeWrite none v) s = .next (s.setBits MST_STATUS 8))) ∧
  (∀ (s : State) p v, p < 8 →
    (s.cres + s.sumRes - s.resP p + fld v 20 0 ≤ mstSlots → exec (.mstSizeWrite (some p) v) s = .next (s.wr (MST_RES p) (v &&& 0x1FFFFF#32))) ∧
    (mstSlots < s.cres + s.sumRes - s.resP p + fld v 20 0 → exec (.mstSizeWrite (some p) v) s = .next (s.setBits MST_STATUS 8))) ∧
  (∀ (s : State) p v, 8 ≤ p → exec (.mstSizeWrite (some p) v) s = .fault .noSuchUnit))

/-! Dispatcher, residency, pins (R96-R176, R308) -/

/-- R160, R164-R166, R434: an examined instance is placed on the candidate of the lowest tier and, within it, of the least keys; placing it moves DSP_RRPTR;
under GSR or a halt nothing is placed; the load estimates follow the Shadow sums. -/
def Obligations.DispatcherPlacesTheBestCandidate : Prop :=
  (∀ (s : State), (s.gsr = true ∨ s.halted = true ∨ s.readyList = []) → exec .dispatchCycle s = .next { s.countFillCycles with dsp := { s.dsp with now := s.dsp.now + 1 } }) ∧
  (∀ (s : State) x, s.gsr = false → s.halted = false → s.readyList = [x] →
    Completes .dispatchCycle s (fun t => t.dsp = { (s.examine x).1.dsp with now := (s.examine x).1.dsp.now + 1 } ∧
      t.res = (s.examine x).1.res ∧ t.mst = (s.examine x).1.mst ∧ t.flow = (s.examine x).1.flow ∧ t.noc = (s.examine x).1.noc)) ∧
  (∀ (s : State) (x : Inst), s.ctxSt x.ctx.toNat ≠ .unavailable → s.dsp.claims.find? (fun k => decide (k.iid = x.iid)) = none → s.orderCheck x = none →
    let shape := (s.dirEnt x.ctx.toNat).shape
    let cand (o : Nat) : Prop := o < 1024 ∧ legalOrigin shape o = true ∧ (∀ c, c ∈ placement shape o → s.idleFor x.iid c = true) ∧ s.oppEqual shape o = true ∧
      s.budgetOk x o (placement shape o) = true ∧ s.tier x.ctx (placement shape o) ≤ 3
    (∃ o, cand o) → ∃ o, cand o ∧ s.examine x = (s.place x o (placement shape o), true) ∧
      ∀ o', cand o' → s.tier x.ctx (placement shape o) ≤ s.tier x.ctx (placement shape o') ∧
        (s.tier x.ctx (placement shape o') = s.tier x.ctx (placement shape o) →
          keysLt (s.rankKeys x o' (placement shape o')) (s.rankKeys x o (placement shape o)) = false)) ∧
  (∀ (s : State) (x : Inst) o cs, s.inst x.iid = some x →
    let t := s.place x o cs
    t.inst x.iid = some { x with st := .placed, origin := o, clusters := cs } ∧ t.dsp.rrptr = (o + 1) % 1024 ∧ t.mst = s.mst ∧ t.flow = s.flow ∧ t.clusters = s.clusters) ∧
  (∀ (s : State), Completes .loadUpdate s (fun t => (∀ k, k < 32 → t.loadK k = (s.loadK k - s.loadK k / 8 + s.shadow k / 8) % 2 ^ 18) ∧
    t = { s with dsp := { s.dsp with load := t.dsp.load } }))

/-- R108-R112: a context bus grants the first grantable request in the order of R109: its target becomes FILLING with the new tag, the sets it evicts become
INVALID. R110, R117: a fill that ends well makes the plane VALID with age 0; one that met an uncorrectable row fails. -/
def Obligations.FillsAreGrantedInOrder : Prop :=
  (∀ (s : State) bus r, bus < 64 → ((s.pinScan bus).res.flight.filter (fun r => decide (busOf r.cluster = bus))).length < 2 → (s.pinScan bus).firstFill bus = some r →
    let u := s.pinScan bus
    (r ∈ u.res.reqs ∧ busOf r.cluster = bus ∧ u.grantable r = true ∧
      ∀ q, q ∈ u.res.reqs → busOf q.cluster = bus → u.grantable q = true → fillBefore q r = false) ∧
    Completes (.fillGrant bus) s (fun t =>
      t.plane r.cluster r.plane = { Plane.zero with st := .filling, ctx := r.ctx, pos := r.pos, pindex := r.pindex, resv := (u.plane r.cluster r.plane).resv } ∧
      t.res.flight = u.res.flight ++ [{ r with evict := [], nsets := 0 }] ∧ t.res.reqs.length < u.res.reqs.length ∧
      (r.nsets ≠ 0 → ∀ i, i ∈ r.evict → i < 4 → r.plane < 4 → i ≠ r.plane →
        ((∀ q, q ∈ u.res.reqs → q.sameChoice r = true → q.plane ≠ i) → (t.plane r.cluster i).st = .invalid) ∧
        ((∃ q, q ∈ u.res.reqs ∧ q.sameChoice r = true ∧ q.plane = i) → t.plane r.cluster i = u.plane r.cluster i)) ∧
      t.dsp = s.dsp ∧ t.mst = s.mst)) ∧
  (∀ (s : State) bus r, bus < 64 → s.res.flight.find? (fun r => decide (busOf r.cluster = bus)) = some r →
    let i := r.pos * (s.dirEnt r.ctx.toNat).planes + r.pindex
    let w := smGet [] s.res.store (storeKey s.slot r.ctx.toNat i)
    (s.badRow s.slot r.ctx.toNat i = none → planeCrcOk w = true → Completes (.fillComplete bus) s (fun t =>
      t.plane r.cluster r.plane = { s.plane r.cluster r.plane with st := .valid, age := 0, words := w } ∧
      t.res.flight = s.res.flight.filter (fun x => decide (x ≠ r)) ∧
      t.rd CTX_FILLS = plusOne (s.rd CTX_FILLS))) ∧
    (s.badRow s.slot r.ctx.toNat i = none → planeCrcOk w = false → r.again = false → Completes (.fillComplete bus) s (fun t => t.res.planes = s.res.planes ∧
      (s.canReceive r.cluster = true → s.ctxSt r.ctx.toNat = .available →
        t.res.flight = s.res.flight.filter (fun x => decide (x ≠ r)) ++ [{ r with again := true }]) ∧
      (s.canReceive r.cluster = false ∨ s.ctxSt r.ctx.toNat ≠ .available → { r with again := true } ∈ t.res.reqs))) ∧
    (∀ row, s.badRow s.slot r.ctx.toNat i = some row → exec (.fillComplete bus) s =
      .next ((State.fillFailed (State.readRows { s with res := { s.res with flight := s.res.flight.filter (fun x => decide (x ≠ r)) } } s.slot r.ctx.toNat i) r row).pinScan bus))) ∧
  (∀ (s : State) bus, bus < 64 →
    (2 ≤ ((s.pinScan bus).res.flight.filter (fun r => decide (busOf r.cluster = bus))).length ∨ (s.pinScan bus).firstFill bus = none →
      exec (.fillGrant bus) s = .next (s.pinScan bus)) ∧
    ((∀ r, r ∈ s.res.flight → busOf r.cluster ≠ bus) → exec (.fillComplete bus) s = .next s))

/-- R106, R118, R308, R309: ages step and saturate; a restore that ends well returns its context to AVAILABLE; the sweep finds upset planes. -/
def Obligations.AgesRestoresAndSweeps : Prop :=
  (∀ (s : State), Completes .planeAgeStep s (fun t => (∀ c i, t.plane c i = (if (s.plane c i).st = .invalid ∨ (s.plane c i).age = 0xFFFFFFFF#32 then s.plane c i
      else { s.plane c i with age := (s.plane c i).age + 1 })) ∧ t = { s with res := { s.res with planes := t.res.planes } })) ∧
  (∀ (s : State) ctx f r, ctx < 4096 → s.res.restoreQ.head? = some ctx → s.ctxSt ctx = .restoring → s.flt.supvUp = true → s.pins.vppLost = false →
    s.restoreRun f ctx = .inr r →
    (((s.restoreRows r).badRows s.slot ctx) = [] → Completes (.contextRestoreEnd ctx f) s (fun t => t.ctxSt ctx = .available ∧
      t.res.restoreQ = s.res.restoreQ.filter (fun x => decide (x ≠ ctx)) ∧ t.res.store = putRun s.res.store s.slot r ∧ t.res.planes = s.res.planes ∧
      t = { s with res := t.res })) ∧
    ((s.restoreRows r).badRows s.slot ctx ≠ [] → exec (.contextRestoreEnd ctx f) s = .next ((s.restoreRows r).makeUnavailable ctx 4))) ∧
  (∀ (s : State) ctx f cause, ctx < 4096 → s.res.restoreQ.head? = some ctx → s.ctxSt ctx = .restoring → s.flt.supvUp = true → s.pins.vppLost = false →
    s.restoreRun f ctx = .inl cause → exec (.contextRestoreEnd ctx f) s = .next (s.makeUnavailable ctx cause)) ∧
  (∀ (s : State) region, region < 64 →
    (∀ c i, c < 1024 → regionIdx c = region → i < 4 → (s.plane c i).st = .valid → planeCrcOk (s.plane c i).words = true) →
    exec (.planeSweep region) s = .next s) ∧
  (∀ (s : State) region c i, region < 64 → c < 1024 → regionIdx c = region → i < 4 → (s.cluster c).run = none → (s.plane c i).resv = none →
    (s.plane c i).st = .valid → planeCrcOk (s.plane c i).words = false →
    (∀ d j, d < 1024 → regionIdx d = region → j < 4 → (d ≠ c ∨ j ≠ i) → (s.plane d j).st = .valid → planeCrcOk (s.plane d j).words = true) →
    Completes (.planeSweep region) s (fun t => t.plane c i = Plane.zero ∧ (∀ d j, j < 4 → (d ≠ c ∨ j ≠ i) → t.plane d j = s.plane d j) ∧ t.dsp = s.dsp ∧ t.clusters = s.clusters ∧
      t = (((s.bump SYS_PUPSETS SYS_CNTOVF 0).setBits SYS_FLTSTAT 1).record 0x10 1 (natBytes 2 c ++ natBytes 1 i ++ natBytes 2 (s.plane c i).ctx.toNat)).invalidate c i))

/-- R114-R116: a pin is set where every condition holds, else only REFUSED is set; EN = 0 releases it and clears nothing else of it. -/
def Obligations.PinsAreSetAndReleased : Prop :=
  (∀ (s : State) c e v, c < 1024 → e < 2 →
    let ctx : BitVec 12 := v.extractLsb' 0 12
    let pos := (v.extractLsb' 16 4).toNat
    let o := s.pin c (1 - e)
    let ok := (s.dirEnt ctx.toNat).valid = true ∧ s.ctxSt ctx.toNat ≠ .unavailable ∧ pos = posOf (s.dirEnt ctx.toNat).shape c ∧
      (s.dirEnt ctx.toNat).planes + (if o.en then (s.dirEnt o.ctx.toNat).planes else 0) ≤ 2 ∧ ¬(o.ctx = ctx ∧ o.pos = pos) ∧ s.fenced c = false
    (ok → Completes (.pinEnable c e v) s (fun t => t.pin c e = ⟨true, v.getLsbD 30, false, pos, ctx⟩ ∧ t.pin c (1 - e) = o ∧ t.res.planes = s.res.planes ∧
      t = { s with res := { s.res with pins := t.res.pins, reqs := t.res.reqs } })) ∧
    (¬ok → Completes (.pinEnable c e v) s (fun t => t.pin c e = { s.pin c e with refused := true } ∧ t.pin c (1 - e) = o ∧
      t = { s with res := { s.res with pins := t.res.pins } }))) ∧
  (∀ (s : State) c e v, c < 1024 → e < 2 → Completes (.pinRelease c e v) s (fun t =>
      t.pin c e = ⟨false, v.getLsbD 30, (s.pin c e).refused, (v.extractLsb' 16 4).toNat, v.extractLsb' 0 12⟩ ∧
      t.pin c (1 - e) = s.pin c (1 - e) ∧ t.res.planes = s.res.planes ∧ t = { s with res := { s.res with pins := t.res.pins, reqs := t.res.reqs } })) ∧
  (∀ (s : State) c e v, (1024 ≤ c ∨ 2 ≤ e) → exec (.pinEnable c e v) s = .fault .noSuchUnit ∧ exec (.pinRelease c e v) s = .fault .noSuchUnit)

/-! Queues and ordered flows (R177-R189) -/

/-- R177-R179, R182: an accepted token takes the next place of the ring and raises DEPTH; a disabled or full queue refuses and counts; a head for the matching
store is presented and leaves once it is accepted. -/
def Obligations.QueuesAcceptAndServe : Prop :=
  (∀ (s : State) q (t : Token), q < 262144 → InputsFree s 4 → t.kind ≠ .error → (s.qrec q).code = .clean →
    ((s.qrec q).en = false ∨ (s.qrec q).atLimit = true) →
    let u := s.bump FLOW_ENQREF FLOW_STATUS 3
    exec (.enqueue q t) s = .next (State.setJudged { u with flow := { u.flow with first := q % 16 } } .refused)) ∧
  (∀ (s : State) q (t : Token) u b, q < 262144 → InputsFree s 4 → t.kind ≠ .error → (s.qrec q).code = .clean → (s.qrec q).en = true →
    (s.qrec q).atLimit = false → s.memWrite .agent ((s.qrec q).entry (s.qrec q).depth) (natBytes 16 (tokenNat t)) = (u, .ok, b) →
    let r := s.qrec q
    let mark := (r.wmark.toNat + 1) * 2 ^ r.log2sz.toNat
    Completes (.enqueue q t) s (fun v => v.mst.judged = .admitted ∧ v.flow.first = q % 16 ∧
      v.qrec q = { r with depth := r.depth + 1, hwm := max r.hwm ((r.depth + 1) / 2 ^ r.log2sz.toNat), wmev := r.wmev || decide (r.depth + 1 = mark) } ∧ v.dsp = u.dsp ∧
      (r.wmie = true → r.depth + 1 = mark → u.flow.wmq.length < 64 → v.flow.wmq = u.flow.wmq ++ [q]))) ∧
  (∀ (s : State) q u bs, q < 262144 → s.gsr = false → (s.qrec q).code = .clean → (s.qrec q).en = true → (s.qrec q).cons = 3 → 0 < (s.qrec q).depth →
    s.servedBefore q < 16 → s.memRead .agent ((s.qrec q).entry 0) 16 = (u, .ok, bs) → (tokenOf (bytesNat bs)).kind ≠ .error →
    let tok := tokenOf (bytesNat bs)
    let v := u.present tok
    (u.sinkBusy (mstPort tok.flow.toNat) = true →
      exec (.dequeue q) s = .next (State.setJudged { u with flow := { u.flow with lastServed := q } } .waits)) ∧
    (u.sinkBusy (mstPort tok.flow.toNat) = false → v.taken = true →
      exec (.dequeue q) s = .next { v.qDrop q with flow := { (v.qDrop q).flow with lastServed := q } }) ∧
    (u.sinkBusy (mstPort tok.flow.toNat) = false → v.taken = false →
      exec (.dequeue q) s = .next { v with flow := { v.flow with lastServed := q } })) ∧
  (∀ (s : State) q (t : Token), 262144 ≤ q → exec (.enqueue q t) s = .fault .noSuchUnit ∧ exec (.dequeue q) s = .fault .noSuchUnit)

/-- R178, R180, R181, R188: a record write sets the fields of R177 but HEAD and DEPTH, unless it would move the ring of an enabled or filled queue; FLOW_PUSH and
FLOW_POP reach the selected queue and report in FLOW_XST; FLOW_ORD sets NEXT and WINLOG; FLOW_WMQ gives the oldest report. -/
def Obligations.FlowRegistersReachQueues : Prop :=
  (∀ (s : State) i v,
    let q := fld (s.sel i FLOW_QSEL) 17 0
    let n : BitVec 128 := v ++ s.sel i (FLOW_QREC 2) ++ s.sel i (FLOW_QREC 1) ++ s.sel i (FLOW_QREC 0)
    let r := s.qrec q
    let moves := n.extractLsb' 92 36 ≠ r.base ∨ n.extractLsb' 88 4 ≠ r.log2sz
    let bad := (moves ∧ (r.en = true ∨ 0 < r.depth)) ∨ ∃ p, p ∈ s.flow.parked ∧ p.flow.toNat = q
    (bad → exec (.queueRecordWrite i v) s = .next ((s.setBits FLOW_STATUS 4).answer i .ok [])) ∧
    (¬bad → (∀ w, w ∈ s.flow.waits → w.flow.toNat ≠ q) → s.ecc.heldPoison = [] → Completes (.queueRecordWrite i v) s (fun t =>
      let r' := t.qrec q
      r'.base = n.extractLsb' 92 36 ∧ r'.log2sz = n.extractLsb' 88 4 ∧ r'.head = r.head ∧ r'.depth = r.depth ∧ r'.limit = n.extractLsb' 33 8 ∧
      r'.wmark = n.extractLsb' 25 8 ∧ r'.en = n.getLsbD 15 ∧ r'.ord = n.getLsbD 14 ∧ r'.cons = n.extractLsb' 12 2 ∧ r'.wmie = n.getLsbD 11 ∧ r'.code = .clean ∧
      r'.hwm = (if n.extractLsb' 16 9 = 0 then r.depth / 2 ^ r'.log2sz.toNat else r.hwm) ∧ r'.wmev = (r.wmev && !n.getLsbD 10) ∧ r'.errseen = (r.errseen && !n.getLsbD 9) ∧ (∀ p, p ≠ q → t.qrec p = s.qrec p) ∧
      t.ifc.ans = (s.answer i .ok []).ifc.ans ∧ t.flow = { s.flow with recs := t.flow.recs } ∧ t = { s with ifc := t.ifc, flow := t.flow }))) ∧
  (∀ (s : State) i v u ok, s.toQueue (fld (s.sel i FLOW_QSEL) 17 0) (tokenOf (s.staged4 i (FLOW_PUSH 0) v)) = (u, ok) →
    Completes (.flowPush i v) s (fun t => t.flow = u.flow ∧ tb (t.sel i FLOW_XST) 0 = !ok ∧ tb (t.sel i FLOW_XST) 1 = tb (u.sel i FLOW_XST) 1)) ∧
  (∀ (s : State) i q r u tok, q = fld (s.sel i FLOW_QSEL) 17 0 → r = s.qrec q → r.en = true → r.cons = 0 → s.qPop q (r.depth + 1) = (u, some tok) →
    Completes (.flowPop i) s (fun t => t.flow = u.flow ∧ tb (t.sel i FLOW_XST) 1 = false ∧ (∀ w, w < 4 → t.sel i (FLOW_POP w) = BitVec.ofNat 32 (tokenNat tok / 2 ^ (32 * w))) ∧
      ansOf t i = ⟨.ok, wordBytes (BitVec.ofNat 32 (tokenNat tok))⟩)) ∧
  (∀ (s : State) i q, q = fld (s.sel i FLOW_QSEL) 17 0 → ((s.qrec q).en = false ∨ (s.qrec q).cons ≠ 0) →
    Completes (.flowPop i) s (fun t => t.flow = s.flow ∧ tb (t.sel i FLOW_XST) 1 = true ∧ ansOf t i = ⟨.ok, [0, 0, 0, 0]⟩)) ∧
  (∀ (s : State) i v, let f := fld (s.sel i FLOW_QSEL) 17 0
    let next : BitVec 24 := v.extractLsb' 8 24
    let win : BitVec 5 := v.extractLsb' 3 5
    ((23 < win.toNat ∨ 2 ^ (s.order f).winlog.toNat < (next - (s.order f).next).toNat) → exec (.flowOrdWrite i v) s = .next ((s.setBits FLOW_STATUS 4).answer i .ok [])) ∧
    (win.toNat ≤ 23 → (next - (s.order f).next).toNat ≤ 2 ^ (s.order f).winlog.toNat →
      exec (.flowOrdWrite i v) s = .next ((((s.setOrder f ⟨next, win⟩).releaseAll f).retryResolved).answer i .ok []))) ∧
  (∀ (s : State) i, (s.flow.wmq = [] → exec (.flowWmqRead i) s = .next (s.answer i .ok [0, 0, 0, 0])) ∧
    (∀ q qs, s.flow.wmq = q :: qs → Completes (.flowWmqRead i) s (fun t => t.flow = { s.flow with wmq := qs } ∧
      ansOf t i = ⟨.ok, wordBytes (BitVec.ofNat 32 (2 ^ 31 + q))⟩ ∧ t = { s with ifc := t.ifc, flow := t.flow })))

/-! Network (R196-R215) -/

/-- R201, R205-R207, R211: an output grants, of the packets that may go, one of the greatest urgency; a packet alone in the network moves one step along its
route, and on its own network each step brings it one node nearer; urgency steps up to 15; a bounced packet is sent again in order. -/
def Obligations.PacketsTakeTheirRoute : Prop :=
  (∀ (s : State) net node out pr p, nodeOk net node = true → out < 16 →
    winner (smGet 0 s.noc.lastWin (16 * routerKey net node + out)) ((s.requests net node out).filter (fun x => s.hopOpen net node out x.2)) = some (pr, p) →
    (pr, p) ∈ s.requests net node out ∧ s.hopOpen net node out p = true ∧
    (∀ x, x ∈ s.requests net node out → s.hopOpen net node out x.2 = true → x.2.h.urg.toNat ≤ p.h.urg.toNat) ∧
    ((s.hop net node out p).stays p = false → exec (.packetHop net node ⟨out, .none⟩) s = .next (State.settle
      (let u := ((s.requests net node out).filter (fun x => decide (x.1 ≠ pr))).foldl (fun s x => s.waitOne x.2) (s.hop net node out p)
       { u with noc := { u.noc with lastWin := smSet 0 u.noc.lastWin (16 * routerKey net node + out) (pr + 1) } })))) ∧
  (∀ (s : State) net node out, nodeOk net node = true → out < 16 → (∀ x, x ∈ s.requests net node out → s.hopOpen net node out x.2 = false) →
    exec (.packetHop net node ⟨out, .none⟩) s = .next ((s.requests net node out).foldl (fun s x => s.waitOne x.2) s)) ∧
  (∀ (s : State) net node out u pr p, nodeOk net node = true → out < 16 → u ≠ .none →
    winner (smGet 0 s.noc.lastWin (16 * routerKey net node + out)) ((s.requests net node out).filter (fun x => s.hopOpen net node out x.2)) = some (pr, p) →
    exec (.packetHop net node ⟨out, u⟩) s = exec (.packetHop net node ⟨out, .none⟩)
      { s with noc := { s.noc with pkts := s.noc.pkts.map (fun (q : Pkt) => if q.pid = p.pid ∧ q.ue ≠ .header then { q with ue := u } else q) } }) ∧
  (∀ (s : State) net node out u, winner (smGet 0 s.noc.lastWin (16 * routerKey net node + out))
      ((s.requests net node out).filter (fun x => s.hopOpen net node out x.2)) = none →
    exec (.packetHop net node ⟨out, u⟩) s = exec (.packetHop net node ⟨out, .none⟩) s) ∧
  (∀ (s : State) net node out p, (p.ue = .header → s.hop net node out p = s.nocUe p) ∧ (p.ue = .payload → p.h.vc ≠ 1 → s.hop net node out p = s.bounce p)) ∧
  (∀ (s : State) p n d i, s.noc.pkts = [p] → s.noc.kept = [] → p.inj = false → p.ue = .none → p.inp < 16 → p.h.flits ≤ 6 → nodeOk p.net p.node = true → s.pins.ioRst = false →
    nextOut p.h p.net p.node < 16 → nextHop p.h p.net p.node (nextOut p.h p.net p.node) = some (n, d, i) → s.freezing n d = false →
    s.portSt p.h.dst = .ready →
    Completes (.packetHop p.net p.node ⟨nextOut p.h p.net p.node, .none⟩) s (fun t => t.noc.pkts = [{ p with net := n, node := d, inp := i }] ∧
      t = { s with noc := { s.noc with pkts := t.noc.pkts, lastWin := t.noc.lastWin } })) ∧
  (∀ (h : Hdr) net node, net ≤ 3 → nodeOk net node = true → h.dnet.toNat = net → (net = 3 → h.dx.toNat < 8 ∧ h.dy.toNat < 4) →
    let dist (n : Nat) : Int := |(nodeX net n : Int) - h.dx.toNat| + |(nodeY net n : Int) - h.dy.toNat|
    (dist node = 0 → nextOut h net node = 4 + h.dport.toNat) ∧
    (dist node ≠ 0 → nextOut h net node < 4 ∧ ∃ d i, nextHop h net node (nextOut h net node) = some (net, d, i) ∧ nodeOk net d = true ∧ dist d + 1 = dist node)) ∧
  (∀ (s : State) pkt p, s.pkt pkt = some p → p.inj = false → (∃ x, x ∈ s.requests p.net p.node (nextOut p.h p.net p.node) ∧ x.2.pid = pkt) →
    Completes (.urgencyStep pkt) s (fun t => t.pkt pkt = some { p with h := { p.h with wcnt := 0, urg := (if s.ageing p.net p.node = true ∧ p.h.urg ≠ 15 then p.h.urg + 1 else p.h.urg) } } ∧
      (∀ j, j ≠ pkt → t.pkt j = s.pkt j) ∧ t.noc.kept = s.noc.kept ∧ t.clusters = s.clusters)) ∧
  (∀ (s : State) pkt k, s.noc.kept.find? (fun k => decide (k.p.pid = pkt)) = some k → s.firstBack k.p.h.src = some k →
    exec (.bounceResend pkt) s = .next ((s.sendKept k).sendHeld k.p.h.src (s.pktAddr k.p) s.noc.kept.length)) ∧
  (∀ (s : State) net node out, (nodeOk net node = false ∨ 16 ≤ out) → ∀ u, exec (.packetHop net node ⟨out, u⟩) s = .fault .noSuchUnit)

/-- R209, R210: the states of an endpoint port. R212, R213: a freezing router is FROZEN once its buffers are empty, NOC_RCFG takes effect only then and
with AGESHIFT 4 to 12, and UNFREEZE ends it. -/
def Obligations.PortsAndRoutersChangeState : Prop :=
  ((∀ (s : State) i, portOk (s.psel i) = true → s.portSt (s.psel i) = .ready →
    Completes (.portDrainRequest i) s (fun t => t.portSt (s.psel i) = .drain ∧ (∀ q, portKey q ≠ portKey (s.psel i) → t.portSt q = s.portSt q) ∧ ansOf t i = ⟨.ok, []⟩ ∧
      smGet false t.noc.want (portKey (s.psel i)) = true ∧ t = { s with noc := t.noc, ifc := t.ifc })) ∧
  (∀ (s : State) i, portOk (s.psel i) = true → (s.portSt (s.psel i) = .drain ∨ s.portSt (s.psel i) = .drained) → portDom (s.psel i) = none →
    Completes (.portDrainCancel i) s (fun t => t.portSt (s.psel i) = .ready ∧ smGet false t.noc.want (portKey (s.psel i)) = false ∧ ansOf t i = ⟨.ok, []⟩ ∧
      t = { s with noc := t.noc, ifc := t.ifc })) ∧
  (∀ (s : State) net node port, portOk ⟨net, node, port⟩ = true → s.portSt ⟨net, node, port⟩ = .drain → s.portEmpty ⟨net, node, port⟩ = true →
    exec (.portDrained net node port) s = .next (match portDom ⟨net, node, port⟩ with
      | some d => (s.setPort ⟨net, node, port⟩ .drained).domDrained d
      | none => s.setPort ⟨net, node, port⟩ .drained)) ∧
  (∀ (s : State) net node port, portOk ⟨net, node, port⟩ = true → s.portSt ⟨net, node, port⟩ = .drain →
    exec (.portDrainTo net node port) s = .next (let u := (s.setPort ⟨net, node, port⟩ .ready).setBits NOC_STATUS 8
      match portDom ⟨net, node, port⟩ with
      | some d => if s.pwr.leaving.contains d then u.pwrRefuse d 2 else u
      | none => u)) ∧
  (∀ (s : State) net node port, portOk ⟨net, node, port⟩ = true → portDom ⟨net, node, port⟩ = none →
    ((s.portSt ⟨net, node, port⟩ = .drain ∨ s.portSt ⟨net, node, port⟩ = .drained) → exec (.portWake net node port) s = .next (s.setPort ⟨net, node, port⟩ .ready)) ∧
    (s.portSt ⟨net, node, port⟩ = .off → exec (.portWake net node port) s = .next (s.setPort ⟨net, node, port⟩ .waking)) ∧
    (s.portSt ⟨net, node, port⟩ = .waking → exec (.portReady net node port) s = .next (s.setPort ⟨net, node, port⟩ .ready).settle)) ∧
  (∀ (s : State) net node port d, portOk ⟨net, node, port⟩ = true → portDom ⟨net, node, port⟩ = some d → s.portSt ⟨net, node, port⟩ = .waking →
    let u := s.setPort ⟨net, node, port⟩ .ready
    exec (.portReady net node port) s = .next (State.settle (if d < 1024 then (if s.dom d = .stratus ∨ s.dom d = .nimbus then u.clusterOn d else u) else u.domReady d))) ∧
  (∀ (s : State) net node port d, portOk ⟨net, node, port⟩ = true → portDom ⟨net, node, port⟩ = some d → 1024 ≤ d →
    exec (.portWake net node port) s = .next ((s.domOnReq d).portWake ⟨net, node, port⟩)) ∧
  (∀ (s : State) net node port d, portOk ⟨net, node, port⟩ = true → portDom ⟨net, node, port⟩ = some d → d < 1024 →
    exec (.portWake net node port) s = .next ((s.clusterWakeReq d).portWake ⟨net, node, port⟩)) ∧
  (∀ (s : State) net node port, portOk ⟨net, node, port⟩ = false → exec (.portDrained net node port) s = .fault .noSuchUnit ∧ exec (.portDrainTo net node port) s = .fault .noSuchUnit ∧
    exec (.portWake net node port) s = .fault .noSuchUnit ∧ exec (.portReady net node port) s = .fault .noSuchUnit)) ∧
  ((∀ (s : State) i net node, s.rsel i = (net, node) → nodeOk net node = true →
    Completes (.routerFreeze i) s (fun t => t.freezing net node = true ∧ t.noc.pkts = s.noc.pkts ∧ t.noc.frozen = s.noc.frozen ∧ ansOf t i = ⟨.ok, []⟩ ∧ t = { s with noc := t.noc, ifc := t.ifc }) ∧
    Completes (.routerUnfreeze i) s (fun t => t.freezing net node = false ∧ smGet false t.noc.frozen (routerKey net node) = false ∧ ansOf t i = ⟨.ok, []⟩ ∧ t.clusters = s.clusters)) ∧
  (∀ (s : State) net node, nodeOk net node = true → s.freezing net node = true → smGet false s.noc.frozen (routerKey net node) = false →
    (∀ p, p ∈ s.noc.pkts → p.inj = true ∨ p.inp = 16 ∨ p.net ≠ net ∨ p.node ≠ node) →
    Completes (.routerFrozen net node) s (fun t => smGet false t.noc.frozen (routerKey net node) = true ∧ t.rd NOC_STATUS = s.rd NOC_STATUS ||| 1 ∧ RegsKept [NOC_STATUS] s t ∧
      t.noc.pkts = s.noc.pkts)) ∧
  (∀ (s : State) i v net node, s.rsel i = (net, node) → nodeOk net node = true →
    (smGet false s.noc.frozen (routerKey net node) = true → 4 ≤ fld v 3 0 → fld v 3 0 ≤ 12 →
      Completes (.nocRcfgWrite i v) s (fun t => t.rcfg net node = (v.extractLsb' 8 1 ++ 0#4 ++ v.extractLsb' 0 4 : BitVec 9) ∧ ansOf t i = ⟨.ok, []⟩ ∧ t.noc.pkts = s.noc.pkts ∧
        t = { s with noc := t.noc, ifc := t.ifc })) ∧
    ((smGet false s.noc.frozen (routerKey net node) = false ∨ fld v 3 0 < 4 ∨ 12 < fld v 3 0) →
      exec (.nocRcfgWrite i v) s = .next ((s.setBits NOC_STATUS 4).answer i .ok []))) ∧
  (∀ (s : State) net node, nodeOk net node = false → exec (.routerFrozen net node) s = .fault .noSuchUnit))


/-! Registers (R8-R17, R76, R77, R190, R536) -/

/-- The stored word of a register is the one written last, and writing one register changes no other. R190: a counter adds and holds at its largest value,
setting its overflow bit when it reaches it; a 64-bit one likewise over its pair. -/
def Obligations.RegistersReadBackAndCount : Prop :=
  (∀ (s : State) a v, (s.wr a v).rd a = v ∧ RegsKept [a] s (s.wr a v) ∧ (∀ m, (s.setBits a m).rd a = s.rd a ||| m ∧ RegsKept [a] s (s.setBits a m)) ∧
    (∀ m, (s.clrBits a m).rd a = s.rd a &&& ~~~m) ∧ s.wr a v = { s with regs := (s.wr a v).regs, pcie := (s.wr a v).pcie }) ∧
  ((∀ (s : State) a flag b n, a ≠ flag → let t := s.bumpN a flag b n
    t.rd a = BitVec.ofNat 32 (min ((s.rd a).toNat + n) (2 ^ 32 - 1)) ∧ RegsKept [a, flag] s t ∧
    t.rd flag = (if (s.rd a).toNat + n ≥ 2 ^ 32 - 1 then s.rd flag ||| BitVec.ofNat 32 (2 ^ b) else s.rd flag)) ∧
  (∀ (s : State) lo flag b n, flag ≠ lo → flag ≠ lo + 4 → let t := s.bump64N lo flag b n
    t.rd64 lo = min (s.rd64 lo + n) (2 ^ 64 - 1) ∧ RegsKept [lo, lo + 4, flag] s t ∧
    t.rd flag = (if s.rd64 lo + n ≥ 2 ^ 64 - 1 then s.rd flag ||| BitVec.ofNat 32 (2 ^ b) else s.rd flag)))


/-- R8-R11, R33, R35, R536: an access that reaches a register reads its value or writes it by its access codes, and is answered; an offset that no register
occupies reads zero and ignores writes; an access that reaches nothing is answered by an error, one to a sleeping window reads zero and writes nothing. -/
def Obligations.RegisterAccessesAreAnswered : Prop :=
  (∀ (s : State) i a v, Reaches s i a → s.ioBlock a = false → inBlocks a = true → inWindows a = false → blockOf a = 9 → regPair a = none → a ≠ DSP_CSEL → a ≠ DSP_CMIRROR 6 → a ≠ DSP_CNTOVF →
    ∀ d, regDesc a = some d →
    let w := (s.rd a &&& ~~~BitVec.ofNat 32 d.rw &&& ~~~(v &&& BitVec.ofNat 32 d.w1c)) ||| (v &&& BitVec.ofNat 32 d.rw)
    exec (.registerWrite i a v) s = .next (((s.wr a w).regFlits i a .ok).answer i .ok []) ∧
      exec (.regAccess i a true v) s = .next (((s.wr a w).regFlits i a .ok).answer i .ok [])) ∧
  (∀ (s : State) i a v, Reaches s i a → inWindows a = false → regPair a = none → a ≠ FLOW_POP 0 → a ≠ FLOW_WMQ → a ≠ MCE_KIDALLOC →
    let u := if a = SEC_SESS ∧ s.sec.sess.st ≠ .idle ∨ a = CFG_LDPROG ∧ s.imageMoves = true then s.drawn else s
    exec (.regAccess i a false v) s = .next ((u.regFlits i a .ok).answer i .ok (wordBytes (s.regValue i a)))) ∧
  (∀ (s : State) i a v k, s.accessGate i a = some k →
    exec (.regAccess i a false v) s = .next (s.answer i k (if k = .ok ∨ k = .poisoned then [0, 0, 0, 0] else [])) ∧
    exec (.regAccess i a true v) s = .next (s.answer i k []) ∧ exec (.registerWrite i a v) s = .next (s.answer i k [])) ∧
  (∀ (s : State) i a v, s.accessGate i a = none → isMem a = false →
    (a % 4 ≠ 0 → exec (.regAccess i a false v) s = .next (s.answer i .error []) ∧ exec (.registerWrite i a v) s = .next (s.answer i .error [])) ∧
    (a % 4 = 0 → s.regHeld i a = true → exec (.regAccess i a false v) s = .next (s.answer i .waits []) ∧ exec (.registerWrite i a v) s = .next (s.answer i .waits [])) ∧
    (a % 4 = 0 → s.regHeld i a = false → s.windowDark i a = true →
      exec (.regAccess i a false v) s = .next (((if isPairLow a then s.setSnapReg i a 0 else s).regFlits i a .ok).answer i .ok [0, 0, 0, 0]) ∧
      exec (.registerWrite i a v) s = .next ((s.regFlits i a .ok).answer i .ok []))) ∧
  (∀ (s : State) i a v, Reaches s i a → regDesc a = none → regPair a = none → (secWriter i = true ∨ inBlocks a = false ∨ blockOf a ≠ 6) →
    exec (.regAccess i a false v) s = .next ((s.regFlits i a .ok).answer i .ok [0, 0, 0, 0]) ∧
    exec (.registerWrite i a v) s = .next ((s.regFlits i a .ok).answer i .ok [])) ∧
  (∀ (s : State) i a, s.pins.por = false → s.pins.sysRst = false → s.flt.supvUp = true → s.gsr = false → s.pins.ioRst = false →
    inBlocks a = false → inWindows a = false → isMem a = false → s.accessGate i a = some .error)

/-- R13, R14: a read of a low half gives it and takes the high half into the snapshot of the interface; a write of a low half waits in its staging register
until the high half commits both; a high half whose low half is not staged is ignored. -/
def Obligations.PairsAreReadAndWrittenWhole : Prop :=
  (∀ (s : State) i a, Reaches s i a → inWindows a = false → regPair a = some (a, false) →
    Completes (.pairLowRead i a) s (fun t => ansOf t i = ⟨.ok, wordBytes (s.regValue i a)⟩ ∧ smGet (0, 0) t.ifc.snap (ifCode i) = (a + 1, s.regValue i (a + 4)) ∧
      t.ifc.stage = s.ifc.stage ∧ RegsKept [NOC_CNTOVF] s t ∧ t.noc.pkts = s.noc.pkts ∧ t = { s with ifc := t.ifc, noc := t.noc, regs := t.regs, pcie := t.pcie })) ∧
  (∀ (s : State) i a v, Reaches s i a → s.ioBlock a = false → (blockOf a ≠ 6 ∨ secWriter i = true) → regPair a = some (a, false) →
    exec (.pairLowWrite i a v) s = .next (((s.setStage i (a + 1, v)).regFlits i a .ok).answer i .ok [])) ∧
  (∀ (s : State) i lo v, Reaches s i (lo + 4) → s.ioBlock (lo + 4) = false → (blockOf (lo + 4) ≠ 6 ∨ secWriter i = true) → regPair (lo + 4) = some (lo, true) →
    lo ≠ STRATA_RTC_LO →
    let low := (smGet (0, 0) s.ifc.stage (ifCode i)).2
    let u := s.setStage i (0, 0)
    ((smGet (0, 0) s.ifc.stage (ifCode i)).1 = lo + 1 → lo ≠ SEC_TARGET_LO → (blockOf lo = 22 → tb (s.rd (PCIE_DMA_CTRL ((offsetOf lo - 0x1000) / 64))) 31 = false) →
      exec (.pairHighWrite i (lo + 4) v) s = .next ((((u.genWrite lo low).genWrite (lo + 4) v).regFlits i (lo + 4) .ok).answer i .ok [])) ∧
    ((smGet (0, 0) s.ifc.stage (ifCode i)).1 = lo + 1 → lo = SEC_TARGET_LO →
      exec (.pairHighWrite i (lo + 4) v) s = .next ((((u.selWrite i lo low).selWrite i (lo + 4) v).regFlits i (lo + 4) .ok).answer i .ok [])) ∧
    ((smGet (0, 0) s.ifc.stage (ifCode i)).1 ≠ lo + 1 → exec (.pairHighWrite i (lo + 4) v) s = .next ((s.regFlits i (lo + 4) .ok).answer i .ok []))) ∧
  (∀ (s : State) i c, c < 1024 → Reaches s i (CLW_MDATA_LO c) →
    let w := fld (s.rd (CLW_MADDR c)) 10 0
    let k := (s.cluster c).markAt (BitVec.ofNat 32 (8 * w))
    let x : BitVec 64 := if smGet false (s.cluster c).written w then BitVec.ofNat 64 (bytesNat (smGetList 0 (s.cluster c).mem (8 * w) 8)) else 0
    (k.bad = false → (s.cluster c).memLost = false →
      Completes (.clwMdataRead i c) s (fun t => ansOf t i = ⟨.ok, wordBytes (x.extractLsb' 0 32)⟩ ∧ smGet (0, 0) t.ifc.snap (ifCode i) = (CLW_MDATA_LO c + 1, x.extractLsb' 32 32) ∧
        (k = .clean → t.clusters = s.clusters) ∧ (∀ b, smGet 0 (t.cluster c).mem b = smGet 0 (s.cluster c).mem b) ∧ t.cells = s.cells ∧ t.dsp = s.dsp)) ∧
    (k.bad = true → exec (.clwMdataRead i c) s =
      .next (((s.noteBad (unitCmem c) w (decide (k = .poison)) 0).regFlits i (CLW_MDATA_LO c) .error).answer i .error []))) ∧
  (∀ (s : State) i c, (c < 1024 → exec (.mdataTimeout i c) s = .next (s.answer i .error [])) ∧
    (1024 ≤ c → exec (.mdataTimeout i c) s = .fault .noSuchUnit ∧ exec (.clwMdataRead i c) s = .fault .noSuchUnit))

/-! Memories (R216-R257) -/

/-- R218, R220, R223: a read whose sectors the slice holds is answered from its array; one that needs a sector waits for its fetch; the fetch fills the
sector and serves the requests that waited for it. An address no endpoint backs is answered by an error (R33). -/
def Obligations.CacheServesRequests : Prop :=
  (∀ (s : State) (r : MemReq) w, MemReq.wf r = true → isExternal r.addr = true → s.extAbsent r.addr = false → s.extWaits r.addr = false → s.lineWaits r = false →
    s.sliceBypass (cSlice r.addr) = false → r.write = false → s.cFind r.addr = some w →
    (s.lockedNow (cSlice r.addr)).getLsbD w = false → (∀ sec, sec ∈ reqSectors r → s.sectorValid sec = true) →
    s.ecc.merge = [] → s.cache.marks = [] →
    Completes (.cacheRequest r) s (fun t =>
      smGet Answer.none t.ifc.ans (masterKey r.master) =
        ⟨.ok, (List.range r.len).map (fun i => smGet 0 s.cache.arr (lineKey (cSlice r.addr) w (cSet r.addr) * 256 + (r.addr + i) % 256))⟩ ∧
      t.cache = { s.cache with plru := t.cache.plru, hits := t.cache.hits, ovf := t.cache.ovf } ∧
      smGet 0 t.cache.hits (cSlice r.addr) = plusOne (smGet 0 s.cache.hits (cSlice r.addr)) ∧ t = { s with ifc := t.ifc, cache := t.cache })) ∧
  (∀ (s : State) (r : MemReq) w, MemReq.wf r = true → isExternal r.addr = true → s.extAbsent r.addr = false → s.extWaits r.addr = false → s.lineWaits r = false →
    s.sliceBypass (cSlice r.addr) = false → r.write = true → s.cFind r.addr = some w →
    (s.lockedNow (cSlice r.addr)).getLsbD w = false → (∀ sec, sec ∈ reqSectors r → s.sectorValid sec = true) →
    Completes (.cacheRequest r) s (fun t => (smGet Answer.none t.ifc.ans (masterKey r.master)).kind = .ok ∧
      (∀ sec, sec ∈ reqSectors r → (t.cline (lineKey (cSlice r.addr) w (cSet r.addr))).d.getLsbD (cSector sec) = true) ∧
      t.ddr = s.ddr ∧ t.cache.waiting = s.cache.waiting)) ∧
  (∀ (s : State) (r : MemReq), MemReq.wf r = true → isExternal r.addr = true → s.extAbsent r.addr = false →
    (s.extWaits r.addr = true ∨ s.lineWaits r = true ∨ (s.sliceBypass (cSlice r.addr) = false ∧
      (∀ w, s.cFind r.addr = some w → (s.lockedNow (cSlice r.addr)).getLsbD w = false) ∧ ∃ sec, sec ∈ reqSectors r ∧ s.mustFetch r sec = true)) →
    Completes (.cacheRequest r) s (fun t => t.cache = { s.cache with waiting := s.cache.waiting ++ [r] } ∧
      smGet Answer.none t.ifc.ans (masterKey r.master) = ⟨.waits, []⟩ ∧ t = { s with ifc := t.ifc, cache := t.cache })) ∧
  (∀ (s : State) (r : MemReq), MemReq.wf r = true → isLockWin r.addr = false → (isExternal r.addr = false ∨ s.extAbsent r.addr = true) →
    exec (.cacheRequest r) s = .next (s.reply r.master .error [])) ∧
  (∀ (s : State) (r : MemReq), MemReq.wf r = false → exec (.cacheRequest r) s = .fault .noSuchUnit) ∧
  (∀ (s : State) (r : MemReq), isLockWin r.addr = true →
    let o := r.addr - 0x1200000000
    (o / 2 ^ 16 % 16 = 15 ∨ s.dom (domSlice (o / 2 ^ 20)) ≠ .on ∨
      (s.cache.trans = [] ∧ s.ecc.march = none ∧ (s.lockMask (o / 2 ^ 20)).getLsbD (o / 2 ^ 16 % 16) = false)) → s.serveLockWin r = (s, .error, [])) ∧
  (∀ (s : State) addr (r : MemReq) (u : State) w, s.cache.waiting = [r] → r.write = false → r.len ≤ 64 - addr % 64 → r.addr = addr → 0 < r.len →
    let sec := addr / 64 * 64
    isExternal addr = true → s.mustFetch r sec = true → s.extWaits sec = false → s.sliceBypass (cSlice sec) = false → s.pins.ioRst = false →
    s.ddrReach sec = true → s.cFind sec = none → s.cAlloc sec = (u, some w) →
    let v := u.sectorFetch sec w
    v.extWaits addr = false → v.sectorValid sec = true → v.cache.waiting = [r] → (v.serveLine r).2.1 ≠ .waits →
    exec (.sectorFetchResponse addr) s = .next
      (let x := (v.serveLine r).1.reply r.master (v.serveLine r).2.1 (v.serveLine r).2.2
       { x with cache := { x.cache with waiting := [] } })) ∧
  (∀ (s : State) addr (r : MemReq), s.cache.waiting = [r] → s.extWaits (addr / 64 * 64) = false → s.sliceBypass (cSlice (addr / 64 * 64)) = false →
    s.needsSector (addr / 64 * 64) r = true →
    (s.pins.ioRst = true → Completes (.sectorFetchResponse addr) s (fun t => t.cache = { s.cache with waiting := [] } ∧
      smGet Answer.none t.ifc.ans (masterKey r.master) = ⟨.halted, []⟩)) ∧
    (s.pins.ioRst = false → s.ddrReach (addr / 64 * 64) = false → exec (.sectorFetchResponse addr) s = .next s)) ∧
  (∀ (s : State) addr, s.cache.waiting = [] → exec (.sectorFetchResponse addr) s = .next s)

/-- R224, R225: a lock transition or a maintenance operation is started unless one runs; at its end the changing ways are empty and read zero under the new
mask; CLEAN leaves no dirty line of its scope, INVAL and CLEAN_INV leave no line of it, and INVAL writes nothing to external memory. -/
def Obligations.CacheMaintenance : Prop :=
  (∀ (s : State) i v, (smFind s.cache.trans (s.ssel i) = none →
      Completes (.cacheLockWrite i v) s (fun t => smFind t.cache.trans (s.ssel i) = some (BitVec.ofNat 16 (v.toNat % 2 ^ 15)) ∧ t.cache.lock = s.cache.lock ∧
        ansOf t i = ⟨.ok, []⟩ ∧ t = { s with ifc := t.ifc, cache := t.cache })) ∧
    (smFind s.cache.trans (s.ssel i) ≠ none → exec (.cacheLockWrite i v) s = .next ((s.setBits CACHE_STATUS 1).answer i .ok []))) ∧
  (∀ (s : State) slice m, slice < 256 → smFind s.cache.trans slice = some m →
    (∀ w set, w < 15 → set < 256 → (s.cline (lineKey slice w set)).d = 0) →
    Completes (.lockTransitionEnd slice) s (fun t => t.lockMask slice = m.truncate 15 ∧ smFind t.cache.trans slice = none ∧
      (∀ w, w < 15 → (s.lockMask slice).getLsbD w ≠ m.getLsbD w →
        (∀ i, i < 65536 → smGet 0 t.cache.arr ((16 * slice + w) * 65536 + i) = 0) ∧ (∀ set, set < 256 → (t.cline (lineKey slice w set)).v = 0)) ∧
      t = { s with cache := t.cache, ecc := t.ecc })) ∧
  (∀ (s : State) slice, slice < 256 → smFind s.cache.trans slice = none → exec (.lockTransitionEnd slice) s = .next s) ∧
  (∀ (s : State) slice, 256 ≤ slice → exec (.lockTransitionEnd slice) s = .fault .noSuchUnit) ∧
  (∀ (s : State) (v : Word) (op : Nat) (i : Instr), (op = 1 ∧ i = .cacheClean v) ∨ (op = 2 ∧ i = .cacheInval v) ∨ (op = 3 ∧ i = .cacheCleanInv v) →
    (s.cache.mop = none → fld v 5 4 ≠ 3 → Completes i s (fun t => t.cache = { s.cache with mop := some ⟨BitVec.ofNat 3 op, BitVec.ofNat 2 (fld v 5 4),
        BitVec.ofNat 6 (fld v 13 8), s.rd64 CACHE_MBASE_LO, s.rd64 CACHE_MLEN_LO⟩ } ∧ RegsKept [CACHE_MOP] s t)) ∧
    (s.cache.mop ≠ none → exec i s = .next (s.setBits CACHE_STATUS 1))) ∧
  (∀ (s : State), s.cache.mop = none → exec .mopDone s = .next s) ∧
  (∀ (s : State) (m : Mop), s.cache.mop = some m → m.op ≠ 2 → ∀ t, exec .mopDone s = .next t → t.cache.mop = none →
    ∀ e, e ∈ t.cache.lines → m.hits e.1 e.2 = true → e.2.d = 0) ∧
  (∀ (s : State) (m : Mop), s.cache.mop = some m → smSorted s.cache.lines = true → (m.op = 2 ∨ ∀ e, e ∈ s.cache.lines → e.2.d = 0) →
    Completes .mopDone s (fun t => t.cache.mop = none ∧ tb (t.rd CACHE_STATUS) 1 = true ∧ t.ddr = s.ddr ∧ RegsKept [CACHE_STATUS] s t ∧
      (m.op = 1 → t.cache.lines = s.cache.lines) ∧ (m.op ≠ 1 → ∀ e, e ∈ t.cache.lines → m.hits e.1 e.2 = false)))

/-- R226-R236, R252-R255, R257: the owner and the device agents are served, others are refused and logged; an alias write sets or clears the bits given and no
others; a word written in parts reads back merged; a correction is written back. -/
def Obligations.ScratchpadAndMergedWords : Prop :=
  (∀ (s : State) (r : MemReq), MemReq.wf r = true → isSpadPlain r.addr = true →
    let o := spadOff r.addr
    let n := o / 2 ^ 19
    s.retiredPage 1 (o / 4096) = false → s.retiredUnit (unitSpad n) = false →
    (s.dom (domBank n) ≠ .on → exec (.spadRequest r) s = .next ((s.wakeDom (domBank n)).reply r.master .waits [])) ∧
    (s.dom (domBank n) = .on → s.marching (unitSpad n) = false →
      (spadAllowed (s.rd (SPAD_BANK n)) r.master r.write = true → r.write = true → exec (.spadRequest r) s = .next ((s.writeWords (unitSpad n) r).reply r.master .ok [])) ∧
      (spadAllowed (s.rd (SPAD_BANK n)) r.master r.write = true → r.write = false → s.ecc.merge = [] → s.spad.marks = [] → s.ecc.heldPoison = [] →
        exec (.spadRequest r) s = .next (s.reply r.master .ok ((List.range r.len).map (fun i => smGet (s.spad.dflt (o + i)) s.spad.arr (o + i))))) ∧
      (spadAllowed (s.rd (SPAD_BANK n)) r.master r.write = false →
        Completes (.spadRequest r) s (fun t => smGet Answer.none t.ifc.ans (masterKey r.master) = ⟨.error, []⟩ ∧ t.spad = s.spad ∧ t.ecc = s.ecc ∧
          t.rd SPAD_VCOUNT = plusOne (s.rd SPAD_VCOUNT) ∧ tb (t.rd SPAD_STATUS) 0 = true ∧
          (tb (s.rd SPAD_STATUS) 0 = false → t.rd64 SPAD_VADDR_LO = r.addr) ∧
          (tb (s.rd SPAD_STATUS) 0 = true → t.rd64 SPAD_VADDR_LO = s.rd64 SPAD_VADDR_LO ∧ t.rd SPAD_VINFO = s.rd SPAD_VINFO))))) ∧
  (∀ (bank : Word) (m : Master) code, masterCode m = some code →
    (fld bank 7 0 = code → ∀ w, spadAllowed bank m w = true) ∧ (fld bank 7 0 ≠ code → spadAllowed bank m true = false ∧
      (spadAllowed bank m false = true ↔ tb bank 8 = true ∧ fld bank 7 0 ≠ 0xFF))) ∧
  (∀ (s : State) (r : MemReq) (bs : List Byte) win o, r.bytes = bs.map some → bs.length = 8 → r.len = 8 → o % 8 = 0 → o < 0x4000000 → (win = 1 ∨ win = 2) →
    r.addr = 0x1000000000 + win * 0x4000000 + o → MemReq.wf { r with write := true } = true → MemReq.wf r = true → s.ecc.merge = [] → s.spad.marks = [] → s.ecc.heldPoison = [] →
    s.retiredPage 1 (o / 4096) = false → s.retiredUnit (unitSpad (o / 2 ^ 19)) = false → s.dom (domBank (o / 2 ^ 19)) = .on →
    s.marching (unitSpad (o / 2 ^ 19)) = false → spadAllowed (s.rd (SPAD_BANK (o / 2 ^ 19))) r.master true = true →
    Completes (.spadAliasWrite r) s (fun t => smGet Answer.none t.ifc.ans (masterKey r.master) = ⟨.ok, []⟩ ∧
      (∀ j, smGet (t.spad.dflt j) t.spad.arr j =
        (let x := smGet (s.spad.dflt j) s.spad.arr j
         if o ≤ j ∧ j < o + 8 then (if win = 1 then x ||| bs.getD (j - o) 0 else x &&& ~~~(bs.getD (j - o) 0)) else x)) ∧
      t = { s with ifc := t.ifc, spad := t.spad })) ∧
  (∀ (s : State) n v, (n < 128 → ownerOk (fld v 7 0) = true → exec (.spadBankWrite n v) s = .next (s.wr (SPAD_BANK n) (v &&& 0x1FF#32))) ∧
    (n < 128 → ownerOk (fld v 7 0) = false → exec (.spadBankWrite n v) s = .next (s.setBits SPAD_STATUS 2)) ∧
    (128 ≤ n → exec (.spadBankWrite n v) s = .fault .noSuchUnit)) ∧
  (∀ (s : State) unit a (bs : List (Option Byte)) l, a % 8 = 0 → bs.length = 8 → s.ecc.merge = [] → s.wLoc a = some l → s.wMark l = .clean →
    ((s.wordWrite unit a bs).wordRead unit a).2 = (List.zipWith (fun o (n : Option Byte) => n.getD o) (s.wGet l) bs, false) ∧
    (∀ a' l', s.wLoc a' = some l' → l' ≠ l → ((s.wordWrite unit a bs).wordRead unit a).1.wGet l' = s.wGet l')) ∧
  (∀ (s : State) unit a (bs : List (Option Byte)) l, bs.length = 8 → s.ecc.merge = [⟨unit, a / 8 * 8, bs⟩] → s.wLoc (a / 8 * 8) = some l →
    Completes (.mergeFlushTimeout unit a) s (fun t => t.ecc.merge = [] ∧
      (s.wMark l = .clean → t.wGet l = List.zipWith (fun o (n : Option Byte) => n.getD o) (s.wGet l) bs) ∧
      ((s.wMark l).bad = true → allGiven bs = false → t.wGet l = s.wGet l ∧ t.rd ECC_UECNT = plusOne (s.rd ECC_UECNT)))) ∧
  (∀ (s : State) (e : CeBack) es, s.ecc.ceBack = e :: es →
    exec (.ceWriteback e.unit) s = .next (State.ceClear { s with ecc := { s.ecc with ceBack := es } } e)) ∧
  (∀ (s : State) (e : CeBack) es l, s.ecc.ceBack = e :: es → (e.unit / 0x1000 < 7) → s.wLoc e.addr = some l →
    Completes (.ceWriteback e.unit) s (fun t => t.ecc.ceBack = es ∧ t.wMark l = (if s.wMark l = .ce then .clean else s.wMark l) ∧ t.wGet l = s.wGet l)) ∧
  (∀ (s : State) unit, (∀ e, e ∈ s.ecc.ceBack → e.unit ≠ unit) → exec (.ceWriteback unit) s = .next s)

/-- R237-R241, R244: a Garnet write merges into its row and every read sees it; a row written out keeps its bytes and leaves the buffer, one that fails twice
takes a spare or is poisoned; a fence waits for the rows held when it was asked; power-fail flushes the buffer and refuses writes. -/
def Obligations.GarnetKeepsItsRows : Prop :=
  (∀ (s : State) (r : MemReq), MemReq.wf r = true → isGarnet r.addr = true → garnetOff r.addr % 64 + r.len ≤ 64 →
    let o := garnetOff r.addr
    let row := o / 64
    s.retiredPage 2 (o / 4096) = false → inStrataRegion o = false → s.dom (domSector (garnetSector o)) = .on →
    (s.garnetQueued r = false → s.garnetShut = false → smGet false s.garnet.dead row = false → (s.sectorRows (garnetSector o)).length < 64 →
      Completes (.garnetWrite r) s (fun t => smGet Answer.none t.ifc.ans (masterKey r.master) = ⟨.ok, []⟩ ∧
        (t.garnetRow row).1 = (List.range 64).map (fun i =>
          if o % 64 ≤ i ∧ i < o % 64 + r.len then (r.bytes.getD (i - o % 64) none).getD ((s.garnetRow row).1.getD i 0) else (s.garnetRow row).1.getD i 0) ∧
        (∀ x, x ≠ row → t.garnetRow x = s.garnetRow x) ∧ t.garnet.arr = s.garnet.arr ∧ t = { s with ifc := t.ifc, garnet := { s.garnet with wbuf := t.garnet.wbuf } })) ∧
    (s.garnetQueued r = false → (s.garnetShut = true ∨ smGet false s.garnet.dead row = true) → exec (.garnetWrite r) s = .next (s.reply r.master .error [])) ∧
    Completes (.garnetRead r) s (fun t => smGet Answer.none t.ifc.ans (masterKey r.master) =
        ⟨if (s.garnetRow row).2.bad then .poisoned else .ok, ((s.garnetRow row).1.drop (o % 64)).take r.len⟩ ∧ t.garnet = s.garnet ∧
      ((s.garnetRow row).2 = .clean → t = { s with ifc := t.ifc }))) ∧
  (∀ (s : State) (r : MemReq), MemReq.wf r = true → isGarnet r.addr = true →
    let o := garnetOff r.addr
    s.retiredPage 2 (o / 4096) = false → inStrataRegion o = false → s.dom (domSector (garnetSector o)) = .on →
    (s.garnetQueued r = true ∨ (s.garnetShut = false ∧ (∀ row, row ∈ garnetRows r → smGet false s.garnet.dead row = false) ∧ s.garnetRoom r = false)) →
    Completes (.garnetWrite r) s (fun t => t.garnet = { s.garnet with waiting := s.garnet.waiting ++ [{ r with write := true }] } ∧
      smGet Answer.none t.ifc.ans (masterKey r.master) = ⟨.waits, []⟩ ∧ t = { s with ifc := t.ifc, garnet := t.garnet })) ∧
  (∀ (s : State) sector x xs ok1 ok2, sector < 8 → s.garnet.waiting = [] → s.sectorRows sector = x :: xs → x.bytes.length = 64 → (ok1 = true ∨ ok2 = true ∨ s.res.spare ≠ 0) →
    Completes (.garnetRowWriteout sector ok1 ok2) s (fun t => t.garnetRow x.row = (x.bytes, if x.bad then .poison else .clean) ∧
      (∀ y, y ≠ x.row → t.garnetRow y = s.garnetRow y) ∧ t.garnet.wbuf = s.garnet.wbuf.filter (fun y => decide (y.row ≠ x.row)) ∧
      (∀ f, f ∈ t.garnet.fences → x.row ∉ f.rows) ∧
      (if ok1 = true ∨ ok2 = true then t.res = s.res else t.res.spare + 1 = s.res.spare ∧ tb (t.rd GARNET_STATUS) 3 = true))) ∧
  (∀ (s : State) sector x xs, sector < 8 → s.garnet.waiting = [] → s.sectorRows sector = x :: xs → s.res.spare = 0 →
    Completes (.garnetRowWriteout sector false false) s (fun t => smGet false t.garnet.dead x.row = true ∧ (t.garnetRow x.row).2 = .poison ∧
      tb (t.rd GARNET_STATUS) 3 = true ∧ (∀ y, y ≠ x.row → t.garnetRow y = s.garnetRow y))) ∧
  (∀ (s : State) sector ok1 ok2, (sector < 8 → s.sectorRows sector = [] → exec (.garnetRowWriteout sector ok1 ok2) s = .next s) ∧
    (8 ≤ sector → exec (.garnetRowWriteout sector ok1 ok2) s = .fault .noSuchUnit)) ∧
  (∀ (s : State) i, Reaches s i GARNET_FENCE →
    Completes (.garnetFence i) s (fun t => t.garnet = { s.garnet with fences := s.garnet.fences ++ [⟨i, s.garnet.wbuf.map (fun x => x.row)⟩] } ∧
      ansOf t i = ⟨.waits, []⟩ ∧ t = { s with ifc := t.ifc, garnet := t.garnet })) ∧
  (∀ (s : State) f fs, s.garnet.fences = f :: fs → f.rows = [] → (∀ c, f.who ≠ .fabric c) →
    Completes .fenceComplete s (fun t => t.garnet = { s.garnet with fences := fs } ∧ ansOf t f.who = ⟨.ok, []⟩ ∧ t.rd GARNET_FSEQ = s.rd GARNET_FSEQ + 1 ∧
      RegsKept [GARNET_FSEQ] s t)) ∧
  (∀ (s : State) f fs c e, s.garnet.fences = f :: fs → f.rows = [] → f.who = .fabric c →
    let u : State := { s with garnet := { s.garnet with fences := fs } }
    s.fenceEntry c = some e → exec .fenceComplete s = .next ((u.storeDone c e .normal).fenceCount)) ∧
  (∀ (s : State), (∀ f, f ∈ s.garnet.fences → f.rows ≠ []) → exec .fenceComplete s = .next s) ∧
  (∀ (s : State), Completes .pwrFailFall s (fun t => t.garnetShut = true ∧ t.garnet = { s.garnet with pf := true, pfDone := decide (s.garnet.wbuf = []) } ∧
      t.pins = { s.pins with pwrFail := true } ∧ t = { s with pins := t.pins, garnet := t.garnet })) ∧
  (∀ (s : State), s.garnetShut = true → (∀ x, x ∈ s.garnet.wbuf → x.bytes.length = 64) → (s.garnet.wbuf.map (fun x => x.row)).Nodup →
    Completes .pfDone s (fun t => t.garnet.wbuf = [] ∧ t.garnet.pfDone = true ∧ t.garnet.pf = s.garnet.pf ∧ (∀ y, t.garnetRow y = s.garnetRow y))) ∧
  (∀ (s : State), s.pins.vppLost = false → Completes .pwrFailRise s (fun t => t.garnetShut = false ∧ t.garnet.pfDone = false ∧ t.garnet.arr = s.garnet.arr ∧
      t = { s with pins := { s.pins with pwrFail := false }, garnet := { s.garnet with pf := false, pfDone := false } })) ∧
  (∀ (s : State), s.pins.pwrFail = false → Completes .vppSlateReturn s (fun t => t.garnetShut = false ∧
      t = { s with pins := { s.pins with vppLost := false }, garnet := { s.garnet with pf := false, pfDone := false } }))

/-! Integrity and external memory (R258-R319) -/

/-- R259-R263, R265-R268, R270, R271: a scrub pass is started where its range is legal, checks one block at a time, correcting and poisoning unless it only
reports, and ends; the background scrub checks one word; a march ends with its failing words served by spares or taken out of use; retirement entries are
written but where they were made automatically; MBFLUSH empties the merge buffers. -/
def Obligations.ScrubMarchAndRetirement : Prop :=
  (∀ (s : State) v, let base := s.rd64 ECC_SBASE_LO
    let stop := base + s.rd64 ECC_SLEN_LO
    (s.ecc.scrub = none → s.scrubRange base stop = true →
      Completes (.scrubStart v) s (fun t => t.ecc = { s.ecc with scrub := some ⟨base, stop, tb v 8, []⟩ } ∧ t.rd64 ECC_SWORDS_LO = 0 ∧ t.rd ECC_SCORR = 0 ∧
        t.rd ECC_SUNC = 0 ∧ t.rd ECC_SWCNT = 0 ∧ t.rd64 ECC_SBASE_LO = base)) ∧
    ((s.ecc.scrub ≠ none ∨ s.scrubRange base stop = false) → exec (.scrubStart v) s = .next (s.setBits ECC_STATUS 16))) ∧
  (∀ (s : State), (s.ecc.scrub = none → exec .scrubStop s = .next s ∧ exec .scrubBlock s = .next s) ∧
    (s.ecc.scrub ≠ none → Completes .scrubStop s (fun t => t.ecc = { s.ecc with scrub := none } ∧ tb (t.rd ECC_STATUS) 2 = true ∧ RegsKept [ECC_STATUS] s t))) ∧
  (∀ (s : State) (p : Scrub), s.ecc.scrub = some p → isSpadPlain p.next = true → p.next % 64 = 0 → s.ecc.merge = [] → s.ecc.march = none → s.ecc.heldPoison = [] →
    let o := p.next - 0x1000000000
    s.retiredPage 1 (o / 4096) = false → s.retiredUnit (unitSpad (o / 2 ^ 19)) = false → s.dom (domBank (o / 2 ^ 19)) = .on →
    Completes .scrubBlock s (fun t =>
      (∀ j, smGet .clean t.spad.marks j =
        (if p.report = false ∧ o / 8 ≤ j ∧ j < o / 8 + 8 then scrubbed (smGet .clean s.spad.marks j) else smGet .clean s.spad.marks j)) ∧
      (∀ j, smGet (t.spad.dflt j) t.spad.arr j =
        (if p.report = false ∧ o ≤ j ∧ j < o + 64 ∧ smGet .clean s.spad.marks (j / 8) = .ue then 0 else smGet (s.spad.dflt j) s.spad.arr j)) ∧
      t.rd64 ECC_SWORDS_LO = min (s.rd64 ECC_SWORDS_LO + 8) (2 ^ 64 - 1) ∧
      (p.stop ≤ p.next + 64 → t.ecc.scrub = none ∧ tb (t.rd ECC_STATUS) 2 = true) ∧
      (p.next + 64 < p.stop → ∃ pages, t.ecc.scrub = some { p with next := p.next + 64, pages := pages }))) ∧
  (∀ (s : State) n word, n < 128 → word < 2 ^ 16 → s.flt.supvUp = true → s.ecc.merge = [] → s.ecc.march = none → s.ecc.heldPoison = [] → s.retiredPage 1 ((n * 2 ^ 16 + word) / 512) = false →
    s.retiredUnit (unitSpad n) = false → s.dom (domBank n) = .on →
    Completes (.backgroundScrub (unitSpad n) word) s (fun t => t.ecc.bgLast = word ∧
      (∀ j, smGet (t.spad.dflt j) t.spad.arr j =
        (if j / 8 = n * 2 ^ 16 + word ∧ smGet .clean s.spad.marks (j / 8) = .ue then 0 else smGet (s.spad.dflt j) s.spad.arr j)) ∧
      (∀ j, smGet .clean t.spad.marks j = (if j = n * 2 ^ 16 + word then scrubbed (smGet .clean s.spad.marks j) else smGet .clean s.spad.marks j)))) ∧
  (∀ (s : State) unit word, s.flt.supvUp = false → unit / 0x1000 ≠ 8 → exec (.backgroundScrub unit word) s = .next s) ∧
  (∀ (s : State) unit word, unit / 0x1000 = 8 → s.marching unit = false →
    let k := 2 ^ 21 * (unit % 0x1000 / 8) + 2 ^ 18 * (unit % 8) + word % 2 ^ 18
    Completes (.backgroundScrub unit word) s (fun t => t.ecc.bgLast = word ∧ t.res.store = s.res.store ∧
      (∀ j, smGet .clean t.res.rowMark j = (if j = k then scrubbed (smGet .clean s.res.rowMark j) else smGet .clean s.res.rowMark j)))) ∧
  (∀ (s : State) unit word, s.flt.supvUp = true →
    exec (.backgroundScrub unit word) s = .next (State.bgWord { s with ecc := { s.ecc with bgLast := word } } unit word)) ∧
  (∀ (s : State) i, Completes (.eccMbflush i) s (fun t => t.ecc.merge = [] ∧ ansOf t i = ⟨.ok, []⟩ ∧ t.ddr = s.ddr ∧ t.garnet = s.garnet)) ∧
  (∀ (s : State) i v, let n := s.rtsel i
    (((smGet Retire.zero s.ecc.retire n).auto = true ∨ s.retireOk (fld v 29 28) (fld v 23 0) = false) →
      exec (.retireEntryWrite i v) s = .next ((s.setBits ECC_STATUS 16).answer i .ok [])) ∧
    ((smGet Retire.zero s.ecc.retire n).auto = false → s.retireOk (fld v 29 28) (fld v 23 0) = true → (tb v 31 = false ∨ s.cache.lines = []) →
      Completes (.retireEntryWrite i v) s (fun t =>
        (∀ j, smGet Retire.zero t.ecc.retire j =
          (if j = n then ⟨tb v 31, false, BitVec.ofNat 2 (fld v 29 28), BitVec.ofNat 24 (fld v 23 0)⟩ else smGet Retire.zero s.ecc.retire j)) ∧
        ansOf t i = ⟨.ok, []⟩ ∧ t = { s with ifc := t.ifc, ecc := { s.ecc with retire := t.ecc.retire } }))) ∧
  (∀ (s : State) v, let v' := v ||| 0x80000000#32
    (s.marchOk v' = false → exec (.marchStart v) s = .next (s.setBits MARCH_STATUS 8)) ∧
    (s.marchOk v' = true → (fld v 15 12 ≠ 0 ∨ s.cache.lines = []) → (∀ e, e ∈ s.ecc.merge → e.unit ∉ marchUnits (fld v 15 0)) →
      Completes (.marchStart v) s (fun t => t.ecc = { s.ecc with march := some (fld v 19 18, fld v 15 0) } ∧ t.rd MARCH_FAILS = 0 ∧
        RegsKept [MARCH_CTRL, MARCH_FAILS] s t))) ∧
  (∀ (s : State) fails, s.ecc.march = none → exec (.marchDone fails) s = .next s) ∧
  (∀ (s : State) m u, s.ecc.march = some (m, u) → s.marchReady u = true →
    Completes (.marchDone []) s (fun t => t.ecc = { s.ecc with march := none } ∧ tb (t.rd MARCH_STATUS) 1 = true ∧ RegsKept [MARCH_STATUS] s t) ∧
    (∀ unit word, unit ∈ marchUnits u → (smGet [] s.ecc.spares unit).length < 16 →
      Completes (.marchDone [(unit, word)]) s (fun t => t.ecc.march = none ∧ smGet [] t.ecc.spares unit = smGet [] s.ecc.spares unit ++ [word] ∧
        tb (t.rd MARCH_STATUS) 1 = true ∧ t.cache = s.cache)) ∧
    (∀ unit word, unit ∈ marchUnits u → unit < 256 → 16 ≤ (smGet [] s.ecc.spares unit).length →
      Completes (.marchDone [(unit, word)]) s (fun t => t.ecc.march = none ∧ tb (t.rd MARCH_STATUS) 2 = true ∧ tb (t.rd ECC_STATUS) 5 = true ∧
        smGet false t.cache.excl (lineKey unit (word % 2 ^ 17 / 2 ^ 13) (word % 2 ^ 13 / 2 ^ 5)) = true)))

/-- R273-R282: training, refresh by channel and rank, and the idle states of the channels; a region is committed where its entry is legal and its PROT
allowed, reads zero once it is initialized (its lines, its counters and its root), and leaves stored contents as they are when it goes. -/
def Obligations.ExternalMemoryAndRegions : Prop :=
  (∀ pa, wordPa (paChannel pa) (paWord pa) + pa % 8 = pa ∧ paBank pa < 8 ∧ paColumn pa < 2 ^ 11) ∧
  (∀ (s : State), exec .ddrTrain s = .next { s with ddr := { s.ddr with cfg := s.rd DDR_CFG, ready := false, training := true, pdown := [] } }) ∧
  (∀ (s : State) f, (s.ddr.training = false → exec (.trainDone f) s = .next s) ∧
    (s.ddr.training = true → f = 0 → exec (.trainDone f) s = .next { s with ddr := { s.ddr with training := false, ready := true } }) ∧
    (s.ddr.training = true → f ≠ 0 → Completes (.trainDone f) s (fun t => t.ddr = { s.ddr with training := false, ready := false } ∧
      tb (t.rd DDR_STATUS) 2 = true ∧ t.strata.seq = s.strata.seq + 1))) ∧
  (∀ (s : State) codes, s.ddr.ready = false → exec (.mr4Poll codes) s = .next s) ∧
  (∀ (s : State) (codes : List (BitVec 3 × BitVec 3)), s.ddr.ready = true → codes.length = 16 →
    let two := tb s.ddr.cfg 4
    let mul (c : BitVec 3) : Nat := if c.toNat ≤ 3 then 0 else if c = 4 then 1 else 2
    Completes (.mr4Poll codes) s (fun t => (∀ ch a b, codes[ch]? = some (a, b) →
        smGet 0 t.ddr.mr4 ch = ((if two then b else 0 : BitVec 3) ++ a) ∧
        (a ≠ 0 → (smGet 0 t.ddr.mulNext (2 * ch)).toNat = mul a) ∧
        (two = true → b ≠ 0 → (smGet 0 t.ddr.mulNext (2 * ch + 1)).toNat = mul b)) ∧
      t.ddr.mulNow = s.ddr.mulNow ∧ t.ddr.dram = s.ddr.dram ∧
      ((∃ e, e ∈ codes ∧ (e.1 = 7 ∨ (two = true ∧ e.2 = 7))) → tb (t.rd DDR_STATUS) 4 = true))) ∧
  (∀ (s : State) ch, ch < 16 → Completes (.refreshInterval ch) s (fun t =>
      (∀ r, r = 0 ∨ (r = 1 ∧ tb s.ddr.cfg 4 = true) → (smGet 0 t.ddr.mulNow (2 * ch + r)).toNat = max (smGet 0 s.ddr.mulNext (2 * ch + r)).toNat s.bandMul % 4) ∧
      (∀ j, j ≠ 2 * ch → j ≠ 2 * ch + 1 → smGet 0 t.ddr.mulNow j = smGet 0 s.ddr.mulNow j) ∧ t = { s with ddr := { s.ddr with mulNow := t.ddr.mulNow } })) ∧
  (∀ (s : State) ch, ch < 16 → s.ddr.ready = true →
    (fld (s.rd DDR_LPCFG) 15 0 ≠ 0 → smGet 0 s.ddr.pdown ch ≠ 2 → Completes (.ddrPowerDown ch) s (fun t => smGet 0 t.ddr.pdown ch = 1 ∧
      t = { s with ddr := { s.ddr with pdown := t.ddr.pdown } })) ∧
    (fld (s.rd DDR_LPCFG) 31 16 ≠ 0 → Completes (.ddrSelfRefresh ch) s (fun t => smGet 0 t.ddr.pdown ch = 2 ∧
      t = { s with ddr := { s.ddr with pdown := t.ddr.pdown } })) ∧
    (fld (s.rd DDR_LPCFG) 15 0 = 0 → exec (.ddrPowerDown ch) s = .next s) ∧ (fld (s.rd DDR_LPCFG) 31 16 = 0 → exec (.ddrSelfRefresh ch) s = .next s)) ∧
  (∀ (s : State) ch, 16 ≤ ch → exec (.refreshInterval ch) s = .fault .noSuchUnit ∧ exec (.ddrPowerDown ch) s = .fault .noSuchUnit ∧
    exec (.ddrSelfRefresh ch) s = .fault .noSuchUnit) ∧
  (∀ (s : State) rid (x : Region), s.regionOk rid x = true → x.prot ≠ 3 ∧ x.dbase.toNat + x.dsize.toNat ≤ 65536 ∧ x.pbase.toNat + x.psize ≤ s.ddrMiB ∧
    (x.prot ≠ 0 → x.kid ≠ 0 ∧ s.kidActive x.kid.toNat = true) ∧
    (∀ e, e ∈ s.ddr.regions → e.1 ≠ rid → e.2.valid = true →
      overlaps x.dbase.toNat x.dsize.toNat e.2.dbase.toNat e.2.dsize.toNat = false ∧ overlaps x.pbase.toNat x.psize e.2.pbase.toNat e.2.psize = false)) ∧
  (∀ (s : State) i v, let rid := fld (s.sel i DDR_RSEL) 7 0
    let x := regionOfWords v (s.sel i (DDR_RENT 1)) (s.sel i (DDR_RENT 2)) .off
    (s.regionOk rid x = false → exec (.regionCommit i v) s = .next ((s.setBits DDR_STATUS 8).answer i .ok [])) ∧
    (s.regionOk rid x = true → x.valid = true → (s.rpol rid).getLsbD x.prot.toNat = true → (s.region rid).valid = false →
      Completes (.regionCommit i v) s (fun t => t.region rid = { x with st := if x.prot ≠ 0 ∨ x.init = true then .initializing else .active } ∧
        (∀ j, j ≠ rid → t.region j = s.region j) ∧ ansOf t i = ⟨.ok, []⟩ ∧ t = { s with ifc := t.ifc, ddr := { s.ddr with regions := t.ddr.regions } })) ∧
    (s.regionOk rid x = true → x.valid = false → (s.region rid).valid = true → s.cache.lines = [] →
      Completes (.regionCommit i v) s (fun t => t.region rid = { x with st := .off } ∧ (∀ j, j ≠ rid → t.region j = s.region j) ∧ (∀ a, t.dramAt a = s.dramAt a) ∧
        t.ddr.marks = s.ddr.marks ∧ (∀ y, y ∈ t.ddr.md → y.region ≠ rid))) ∧
    (s.regionOk rid x = true → x.valid = (s.region rid).valid → (x.valid = true → (s.rpol rid).getLsbD x.prot.toNat = true) →
      Completes (.regionCommit i v) s (fun t => t.region rid = { x with st := (s.region rid).st } ∧ (∀ j, j ≠ rid → t.region j = s.region j) ∧ ansOf t i = ⟨.ok, []⟩ ∧
        t = { s with ifc := t.ifc, ddr := { s.ddr with regions := t.ddr.regions } })) ∧
    (s.regionOk rid x = true → x.valid = true → (s.rpol rid).getLsbD x.prot.toNat = false →
      s.grantFits i (DDR_RENT 0) (wordBytes v ++ wordBytes (s.sel i (DDR_RENT 1)) ++ wordBytes (s.sel i (DDR_RENT 2))) = false →
      exec (.regionCommit i v) s = .next ((s.secDeny 9).answer i .ok []))) ∧
  (∀ (s : State) r, (s.region r).st ≠ .initializing → exec (.regionInitDone r) s = .next s) ∧
  (∀ (s : State) r, (s.region r).st = .initializing → let reg := s.region r
    let zero : List Byte := List.replicate 64 0
    Completes (.regionInitDone r) s (fun t => t.region r = { reg with st := .active } ∧
      (∀ i, i < reg.lines → t.lineMarks (reg.pa i) = List.replicate 8 .clean ∧
        t.dramBytes (reg.pa i) 64 = if reg.prot = 0 then zero else lineCrypt (s.keyOf reg.kid) (reg.pa i) 0 zero) ∧
      (reg.prot ≠ 0 → ∀ j, j < reg.pages → t.mdStored (reg.pa (reg.lines + j)) = 0) ∧ (∀ n, n < 16 → smGet 0 t.ddr.root (16 * r + n) = 0) ∧
      (∀ a, (a < reg.pbase.toNat * 2 ^ 20 ∨ reg.pbase.toNat * 2 ^ 20 + 512 * groupsOf reg.prot reg.dsize.toNat ≤ a) → t.dramAt a = s.dramAt a) ∧
      t.cache = s.cache ∧ t.regs = s.regs))

/-- R292-R294: the lowest FREE KID is given out with a fresh key; a KID no region uses drains and becomes FREE; a re-key takes a fresh KID, zeroes the
counters of one page after the other, and at its end puts the KID in force and drains the old one. -/
def Obligations.KeysAreDrawnAndRetired : Prop :=
  (∀ (s : State) i k, 1 ≤ k → k ≤ 63 → smGet KidSt.free s.ddr.kids k = .free → (∀ j, 1 ≤ j → j < k → smGet KidSt.free s.ddr.kids j ≠ .free) →
    Completes (.kidAlloc i) s (fun t => smGet KidSt.free t.ddr.kids k = .active s.ddr.draws ∧ t.ddr.draws = s.ddr.draws + 1 ∧
      (∀ j, j ≠ k → smGet KidSt.free t.ddr.kids j = smGet KidSt.free s.ddr.kids j) ∧ ansOf t i = ⟨.ok, wordBytes (BitVec.ofNat 32 k)⟩ ∧
      t = { s with ifc := t.ifc, ddr := { s.ddr with kids := t.ddr.kids, draws := t.ddr.draws } })) ∧
  (∀ (s : State) i, (∀ j, 1 ≤ j → j ≤ 63 → smGet KidSt.free s.ddr.kids j ≠ .free) →
    exec (.kidAlloc i) s = .next ((s.setBits MCE_STATUS 8).answer i .ok [0, 0, 0, 0])) ∧
  (∀ (s : State) v d, let k := fld v 5 0
    (k ≠ 0 → smGet KidSt.free s.ddr.kids k = .active d → s.kidUsed k = false →
      exec (.kidRetire v) s = .next { s with ddr := { s.ddr with kids := smPut s.ddr.kids k (.draining d) } }) ∧
    ((k = 0 ∨ s.kidActive k = false ∨ s.kidUsed k = true) → exec (.kidRetire v) s = .next (s.setBits MCE_STATUS 16))) ∧
  (∀ (s : State) k d, smGet KidSt.free s.ddr.kids k = .draining d → (∀ e, e ∈ s.cache.lines → e.2.v = 0 ∨ e.2.kid.toNat ≠ k) →
    Completes (.kidFree k) s (fun t => smGet KidSt.free t.ddr.kids k = .free ∧ t = { s with ddr := { s.ddr with kids := t.ddr.kids } })) ∧
  (∀ (s : State) k, (∀ d, smGet KidSt.free s.ddr.kids k ≠ .draining d) → exec (.kidFree k) s = .next s) ∧
  (∀ (s : State) v, let rid := fld v 7 0
    ((s.ddr.rekey ≠ none ∨ (s.region rid).valid = false ∨ (s.region rid).prot = 0 ∨ (s.region rid).st ≠ .active) →
      exec (.rekeyStart v) s = .next (s.setBits MCE_STATUS 16)) ∧
    (∀ k, s.ddr.rekey = none → (s.region rid).valid = true → (s.region rid).prot ≠ 0 → (s.region rid).st = .active →
      1 ≤ k → k ≤ 63 → smGet KidSt.free s.ddr.kids k = .free → (∀ j, 1 ≤ j → j < k → smGet KidSt.free s.ddr.kids j ≠ .free) →
      Completes (.rekeyStart v) s (fun t => t.ddr.rekey = some ⟨rid, BitVec.ofNat 6 k, 0⟩ ∧ t.region rid = { s.region rid with st := .rekeying } ∧
        smGet KidSt.free t.ddr.kids k = .active s.ddr.draws ∧ t.ddr.dram = s.ddr.dram ∧ t.cache = s.cache))) ∧
  (∀ (s : State), (s.ddr.rekey = none ∨ s.pins.ioRst = true) → exec .rekeyDone s = .next s) ∧
  (∀ (s : State) (k : Rekey), s.ddr.rekey = some k → s.pins.ioRst = false → k.ptr < (s.region k.region).pages →
    (s.rekeyPage).ddr.rekey = some { k with ptr := k.ptr + 1 } ∧
    ∀ x, x ∈ (s.rekeyPage).ddr.md → x.isFor k.region 0 k.ptr = true → x.val = 0 ∧ x.dirty = true) ∧
  (∀ (s : State) (k : Rekey) d, s.ddr.rekey = some k → s.pins.ioRst = false → smSorted s.ddr.regions = true →
    let old := (s.region k.region).kid
    k.newKid ≠ old → smGet KidSt.free s.ddr.kids old.toNat = .active d → (∀ e, e ∈ s.ddr.regions → e.2.kid = old → e.1 = k.region) →
    Completes .rekeyDone s (fun t => t.ddr.rekey = none ∧ t.region k.region = { s.region k.region with kid := k.newKid, st := .active } ∧
      (∀ j, j ≠ k.region → t.region j = s.region j) ∧ smGet KidSt.free t.ddr.kids old.toNat = .draining d ∧ tb (t.rd MCE_STATUS) 2 = true)) ∧
  (∀ (s : State) r, (r ∉ s.ddr.retry ∨ s.ddr.rekey ≠ none) → exec (.nokidRetry r) s = .next s) ∧
  (∀ (s : State) r, r ∈ s.ddr.retry → s.ddr.rekey = none → (s.region r).valid = true → (s.region r).prot ≠ 0 → (s.region r).st = .active →
    exec (.nokidRetry r) s = .next (s.rekeyBegin r) ∧
    ((∃ k, 1 ≤ k ∧ k ≤ 63 ∧ smGet KidSt.free s.ddr.kids k = .free) → ∃ k, (s.rekeyBegin r).ddr.rekey = some ⟨r, k, 0⟩ ∧ r ∉ (s.rekeyBegin r).ddr.retry)) ∧
  (∀ (s : State) r, r ∈ s.ddr.retry → s.ddr.rekey = none → ((s.region r).valid = false ∨ (s.region r).prot = 0 ∨ (s.region r).st ≠ .active) →
    exec (.nokidRetry r) s = .next { s with ddr := { s.ddr with retry := s.ddr.retry.filter (fun x => decide (x ≠ r)) } })

/-- R311-R316, R319, R532: an injection inverts one stored bit and leaves its parity; checkers are corrected and counted, and wait while the supervisor
restarts; an upset Flint frame is rewritten; a cluster reset leaves the cluster in its reset state. -/
def Obligations.FaultsAreInjectedAndCorrected : Prop :=
  (∀ (s : State) v, let c := fld v 29 20
    let p := fld v 19 18
    let w := fld v 17 9
    (tb v 31 = true → s.injOk v = false → exec (.sysInj v) s = .next (s.setBits SYS_FLTSTAT 32)) ∧
    (tb v 31 = false → exec (.sysInj v) s = .next (s.wr SYS_INJ (v &&& 0x7FFFFFF0#32))) ∧
    (tb v 31 = true → s.injOk v = true → tb v 30 = false →
      Completes (.sysInj v) s (fun t => (t.plane c p).words = smSet 0 (s.plane c p).words w (smGet 0 (s.plane c p).words w ^^^ bitMask (fld v 8 4)) ∧
        smGet false (t.plane c p).par w = (!smGet false (s.plane c p).par w) ∧ (t.plane c p).st = (s.plane c p).st ∧
        (∀ d q, 4 * d + q ≠ 4 * c + p → t.plane d q = s.plane d q) ∧ t.cells = s.cells ∧ t.clusters = s.clusters)) ∧
    (tb v 31 = true → s.injOk v = true → tb v 30 = true →
      Completes (.sysInj v) s (fun t => smGet 0 ((t.cell c (w / 16)).pl p).l (w % 16) = smGet 0 ((s.cell c (w / 16)).pl p).l (w % 16) ^^^ bitMask (fld v 8 4) ∧
        smGet false (t.cell c (w / 16)).par (16 * p + w % 16) = (!smGet false (s.cell c (w / 16)).par (16 * p + w % 16)) ∧
        ((t.cell c (w / 16)).pl p).fl = ((s.cell c (w / 16)).pl p).fl ∧ t.res = s.res ∧ t.clusters = s.clusters))) ∧
  (∀ (s : State) ups, s.flt.supvUp = true → Completes (.checkerReadback ups) s (fun t => t.flt = { s.flt with chkUpset := [] } ∧
      t.rd SYS_CHKFIX = BitVec.ofNat 32 (min ((s.rd SYS_CHKFIX).toNat + (s.flt.chkUpset.length + ups.length)) (2 ^ 32 - 1)) ∧
      t.strata.seq = s.strata.seq + BitVec.ofNat 32 (s.flt.chkUpset.length + ups.length))) ∧
  (∀ (s : State) ups, s.flt.supvUp = false → Completes (.checkerReadback ups) s (fun t =>
      t.flt = { s.flt with chkUpset := s.flt.chkUpset ++ (ups.filter (fun u => !voted u)).map upsetKey } ∧
      t.rd SYS_CHKFIX = BitVec.ofNat 32 (min ((s.rd SYS_CHKFIX).toNat + (ups.filter voted).length) (2 ^ 32 - 1)) ∧
      t.strata.seq = s.strata.seq + BitVec.ofNat 32 (ups.filter voted).length)) ∧
  (∀ (s : State), Completes .supvRestart s (fun t => t.flt = { s.flt with supvUp := false } ∧ tb (t.rd SYS_FLTSTAT) 2 = true ∧
      t.strata.seq = s.strata.seq + 1)) ∧
  (∀ (s : State), exec .supvRestartDone s = .next { s with flt := { s.flt with supvUp := true } }) ∧
  (∀ (s : State) tile frame, (2 ≤ tile → exec (.flintFix tile frame) s = .fault .noSuchUnit) ∧
    (tile < 2 → s.partOn (2 * tile + frame / 65536 % 2) = false → exec (.flintFix tile frame) s = .next s) ∧
    (tile < 2 → s.partOn (2 * tile + frame / 65536 % 2) = true → frame % 65536 / 256 < s.mzCols (2 * tile) →
      exec (.flintFix tile frame) s = .next (s.flintFix tile frame)) ∧
    (tile < 2 → s.mzCols (2 * tile) ≤ frame % 65536 / 256 → exec (.flintFix tile frame) s = .next s)) ∧
  (∀ (s : State) v, let c := fld v 9 0
    (s.flt.crst ≠ none → Completes (.clusterReset v) s (fun t => t.flt = s.flt ∧ tb (t.rd SYS_CRST) 28 = true ∧ RegsKept [SYS_CRST] s t ∧ t.cells = s.cells)) ∧
    (s.flt.crst = none → (s.cluster c).run = none → (s.cluster c).cb = [] → s.bistRun (c / 512) = none →
      (∀ x, x ∈ s.dsp.insts → x.st = .placed ∨ x.st.open = true → c ∉ x.clusters) →
      Completes (.clusterReset v) s (fun t => (∀ k, k < 32 → t.cell c k = Cell.zero) ∧ (∀ p, p < 4 → t.plane c p = Plane.zero) ∧
        t.cluster c = { Cluster.zero with ctx := (s.cluster c).ctx, inst := (s.cluster c).inst, plane := (s.cluster c).plane } ∧
        (∀ d, d ≠ c → t.cluster d = s.cluster d ∧ (∀ k, k < 32 → t.cell d k = s.cell d k) ∧ (∀ p, p < 4 → t.plane d p = s.plane d p)) ∧
        t.flt = { s.flt with crst := none } ∧ tb (t.rd SYS_CRST) 29 = true ∧ RegsKept [SYS_CRST] s t)))

/-! Flint tiles (R320-R360) -/

/-- R324-R329: what each operation of an MZ cell gives. -/
def Obligations.MzCellsCompute : Prop :=
  (∀ op, (op = 0 ∨ (0x13 ≤ op ∧ op < 0x20)) → MzDoes op .mzNop (fun _ _ _ => (none, none))) ∧
  MzDoes 1 .mzPass (fun a _ _ => (some a, none)) ∧
  MzDoes 2 .mzAdd (fun a b _ => (some (a + b), some (decide (2 ^ 16 ≤ a.toNat + b.toNat)))) ∧
  MzDoes 3 .mzAdc (fun a b c => (some (a + b + if c then 1 else 0), some (decide (2 ^ 16 ≤ a.toNat + b.toNat + if c then 1 else 0)))) ∧
  MzDoes 4 .mzSub (fun a b _ => (some (a - b), some (decide (b.toNat ≤ a.toNat)))) ∧
  MzDoes 5 .mzSbc (fun a b c => (some (a - b - if c then 0 else 1), some (decide ((b.toNat + if c then 0 else 1) ≤ a.toNat)))) ∧
  MzDoes 6 .mzAnd (fun a b _ => (some (a &&& b), none)) ∧ MzDoes 7 .mzOr (fun a b _ => (some (a ||| b), none)) ∧
  MzDoes 8 .mzXor (fun a b _ => (some (a ^^^ b), none)) ∧
  MzDoes 9 .mzShl (fun a b _ => let k := b.toNat % 16
    (some (a <<< k), if k = 0 then none else some (a.getLsbD (16 - k)))) ∧
  MzDoes 10 .mzShr (fun a b _ => let k := b.toNat % 16
    (some (a >>> k), if k = 0 then none else some (a.getLsbD (k - 1)))) ∧
  MzDoes 11 .mzSar (fun a b _ => let k := b.toNat % 16
    (some (a.sshiftRight k), if k = 0 then none else some (a.getLsbD (k - 1)))) ∧
  MzDoes 12 .mzMul (fun a b _ => (some (a * b), none)) ∧
  MzDoes 13 .mzMulh (fun a b _ => (some ((a.zeroExtend 32 * b.zeroExtend 32).extractLsb' 16 16), none)) ∧
  MzDoes 14 .mzCmpeq (fun a b _ => (some (if a = b then 0xFFFF#16 else 0), some (decide (a = b)))) ∧
  MzDoes 15 .mzCmplt (fun a b _ => (some (if a.toNat < b.toNat then 0xFFFF#16 else 0), some (decide (a.toNat < b.toNat)))) ∧
  MzDoes 16 .mzSel (fun a b c => (some (if c then a else b), none)) ∧
  MzDoes 17 .mzMin (fun a b _ => (some (if a.toNat ≤ b.toNat then a else b), none)) ∧
  MzDoes 18 .mzMax (fun a b _ => (some (if a.toNat ≤ b.toNat then b else a), none)) ∧
  (∀ (s : State) p cell op e, MzTurn s p cell op e → tb ((s.part p).layer (cell / 10) 6 (cell % 10)) 31 = true → op = 1 → e.lde = true →
    let l := fld ((s.part p).layer (cell / 10) 6 (cell % 10)) 30 24
    let old := smGet ((0 : Half), 0) (s.part p).put l
    Completes (.mzPass p cell e) s (fun t => smGet ((0 : Half), 0) (t.part p).put l = (old.1 ||| s.mzOperand p cell e.sa e.imm, old.2 + 1))) ∧
  (∀ (s : State) p cell e, p < 4 → cell < 640 → (s.partOn p = false ∨ (s.part p).run = false ∨ s.mzStopped = true) → exec (.mzAdd p cell e) s = .next s) ∧
  (∀ (s : State) p cell e, (4 ≤ p ∨ 640 ≤ cell) → exec (.mzAdd p cell e) s = .fault .noSuchUnit)

/-- R341-R344, R348: the blocks of a configuration stream, at a header, and what releases a part from GSR or clears it. -/
def Obligations.MzStreamsConfigure : Prop :=
  (∀ (s : State) p, p < 4 → s.partOn p = true → (s.part p).stream.phase = .header →
    let x := s.part p
    let t := x.stream
    let done (i : Instr) (y : MzPart) : Prop :=
      Completes i s (fun v => v.part p = y ∧ (∀ q, q < 4 → q ≠ p → v.part q = s.part q) ∧ v = { s with flint := v.flint })
    let fail (bit : Nat) : MzPart := { x with stat := x.stat ||| BitVec.ofNat 6 (2 ^ bit), stream := { t with phase := .idle } }
    (∀ ws, ws.length < 2 ^ 24 → done (.mzPad p ws) x) ∧
    done (.mzIdent p [0x4D5A#16, s.mzIdent p]) { x with stream := { t with crc := mzCrc (mzCrc t.crc 0x4D5A#16) (s.mzIdent p) } } ∧
    (∀ a b, (a ≠ 0x4D5A#16 ∨ b ≠ s.mzIdent p) → done (.mzIdent p [a, b]) (fail 3)) ∧
    (∀ a, seekOk a = true → done (.mzSeek p [a]) { x with stream := { t with crc := mzCrc t.crc a, addr := some a, pos := 0 } }) ∧
    (∀ a, seekOk a = false → done (.mzSeek p [a]) (fail 5)) ∧
    (∀ a w, t.addr = some a → a.getLsbD 15 = false → a.toNat / 256 < s.mzCols p → t.sealed = false → t.pos < 19 →
      let k := (8 * (a.toNat / 256) + a.toNat % 8) * 10 + t.pos / 2
      let old := smGet 0 x.frames k
      done (.mzFill p [w]) { x with
        frames := smSet 0 x.frames k (if t.pos % 2 = 0 then old.extractLsb' 16 16 ++ w else w ++ old.extractLsb' 0 16)
        stream := { t with crc := mzCrc t.crc w, pos := t.pos + 1, checked := false } }) ∧
    (∀ w, t.addr = none → w ≠ 0xB7D2#16 → done (.mzFill p [w]) (fail 5)) ∧
    (∀ w, done (.mzMode p [w]) { x with stream := { t with crc := mzCrc t.crc w, sealed := w.getLsbD 0, keysrc := w.getLsbD 1, chain := t.iv.getD 0 } }) ∧
    (∀ ws : List Half, ws.length = 8 →
      done (.mzIv p ws) { x with stream := { t with crc := ws.foldl mzCrc t.crc, iv := some (mzBlock ws), chain := mzBlock ws } }) ∧
    (∀ lo hi : Half, (hi ++ lo : BitVec 32) = ~~~t.crc → done (.mzCheck p [lo, hi]) { x with stream := { t with checked := true } }) ∧
    (∀ lo hi : Half, (hi ++ lo : BitVec 32) ≠ ~~~t.crc → done (.mzCheck p [lo, hi]) (fail 1)) ∧
    done (.mzRestart p []) { x with stream := { t with crc := 0xFFFFFFFF#32 } } ∧
    (t.checked = true → done (.mzGo p []) { x with go := true, image := x.frames }) ∧
    (t.checked = false → done (.mzGo p []) (fail 1)) ∧
    done (.mzFinish p []) { x with stream := { t with phase := .idle } }) ∧
  (∀ (s : State) p w, p < 4 → s.hostOn p = true → (s.part p).host = none → (s.part p).busy = false →
    ((s.part p).stream.phase = .idle → w = 0xB7D2#16 → Completes (.cfgdWrite p w) s (fun t => (t.part p).stream = { (s.part p).stream with phase := .mark })) ∧
    ((s.part p).stream.phase = .mark → w = 0x4C19#16 →
      Completes (.cfgdWrite p w) s (fun t => t.part p = { s.part p with stream := { MzStream.zero with phase := .header, host := true } }))) ∧
  (∀ (s : State) p w, p < 4 → s.hostOn p = false → exec (.cfgdWrite p w) s = .next s) ∧
  (∀ (s : State) p, p < 4 → s.partOn p = true → (s.part p).go = true → (s.part p).stream.host = true → s.mzStopped = false →
    Completes (.mzGsrRelease p) s (fun t => (t.part p).run = true ∧ (t.part p).go = false ∧ (t.part p).frames = (s.part p).frames ∧ (t.part p).ram = (s.part p).ram ∧
      (∀ i, i < 10 * s.mzCols p → smGet MzCell.zero (t.part p).cells i =
        (let w := (s.part p).layer (i / 10) 5 (i % 10)
         { sc := 0, o := w.extractLsb' 0 16, see := w.extractLsb' 0 16, acc := w.extractLsb' 16 16, c := tb ((s.part p).layer (i / 10) 6 (i % 10)) 23 })) ∧
      t = { s with flint := t.flint })) ∧
  (∀ (s : State) p, p < 4 → s.hostOn p = true → (s.part p).host = none →
    Completes (.mzProg p) s (fun t => (t.part p).frames = [] ∧ (t.part p).run = false ∧ (t.part p).stat = 0 ∧ (t.part p).stream = MzStream.zero ∧
      (t.part p).ram = (s.part p).ram ∧ t.rd (flStatus (p / 2)) &&& contMask p = 0 ∧ RegsKept [flStatus (p / 2)] s t)) ∧
  (∀ (s : State) n w, n < 2 → exec (.cfgdWrite (4 + n) w) s = .next ((s.hostPut (2 * n) 0xFFC w).hostPut (2 * n + 1) 0xFFC w) ∧
    exec (.mzProg (4 + n)) s = .next ((s.hostPut (2 * n) 0xFFD 1).hostPut (2 * n + 1) 0xFFD 1)) ∧
  (∀ (s : State) p ws, 4 ≤ p → exec (.mzPad p ws) s = .fault .noSuchUnit ∧ exec (.mzGsrRelease p) s = .fault .noSuchUnit) ∧
  (∀ (s : State) p w, 6 ≤ p → exec (.cfgdWrite p w) s = .fault .noSuchUnit ∧ exec (.mzProg p) s = .fault .noSuchUnit)

/-- R331, R338, R339, R350-R352, R359, R360: the host bus reads and writes the words of its windows; an outbound mailbox forms and presents tokens, an inbound
one takes and discards them; their registers are written where the spec allows it. -/
def Obligations.HostBusAndMailboxes : Prop :=
  (∀ (s : State) p (a : BitVec 12), p < 4 → s.hostOn p = true → (s.part p).host = none → (s.part p).busy = false → 0x800 ≤ a.toNat →
    Completes (.hostBusRead p a) s (fun t => (t.part p).hd = s.hostVal p a.toNat ∧ t.part p = { s.part p with hd := (t.part p).hd } ∧
      t = { s with flint := t.flint })) ∧
  (∀ (s : State) p (a : BitVec 12) v r, p < 4 → s.hostOn p = true → (s.part p).host = none → a.toNat < 0x800 → s.hostRam p a.toNat = some r →
    smGet false (s.part p).ramDead (1024 * r + a.toNat % 1024) = false →
    Completes (.hostBusWrite p a v) s (fun t => (t.part p).ram = (s.part p).ram ∧ Completes (.hostBusRead p a) t (fun u => (u.part p).hd = v ∧
      smGet 0 (u.part p).ram (1024 * r + a.toNat % 1024) = v ∧
      (∀ j, j ≠ 1024 * r + a.toNat % 1024 → smGet 0 (u.part p).ram j = smGet 0 (s.part p).ram j) ∧ (u.part p).cells = (s.part p).cells))) ∧
  (∀ (s : State) p v, p < 4 → s.hostOn p = true → (s.part p).host = none → (s.part p).busy = false →
    Completes (.hostBusWrite p 0xFF0#12 v) s (fun t => t.part p = { s.part p with wselA := v.extractLsb' 0 6 } ∧ t.hostVal p 0xFF0 = (v &&& 0x3F#16))) ∧
  (∀ (s : State) p a v, p < 4 → s.hostOn p = false → exec (.hostBusRead p a) s = .next s ∧ exec (.hostBusWrite p a v) s = .next s) ∧
  (∀ (s : State) n a v, n < 2 → exec (.hostBusWrite (4 + n) a v) s = .next ((s.hostPut (2 * n) a.toNat v).hostPut (2 * n + 1) a.toNat v)) ∧
  (∀ (s : State) p a v, 6 ≤ p → exec (.hostBusRead p a) s = .fault .noSuchUnit ∧ exec (.hostBusWrite p a v) s = .fault .noSuchUnit) ∧
  (∀ (s : State) n m, n < 2 → m < 16 →
    let x := s.mbox n m
    let a := s.rd (flMba n m)
    let st (i : Nat) : Half := smGet 0 x.stage i
    (s.mbRun n m = true → s.mbEn n m = true → s.mbIn n m = false → x.buf.length < 4 → Completes (.mailboxFormToken n m) s (fun t =>
      (∃ k : Token, (t.mbox n m).buf = x.buf ++ [k] ∧ k.ctx = (s.rd (flMbb n m)).extractLsb' 20 12 ∧ k.port = (s.rd (flMbb n m)).extractLsb' 16 4 ∧
        k.flow = a.extractLsb' 0 18 ∧ k.pri = a.extractLsb' 23 3 ∧ k.poison = false ∧ k.value = st 3 ++ st 2 ++ st 1 ++ st 0 ∧
        k.inst = (if tb a 28 then ((st 5).extractLsb' 0 8 ++ st 4 : BitVec 24) else (s.rd (flMbst n m)).extractLsb' 0 24)) ∧ (t.mbox n m).stage = x.stage ∧
      (tb a 28 = true → t.regs = s.regs) ∧ (tb a 28 = false → (t.rd (flMbst n m)).toNat = ((s.rd (flMbst n m)).toNat + 1) % 2 ^ 24 ∧ RegsKept [flMbst n m] s t))) ∧
    ((s.mbRun n m = false ∨ s.mbEn n m = false ∨ s.mbIn n m = true ∨ 4 ≤ x.buf.length) → exec (.mailboxFormToken n m) s = .next s) ∧
    (∀ t ts u ok, x.buf = t :: ts → s.mbIn n m = false → s.pins.ioRst = false → s.gsr = false → s.sinkToken (tilePort n) (tb a 29) t = (u, ok) →
      exec (.mailboxPresent n m) s = .next (if ok then u.setMbox n m { x with buf := ts } else u)) ∧
    ((x.buf = [] ∨ s.mbIn n m = true ∨ s.pins.ioRst = true ∨ s.gsr = true) → exec (.mailboxPresent n m) s = .next s) ∧
    (∀ u t, s.mbIn n m = true → s.mbEn n m = true → s.pins.ioRst = false → x.buf.length < 4 → (s.qrec (fld a 17 0)).en = true → (s.qrec (fld a 17 0)).cons = 0 →
      s.oneWay (queuePort (fld a 17 0)) (tilePort n) = true →
      s.qPop (fld a 17 0) ((s.qrec (fld a 17 0)).depth + 1) = (u, some t) →
      exec (.mailboxTake n m) s = .next ((u.setMbox n m { u.mbox n m with buf := (u.mbox n m).buf ++ [t] }).countFlits (tilePort n) 1)) ∧
    ((s.mbIn n m = false ∨ s.mbEn n m = false ∨ s.pins.ioRst = true ∨ 4 ≤ x.buf.length ∨ (s.qrec (fld a 17 0)).en = false ∨
      (s.qrec (fld a 17 0)).cons ≠ 0) → exec (.mailboxTake n m) s = .next s) ∧
    ((s.mbRun n m = false ∨ s.mbIn n m = false) → exec (.mailboxDiscard n m) s = .next s) ∧
    (s.mbRun n m = true → s.mbIn n m = true → Completes (.mailboxDiscard n m) s (fun t => (t.mbox n m).buf = x.buf.drop 1 ∧ (∀ j, j ≠ m → t.mbox n j = s.mbox n j) ∧
      t = { s with flint := t.flint }))) ∧
  (∀ (s : State) n m, (2 ≤ n ∨ 16 ≤ m) → exec (.mailboxFormToken n m) s = .fault .noSuchUnit ∧ exec (.mailboxPresent n m) s = .fault .noSuchUnit ∧
    exec (.mailboxTake n m) s = .fault .noSuchUnit ∧ exec (.mailboxDiscard n m) s = .fault .noSuchUnit) ∧
  (∀ (s : State) n m v, n < 2 → m < 16 →
    ((s.tile n).mode = 0 → exec (.mailboxConfigWrite n (0x44 + 8 * m) v) s = .next (s.setBits (flStatus n) 2048)) ∧
    ((s.tile n).mode ≠ 0 → s.mbEn n m = false →
      exec (.mailboxConfigWrite n (0x44 + 8 * m) v) s = .next (s.wr (flMbb n m) (v &&& 0xFFFF0000#32)) ∧
      exec (.mailboxConfigWrite n (0xC0 + 4 * m) v) s = .next (s.wr (flMbst n m) (v &&& 0x00FFFFFF#32)) ∧
      (¬(tb v 31 = true ∧ fld v 27 26 = 2) → exec (.mailboxConfigWrite n (0x40 + 8 * m) v) s = .next (s.wr (flMba n m) (v &&& 0xFF83FFFF#32)))) ∧
    ((s.tile n).mode ≠ 0 → s.mbEn n m = true →
      exec (.mailboxConfigWrite n (0x44 + 8 * m) v) s = .next (s.setBits (flStatus n) 2048) ∧
      exec (.mailboxConfigWrite n (0xC0 + 4 * m) v) s = .next (s.setBits (flStatus n) 2048))) ∧
  (∀ (s : State) n v, n < 2 → s.partDone (2 * n) = false → s.partDone (2 * n + 1) = false → fld v 9 9 = 0 → fld v 25 25 = 0 →
    exec (.flintClkWrite n v) s = .next (s.wr (flClk n) (v &&& 0x03FF03FF#32))) ∧
  (∀ (s : State) n v, n < 2 → s.partDone (2 * n) = true → fld (s.rd (flClk n)) 9 0 ≠ fld v 9 0 →
    exec (.flintClkWrite n v) s = .next (s.setBits (flStatus n) 2048)) ∧
  (∀ (s : State) n off v, 2 ≤ n → exec (.flintClkWrite n v) s = .fault .noSuchUnit ∧ exec (.mailboxConfigWrite n off v) s = .fault .noSuchUnit)

/-! Starts, loads and resets (R361-R392, R527-R532) -/

/-- R378, R379, R382, R384, R385, R434: POR_N and SYS_RESET_N rising begin a start, which goes through its steps and ends in RUN; it waits at step 12 while the
device is halted; a preset wait polls and fails the start at its timeout. -/
def Obligations.StartsReachRun : Prop :=
  (∀ (s : State) st, s.pins.por = false → exec (.porRelease st) s = .next s) ∧
  (∀ (s : State) st, s.pins.por = true → s.pins.sysRst = false → s.pins.thermtrip = false → tb (s.rd SEC_DBG) 0 = false →
    Completes (.porRelease st) s (fun t => t.cfg.st = .starting ∧ t.cfg.kind = s.porKind ∧ t.cfg.step = 1 ∧ t.cfg.confirmed = false ∧
      t.cfg.failcnt = (if s.cfg.failcnt = 15 then 15 else s.cfg.failcnt + 1) ∧ t.cfg.bfcfg = st.bfcfg ∧ t.cfg.pcieEn = st.pcieEn ∧ t.smb.strap = st.smbAddr ∧
      t.pins = { s.pins with por := false, supplyBad := 0 } ∧ t.cells = s.cells ∧ t.res = s.res)) ∧
  (∀ (s : State) st, s.pins.por = true → s.pins.sysRst = true → Completes (.porRelease st) s (fun t => t.cfg.st = s.cfg.st ∧ t.cfg.kind = s.porKind ∧
      t.pins = { s.pins with por := false })) ∧
  (∀ (s : State), s.pins.sysRst = false → exec .sysResetRelease s = .next s) ∧
  (∀ (s : State), s.pins.sysRst = true → s.pins.por = false → s.pins.thermtrip = false → tb (s.rd SEC_DBG) 0 = false →
    Completes .sysResetRelease s (fun t => t.cfg.st = .starting ∧ t.cfg.kind = s.cfg.kind ∧ t.cfg.step = 1 ∧
      t.rd SYS_RSTCAUSE = (s.rd SYS_RSTCAUSE &&& 0x200#32) ||| BitVec.ofNat 32 (if s.cfg.kind = .warm then 4 else s.porCause) ∧
      t.pins = { s.pins with sysRst := false, supplyBad := 0 } ∧ t.cells = s.cells)) ∧
  (∀ (s : State) f fails, s.cfg.st ≠ .starting → exec (.startStepDone ⟨f, fails⟩) s = .next s) ∧
  (∀ (s : State) f fails, s.cfg.st = .starting →
    (s.cfg.step = 1 → exec (.startStepDone ⟨f, fails⟩) s = .next (s.toStep 2)) ∧
    (s.cfg.step = 2 → s.cfg.kind ≠ .warm → exec (.startStepDone ⟨f, fails⟩) s = .next (s.toStep 3)) ∧
    (s.cfg.step = 3 → exec (.startStepDone ⟨f, fails⟩) s = .next ((s.startMarch fails).toStep 4) ∧ (s.cfg.kind = .warm → s.startMarch fails = s) ∧
      (s.cfg.kind = .resume → fails = [] → s.startMarch fails = s) ∧
      (s.cfg.kind = .cold → fails = [] → let t := s.startMarch fails
        t.spad.arr = [] ∧ t.cache.arr = [] ∧ (∀ p, p < 4 → (t.part p).ram = []) ∧ t.regs = s.regs)) ∧
    (s.cfg.step = 4 → Completes (.startStepDone ⟨f, fails⟩) s (fun t => t.cfg = { s.cfg with step := 5, areas := ((bootDir s.cfg.bfcfg f).map BootDir.present).getD 0 })) ∧
    (s.cfg.step = 5 → s.authList f = [] → Completes (.startStepDone ⟨f, fails⟩) s (fun t => t.cfg = { s.cfg with st := .failed } ∧ RegsKept [CFG_ERR, CFG_ERRDET] s t)) ∧
    (∀ h, s.cfg.img = some h →
      (s.cfg.step = 6 → (s.cfg.kind ≠ .cold ∨ tb h.flags 8 = false) → exec (.startStepDone ⟨f, fails⟩) s = .next (s.toStep 7)) ∧
      (s.cfg.step = 8 → s.cfg.presets = [] → exec (.startStepDone ⟨f, fails⟩) s = .next (s.toStep 9)) ∧
      (s.cfg.step = 11 → s.ginit = false → exec (.startStepDone ⟨f, fails⟩) s = .next (s.toStep 12)) ∧
      (s.cfg.step = 12 → s.halted = true → exec (.startStepDone ⟨f, fails⟩) s = .next s) ∧
      (s.cfg.step = 12 → s.halted = false → (∀ p, p < 4 → (s.part p).go = false) →
        Completes (.startStepDone ⟨f, fails⟩) s (fun t => t.gsr = false ∧ t.cfg = { s.cfg with st := .run, crit := false } ∧ t.gpio.latch = [] ∧
          t.strata.seq = s.strata.seq + 1 ∧ t.flint = s.flint ∧ t.cells = s.cells)))) ∧
  (∀ (s : State) b, (s.cfg.st ≠ .starting ∨ s.cfg.step ≠ 8 ∨ s.cfg.presets = [] ∨ (∃ p ps, s.cfg.presets = p :: ps ∧ fld p.ctl 1 0 = 0)) → exec (.presetWait b) s = .next s) ∧
  (∀ (s : State) (p : Preset) ps u, s.cfg.st = .starting → s.cfg.step = 8 → s.cfg.presets = p :: ps → fld p.ctl 1 0 ≠ 0 →
    (s.presetDo p = (u, some false) → u.cfg = s.cfg → exec (.presetWait false) s = .next u ∧ exec (.presetWait true) s = .next (u.startFail u.presetErr)) ∧
    (s.presetDo p = (u, none) → ∀ b, exec (.presetWait b) s = .next (u.startFail u.presetErr)) ∧
    (s.presetDo p = (u, some true) → ps = [] → exec (.presetWait false) s = .next { u with cfg := { u.cfg with presets := [], pidx := u.cfg.pidx + 1 } }))

/-- R376, R377, R381, R383, R387, R388, R392: the commands of the CFG block: a load takes the slot that is not ACTIVE and leaves it VALID or EMPTY;
activation, rollback, restart, abort and confirmation. -/
def Obligations.VersionSlotsAreManaged : Prop :=
  (∀ (s : State) a f, a < 2 → s.cfg.st = .run → (((bootDir s.cfg.bfcfg f).map BootDir.present).getD 0).getLsbD a = true →
    Completes (.cfgLoad a f) s (fun t => t.cfg.st = .loading ∧ t.cfg.load = some a ∧ (t.slotMeta s.otherSlot).st = .staging ∧
      t.slotMeta (!s.otherSlot) = s.slotMeta (!s.otherSlot) ∧ t.rd CFG_LDPROG = 0 ∧ RegsKept [CFG_LDPROG] s t ∧ t.res = s.res)) ∧
  (∀ (s : State) a f, a < 2 → (s.cfg.st = .loading ∨ s.cfg.st = .starting ∨ s.cfg.st = .failed) →
    exec (.cfgLoad a f) s = .next (s.setBits CFG_STATUS 32)) ∧
  (∀ (s : State) a f, 2 ≤ a → exec (.cfgLoad a f) s = .fault .noSuchUnit ∧ exec (.cfgActivate a) s = .fault .noSuchUnit) ∧
  (∀ (s : State) f bad, s.cfg.load = none → exec (.loadCommit ⟨f, bad⟩) s = .next s) ∧
  (∀ (s : State) f bad a h x, s.cfg.load = some a → s.authArea f a = .inr h → (s.stageSlot s.otherSlot).checkImage f h = .inr x → s.pins.vppLost = false → bad ≤ s.res.spare.toNat →
    Completes (.loadCommit ⟨f, bad⟩) s (fun t => t.cfg.st = .run ∧ t.cfg.load = none ∧ (t.slotMeta s.otherSlot).st = .valid ∧ (t.slotMeta s.otherSlot).digest = h.digest ∧
      (t.slotMeta s.otherSlot).imgver = h.imgver ∧ t.slotMeta (!s.otherSlot) = s.slotMeta (!s.otherSlot) ∧ tb (t.rd CFG_STATUS) 3 = true ∧
      t.rd CFG_LDPROG = BitVec.ofNat 32 h.totlen ∧ t.res.spare.toNat + bad = s.res.spare.toNat ∧ t.cells = s.cells ∧ t.clusters = s.clusters)) ∧
  (∀ (s : State) f bad a h x, s.cfg.load = some a → s.authArea f a = .inr h → (s.stageSlot s.otherSlot).checkImage f h = .inr x →
    (s.pins.vppLost = true ∨ s.res.spare.toNat < bad) →
    Completes (.loadCommit ⟨f, bad⟩) s (fun t => t.cfg.st = .run ∧ t.cfg.load = none ∧ (t.slotMeta s.otherSlot).st = .empty ∧
      t.rd CFG_ERR = (imgErr 15 h.area).word ∧ tb (t.rd CFG_STATUS) 4 = true ∧ t.res = s.res)) ∧
  (∀ (s : State) f bad a e, s.cfg.load = some a → s.authArea f a = .inl e →
    Completes (.loadCommit ⟨f, bad⟩) s (fun t => t.cfg.st = .run ∧ t.cfg.load = none ∧ (t.slotMeta s.otherSlot).st = .empty ∧ t.rd CFG_ERR = e.word ∧
      t.rd CFG_ERRDET = BitVec.ofNat 32 e.detail ∧ tb (t.rd CFG_STATUS) 4 = true ∧ t.res = s.res)) ∧
  (∀ (s : State) n, n < 2 → s.cfg.st ≠ .held → let b := decide (n = 1)
    ((s.slotMeta b).active = true → (s.cfg.load = none ∨ b ≠ s.otherSlot) → exec (.cfgActivate n) s = .next { s with cfg := { s.cfg with pend := none } }) ∧
    ((s.slotMeta b).active = false → (s.slotMeta b).st = .valid → (s.cfg.load = none ∨ b ≠ s.otherSlot) →
      exec (.cfgActivate n) s = .next { s with cfg := { s.cfg with pend := some (b, false) } }) ∧
    ((s.slotMeta b).active = false → (s.slotMeta b).st ≠ .valid → exec (.cfgActivate n) s = .next (s.setBits CFG_STATUS 32))) ∧
  (∀ (s : State), s.cfg.st = .run → s.mayStart = true → (s.slotMeta s.otherSlot).st = .valid →
    Completes .cfgRollback s (fun t => t.cfg.st = .starting ∧ t.cfg.kind = .warm ∧ t.cfg.pend = some (s.otherSlot, true) ∧ t.cfg.step = 1 ∧ t.cells = [] ∧
      tb (t.rd SYS_RSTCAUSE) 3 = true)) ∧
  (∀ (s : State), s.cfg.st = .run → (s.slotMeta s.otherSlot).st ≠ .valid → exec .cfgRollback s = .next (s.setBits CFG_STATUS 32)) ∧
  (∀ (s : State) cold, s.cfg.st ≠ .held → s.mayStart = true →
    Completes (.cfgRestart cold) s (fun t => t.cfg.st = .starting ∧ t.cfg.kind = (if cold then .cold else .warm) ∧ t.cfg.step = 1 ∧ t.cells = [] ∧ t.clusters = [] ∧
      t.res.dir = s.res.dir ∧ t.res.store = s.res.store ∧ t.cfg.pend = s.cfg.pend ∧ tb (t.rd SYS_RSTCAUSE) 3 = true)) ∧
  (∀ (s : State), s.cfg.st ≠ .held →
    (s.cfg.load = none → exec .cfgAbort s = .next (s.setBits CFG_STATUS 32)) ∧
    (s.cfg.load ≠ none → Completes .cfgAbort s (fun t => t.cfg.st = .run ∧ t.cfg.load = none ∧ (t.slotMeta s.otherSlot).st = .empty ∧
      t.slotMeta (!s.otherSlot) = s.slotMeta (!s.otherSlot) ∧ tb (t.rd CFG_STATUS) 4 = true ∧ RegsKept [CFG_STATUS] s t)) ∧
    Completes .cfgClrrej s (fun t => (∀ b, t.slotMeta b = (if (s.slotMeta b).st = .rejected then { s.slotMeta b with st := .valid } else s.slotMeta b)) ∧
      t = { s with cfg := t.cfg })) ∧
  (∀ (s : State), s.cfg.st = .held → exec .cfgRollback s = .next s ∧ exec .cfgAbort s = .next s ∧ exec .cfgClrrej s = .next s ∧
    (∀ c, exec (.cfgRestart c) s = .next s) ∧ (∀ n, n < 2 → exec (.cfgActivate n) s = .next s)) ∧
  (∀ (s : State) i, s.cfg.st ≠ .held → s.cfg.st ≠ .failed →
    Completes (.cfgConfirm i) s (fun t => t.cfg = { s.cfg with failcnt := 0, confirmed := true } ∧ ansOf t i = ⟨.ok, []⟩ ∧ t.regs = s.regs ∧
      (∀ h, s.cfg.img = some h → s.sec.fpol.getLsbD 1 = true → t.sec.arbMin = max s.sec.arbMin h.arb))) ∧
  (∀ (s : State) h, s.cfg.img = some h →
    (h.confirmMs ≠ 0 → s.gsr = false → s.cfg.crit = false → s.cfg.confirmed = false → exec .confirmTimeout s = .next s.confirm) ∧
    ((h.confirmMs = 0 ∨ s.gsr = true ∨ s.cfg.crit = true ∨ s.cfg.confirmed = true) → exec .confirmTimeout s = .next s))

/-- R435, R527-R531: what each reset clears and what it keeps. -/
def Obligations.ResetsClearAndKeep : Prop :=
  (∀ (s : State), s.pins.por = false → Completes .porAssert s (fun t => t.pins.por = true ∧ t.cfg.st = .held ∧ t.cells = [] ∧ t.clusters = [] ∧ t.mst = Mst.zero ∧
      t.flow = Flow.zero ∧ t.cache.lines = [] ∧ t.ddr.dram = [] ∧ t.ddr.ready = false ∧ t.garnet.wbuf = [] ∧ t.sec.sess.st = .idle ∧ t.res.planes = [] ∧
      t.res.dir = s.res.dir ∧ t.res.store = s.res.store ∧ t.strata.recs = s.strata.recs ∧ t.sec.auth = s.sec.auth ∧ t.cfg.failcnt = s.cfg.failcnt ∧
      (∀ a, inBlocks a = true → blockOf a < 29 → keptBits true a = 0 → (∀ b, b < 20 → a ≠ GPIO_PULL b) → t.rd a = regReset s.fuse.gradeA a))) ∧
  (∀ (s : State), s.pins.por = true → exec .porAssert s = .next { s with pins := { s.pins with supplyBad := 0 } }) ∧
  (∀ (s : State), s.pins.sysRst = false → s.pins.por = false → s.pins.thermtrip = false → s.ecc.merge = [] →
    Completes .sysResetAssert s (fun t => t.pins.sysRst = true ∧ t.pins.por = false ∧ t.cfg.st = .held ∧ t.cfg.kind = .warm ∧ t.cells = [] ∧ t.clusters = [] ∧
      t.mst = Mst.zero ∧ t.flow = Flow.zero ∧ t.cache.lines = [] ∧ t.garnet.wbuf = [] ∧ t.spad = s.spad ∧ t.ddr.dram = s.ddr.dram ∧ t.ddr.kids = [] ∧
      t.strata.recs = s.strata.recs ∧ t.strata.stats = s.strata.stats ∧ t.res.dir = s.res.dir)) ∧
  (∀ (s : State), s.pins.sysRst = true → exec .sysResetAssert s = .next s) ∧
  (∀ (s : State), s.pins.sysRst = false → s.pins.por = true → exec .sysResetAssert s = .next { s with pins := { s.pins with sysRst := true } }) ∧
  (∀ (s : State), s.pins.ioRst = true → exec .ioResetAssert s = .next s) ∧
  (∀ (s : State), s.pins.ioRst = false → (s.pins.por = true ∨ s.pins.sysRst = true) →
    exec .ioResetAssert s = .next { s with pins := { s.pins with ioRst := true } }) ∧
  (∀ (s : State), s.pins.ioRst = false → s.pins.por = false → s.pins.sysRst = false → (∀ f, f < 48 → s.linkEn f = false) → (∀ p, p ∈ s.noc.pkts → p.net ≠ 3) →
    Completes .ioResetAssert s (fun t => t.pins = { s.pins with ioRst := true } ∧ t.sec.sess.st = .idle ∧ t.hp = Hp.zero ∧ t.gpio.ev = [] ∧
      tb (t.rd SYS_RSTCAUSE) 9 = true ∧ t.strata.seq = s.strata.seq + 1 ∧ t.cells = s.cells ∧ t.clusters = s.clusters ∧ t.mst = s.mst ∧ t.dsp = s.dsp ∧
      t.flow = s.flow ∧ t.cache = s.cache ∧ t.spad = s.spad ∧ t.garnet = s.garnet ∧ t.res = s.res ∧ t.cfg.st = s.cfg.st ∧ t.ddr.dram = s.ddr.dram ∧
      (s.ddr.ready = true → ∀ c, c < 16 → smGet 0 t.ddr.pdown c = 2))) ∧
  (∀ (s : State), s.dsp.insts = [] → exec .ioResetRelease s = .next { s with pins := { s.pins with ioRst := false }, ddr := { s.ddr with pdown := [] } }) ∧
  (∀ (s : State), Completes (.supplyMonitorDrop .vppSlate) s (fun t => t.garnetShut = true ∧ t.pins = { s.pins with vppLost := true } ∧
      t = { s with pins := t.pins, garnet := t.garnet })) ∧
  (∀ (s : State) w, w ≠ .vppSlate → Completes (.supplyMonitorDrop w) s (fun t => t.pins.por = true ∧
      t.pins.supplyBad = (if w = .vinCore then 1 else 2) ∧ (s.pins.por = false → t.cfg.st = .held ∧ t.cells = [] ∧ t.clusters = []) ∧
      (s.pins.por = true → t = { s with pins := { s.pins with supplyBad := t.pins.supplyBad } }))) ∧
  (∀ (s : State), Completes .aonSupplyLoss s (fun t => t.strata = { s.strata with rtc := 0, tset := false } ∧ t.cfg = { s.cfg with failcnt := 0 } ∧ t.sec.imgB = [] ∧
      t.sec.imgE = s.sec.imgE ∧ (∀ k, smFind t.sec.mzKey k = (if k % 2 = 1 then none else smFind s.sec.mzKey k)) ∧ tb (t.rd TH_STATUS) 7 = false ∧
      RegsKept [TH_STATUS] s t ∧ t.garnet = s.garnet ∧ t.res = s.res)) ∧
  (∀ (s : State), s.pins.thermtrip = true → exec .thermtrip s = .next s) ∧
  (∀ (s : State), s.pins.thermtrip = false → Completes .thermtrip s (fun t => t.pins = { s.pins with thermtrip := true } ∧ tb (t.rd TH_STATUS) 7 = true ∧
      t.cfg.st = .held ∧ t.cells = [] ∧ t.clusters = [] ∧ t.cache.lines = [] ∧ t.garnet.wbuf = [] ∧ t.ddr = s.ddr ∧ t.res.store = s.res.store))

/-! Security (R389-R408) -/

/-- R396-R402: a session is opened with a fresh nonce, takes two signatures and gives a grant; refusals are counted and three end it; the grant serves one
matching write and no other. -/
def Obligations.SessionsGiveOneGrant : Prop :=
  (∀ (s : State) i, secWriter i = true →
    (s.sec.sess.st = .idle → Completes (.sessionOpen i true) s (fun t => t.sec.sess.st = .open_ ∧ t.sec.sess.owner = ifCode i ∧ t.sec.sess.signed = [] ∧
      t.sec.sess.target = s.secTarget i ∧ t.sec.sess.nonce = s.ddr.draws ∧ t.sec.sess.refused = 0 ∧ t.ddr.draws = s.ddr.draws + 2 ∧ ansOf t i = ⟨.ok, []⟩ ∧
      t.regs = s.regs)) ∧
    (s.sec.sess.st = .idle → exec (.sessionOpen i false) s = .next ((s.secCause 2).answer i .ok [])) ∧
    (s.sec.sess.st ≠ .idle → ∀ b, exec (.sessionOpen i b) s = .next ((s.secCause 1).answer i .ok [])) ∧
    (s.owns i = true → exec (.sessionCancel i) s = .next (s.sessIdle.answer i .ok [])) ∧
    (s.owns i = false → exec (.sessionCancel i) s = .next ((s.secCause 7).answer i .ok []) ∧ exec (.sessionSubmit i) s = .next ((s.secDeny 7).answer i .ok [])) ∧
    (s.owns i = true → s.judgeSig i = none →
      (s.sec.sess.st = .open_ → Completes (.sessionSubmit i) s (fun t => t.sec.sess = { s.sec.sess with
        st := .one, signed := s.sec.sess.signed ++ [fld (s.sel i SEC_SIGSLOT) 2 0],
        keys := s.sec.sess.keys ++ [Config.sha384 (s.selBytes i (SEC_SIG 0) 96)] })) ∧
      (s.sec.sess.st = .one → Completes (.sessionSubmit i) s (fun t =>
        t.sec.sess = { s.sec.sess with
          st := .granted, signed := s.sec.sess.signed ++ [fld (s.sel i SEC_SIGSLOT) 2 0],
          keys := s.sec.sess.keys ++ [Config.sha384 (s.selBytes i (SEC_SIG 0) 96)] } ∧ tb (t.rd SEC_STATUS) 0 = true))) ∧
    (∀ cause, s.owns i = true → s.judgeSig i = some cause →
      Completes (.sessionSubmit i) s (fun t => t.sec.sess.cause = cause ∧ tb (t.rd SEC_STATUS) 1 = true ∧
        (s.sec.sess.refused < 2 → t.sec.sess.st = s.sec.sess.st ∧ t.sec.sess.refused = s.sec.sess.refused + 1) ∧ (2 ≤ s.sec.sess.refused → t.sec.sess.st = .idle)))) ∧
  (∀ (s : State) i b, secWriter i = false → exec (.sessionOpen i b) s = .next (s.answer i .error []) ∧ exec (.sessionSubmit i) s = .next (s.answer i .error []) ∧
    exec (.sessionCancel i) s = .next (s.answer i .error [])) ∧
  (∀ (s : State), (s.sec.sess.st = .idle → exec .sessionExpired s = .next s) ∧
    (s.sec.sess.st ≠ .idle → Completes .sessionExpired s (fun t => t.sec = { s.sec with sess := { Sess.zero with cause := 8 } } ∧ t = { s with sec := t.sec }))) ∧
  (∀ (s : State) i a v, isRwa a = true → secWriter i = true → s.provisioned = true → s.grantFits i a (wordBytes v ++ s.secData i) = false →
    exec (.grantedWrite i a v) s = .next ((s.secDeny 9).answer i .ok [])) ∧
  (∀ (s : State) i v, s.provisioned = true → s.grantFits i SEC_FPOL (wordBytes v ++ s.secData i) = true →
    Completes (.grantedWrite i SEC_FPOL v) s (fun t => t.sec = { s.sec with fpol := s.sec.fpol ||| v.extractLsb' 0 4, sess := { Sess.zero with cause := s.sec.sess.cause } } ∧
      ansOf t i = ⟨.ok, []⟩ ∧ t = { s with ifc := t.ifc, sec := t.sec })) ∧
  (∀ (s : State) i a v, isRwa a = true → secWriter i = false → exec (.grantedWrite i a v) s = .next (s.answer i .error [])) ∧
  (∀ (s : State) i a v, isRwa a = false → a ≠ DDR_RENT 0 → exec (.grantedWrite i a v) s = .fault .noSuchUnit) ∧
  (∀ (s : State) i a bs, s.grantFits i a bs = true → s.sec.sess.st = .granted ∧ s.sec.sess.owner = ifCode i ∧ s.sec.sess.target = a ∧
    s.sec.sess.argdig = Config.sha384 bs)

/-- R392-R394, R403-R407: what each authorized change does under a matching grant, and what refuses it. -/
def Obligations.AuthorizedChangesTakeEffect : Prop :=
  (∀ (s : State) i v, s.provisioned = true →
    let idle : Sess := { Sess.zero with cause := s.sec.sess.cause }
    let data := s.secData i
    let slot := fld v 3 0
    let granted (a : Nat) (w : Word) : Prop := s.grantFits i a (wordBytes w ++ data) = true
    let does (c : Instr) (x : Sec) : Prop := Completes c s (fun t => t.sec = { x with sess := idle } ∧ ansOf t i = ⟨.ok, []⟩ ∧ t.ddr = s.ddr ∧ t.garnet = s.garnet)
    let denied (c : Instr) (cause : Nat) : Prop := exec c s = .next ((s.secDeny cause).answer i .ok [])
    (granted SEC_KEYPROG (kindWord 1 v) → slot ≤ 3 →
      ((smFind s.sec.imgE slot).isSome = true → denied (.programImageKeyE i v) 11) ∧
      ((smFind s.sec.imgE slot).isSome = false → s.unwrapped data = none → denied (.programImageKeyE i v) 10) ∧
      (∀ k, (smFind s.sec.imgE slot).isSome = false → s.unwrapped data = some k → does (.programImageKeyE i v) { s.sec with imgE := smPut s.sec.imgE slot (BitVec.ofNat 256 (bytesNat k)) })) ∧
    (granted SEC_KEYPROG (kindWord 2 v) → slot ≤ 3 → ∀ k, s.unwrapped data = some k → does (.programImageKeyB i v) { s.sec with imgB := smPut s.sec.imgB slot (BitVec.ofNat 256 (bytesNat k)) }) ∧
    (granted SEC_KEYPROG (kindWord 3 v) → slot ≤ 7 →
      (slot % 2 = 0 → (smFind s.sec.mzKey slot).isSome = true → denied (.programMzKey i v) 11) ∧
      (∀ k, (slot % 2 = 1 ∨ (smFind s.sec.mzKey slot).isSome = false) → s.unwrapped data = some k →
        does (.programMzKey i v) { s.sec with mzKey := smPut s.sec.mzKey slot (BitVec.ofNat 128 (bytesNat k)) })) ∧
    (granted SEC_KEYPROG (kindWord 4 v) → slot ≤ 3 →
      ((smFind s.sec.hash slot).isSome = true → denied (.programSigningHash i v) 11) ∧
      ((smFind s.sec.hash slot).isSome = false →
        does (.programSigningHash i v) { s.sec with hash := smPut s.sec.hash slot (BitVec.ofNat 384 (bytesNat (data.take 48))) })) ∧
    (granted SEC_KEYPROG (kindWord 5 v) → slot ≤ 3 →
      (s.sec.hash ≠ [] → s.otherHash slot = false → denied (.revokeSigningHash i v) 12) ∧
      (s.otherHash slot = true → does (.revokeSigningHash i v) { s.sec with hashRev := s.sec.hashRev ||| BitVec.ofNat 4 (2 ^ slot) })) ∧
    (granted SEC_AUTH (v &&& 0x3FFFFFFF#32) →
      ((smFind s.sec.auth (fld v 2 0)).isSome = true → denied (.enrolAuthority i v) 11) ∧
      ((smFind s.sec.auth (fld v 2 0)).isSome = false →
        does (.enrolAuthority i v) { s.sec with auth := smPut s.sec.auth (fld v 2 0) (Config.sha384 (data.take 96)) })) ∧
    (granted SEC_AUTH ((v &&& 0x3FFFFFFF#32) ||| 0x80000000#32) →
      (s.liveAuths (fld v 2 0) < 2 → denied (.revokeAuthority i v) 12) ∧
      (2 ≤ s.liveAuths (fld v 2 0) → does (.revokeAuthority i v) { s.sec with authRev := s.sec.authRev ||| BitVec.ofNat 8 (2 ^ fld v 2 0) })) ∧
    (granted SEC_FPOL v → does (.fusePolicyWrite i v) { s.sec with fpol := s.sec.fpol ||| v.extractLsb' 0 4 }) ∧
    (granted SEC_ARBSET v → fld v 8 0 ≤ 256 → does (.arbsetWrite i v) { s.sec with arbMin := max s.sec.arbMin (fld v 8 0) }) ∧
    (granted SEC_RPOL v → does (.rpolWrite i v) { s.sec with rpol := smSet 7 s.sec.rpol (fld v 7 0) (v.extractLsb' 8 3) }) ∧
    (granted SEC_DBG (v ||| 1#32) → s.sec.fpol.getLsbD 3 = true → denied (.secScanen i v) 12) ∧
    (granted SEC_DBG (v ||| 1#32) → s.sec.fpol.getLsbD 3 = false → s.dsp.insts = [] → s.ddr.regions = [] →
      (∀ n, n < 4 → s.rd (SEC_SECSP n) = 0) → (∀ n, n < 2 → s.rd (SEC_SECG n) = 0) → s.garnet.wbuf = [] →
      Completes (.secScanen i v) s (fun t => t.rd SEC_DBG = 1 ∧ t.halted = true ∧ t.sec.blocked = true ∧ t.sec.sess.st = .idle ∧ t.ddr.kids = [] ∧
        tb (t.rd SEC_STATUS) 2 = true ∧ t.spad = s.spad)) ∧
    (¬ granted SEC_FPOL v → secWriter i = true → denied (.fusePolicyWrite i v) 9)) ∧
  (∀ (s : State) i v, s.provisioned = false → s.grantFits i SEC_AUTH (wordBytes (v ||| 0x40000000#32) ++ s.secData i) = true →
    let keys := [Config.sha384 ((s.secData i).take 96), Config.sha384 (((s.secData i).drop 96).take 96)]
    let own : Prop := ∀ e, e ∈ s.sec.sess.signed.zip s.sec.sess.keys → keys[e.1]? = some e.2
    (¬ own → exec (.secGenesis i v) s = .next ((s.secDeny 9).answer i .ok [])) ∧
    (own → Completes (.secGenesis i v) s (fun t => t.provisioned = true ∧ t.sec.sess.st = .idle ∧
      t.sec.auth = [(0, Config.sha384 ((s.secData i).take 96)), (1, Config.sha384 (((s.secData i).drop 96).take 96))]))) ∧
  (∀ (s : State) i v, s.provisioned = false → secWriter i = true → exec (.fusePolicyWrite i v) s = .next (s.answer i .ok [])) ∧
  (∀ (s : State) i v, secWriter i = false → exec (.programImageKeyE i v) s = .next (s.answer i .error []) ∧ exec (.secScanen i v) s = .next (s.answer i .error [])) ∧
  (∀ (s : State) ins, Completes (.jtagInstruction ins) s (fun t => t = { s with ifc := t.ifc } ∧ ((smGet Answer.none t.ifc.ans 3000).kind = .ok ↔
      (ins = .idcode ∨ ins = .bypass ∨ s.scanAllowed = true))))

/-! Clocks, power, heat and age (R409-R445) -/

/-- R411-R417: a monitored clock out of tolerance fails: its consumer moves to its fallback, and the host is told; calibration, Zenith's readiness and RETURN; gates
and the observation output. -/
def Obligations.ClocksFailAndReturn : Prop :=
  (∀ (s : State), Completes (.clockMonitorWindow []) s (fun t => t.pwr = { s.pwr with clkGood := 0 } ∧ tb (t.rd CLK_STATUS) 3 = false ∧ RegsKept [CLK_STATUS] s t)) ∧
  (∀ (s : State) n, s.clkPass 0 n = true → Completes (.clockMonitorWindow [(0, n)]) s (fun t => t.rd (CLK_CNT 0) = BitVec.ofNat 32 (n % 2 ^ 24) ∧
      t.pwr.clkGood = min 16 (s.pwr.clkGood + 1) ∧ (15 ≤ s.pwr.clkGood → tb (t.rd CLK_STATUS) 3 = true) ∧ t.pins = s.pins ∧ t.dsp = s.dsp ∧ t.strata = s.strata)) ∧
  (∀ (s : State) c, s.clkMonitored c = true → s.clkFailed c = false → s.dsp.insts = [] → c ≠ 0 → c ≠ 14 →
    Completes (.clockNoEdge c) s (fun t => t.clkFailed c = true ∧ t.pins = { s.pins with irq := true, nmi := true } ∧ t.pwr.clkGood = 0 ∧ tb (t.rd CLK_STATUS) 0 = true ∧
      t.strata.seq = s.strata.seq + 1 ∧ t.cfg.crit = true ∧
      (∀ k, clkConsumer c = some k → t.clkSrc k = (if tb (s.rd CLK_STATUS) 5 then 1 else if k = 6 then 2 else 3)) ∧
      (∀ k, k < 8 → clkConsumer c ≠ some k →
        t.clkSrc k = (if k = 6 ∧ (clkConsumer c).isSome = true ∧ tb (s.rd CLK_STATUS) 5 = false then 2 else s.clkSrc k)))) ∧
  (∀ (s : State) c n, s.clkMonitored c = true → s.clkFailed c = false → s.clkPass c n = false → s.dsp.insts = [] → c ≠ 0 → c ≠ 14 →
    Completes (.clockMonitorWindow [(c, n)]) s (fun t => t.clkFailed c = true ∧ t.rd (CLK_CNT c) = BitVec.ofNat 32 (n % 2 ^ 24) ∧ t.pins = { s.pins with irq := true, nmi := true })) ∧
  (∀ (s : State) c, (s.clkMonitored c = false ∨ s.clkFailed c = true) → Completes (.clockNoEdge c) s (fun t => t.pins = s.pins ∧ t.strata = s.strata ∧ t.rd CLK_SRC = s.rd CLK_SRC)) ∧
  (∀ (s : State) n, (tb (s.rd CLK_STATUS) 6 = true → exec (.dawnCalibration n) s = .next (s.wr CLK_DAWNCAL (BitVec.ofNat 32 (n % 2 ^ 21)))) ∧
    (tb (s.rd CLK_STATUS) 6 = false → exec (.dawnCalibration n) s = .next s)) ∧
  (∀ (s : State), s.dsp.insts = [] → Completes .zenithReady s (fun t => tb (t.rd CLK_STATUS) 5 = true ∧ tb (t.rd CLK_STATUS) 4 = false ∧
      (∀ k, k < 8 → t.clkSrc k = (if s.clkSrc k = 2 ∨ s.clkSrc k = 3 then 1 else s.clkSrc k)) ∧ RegsKept [CLK_STATUS, CLK_SRC] s t)) ∧
  (∀ (s : State), (tb (s.rd CLK_STATUS) 3 = true → s.rd CLK_SRC ≠ 0 → Completes .clkReturn s (fun t => t.rd CLK_SRC = 0 ∧ tb (t.rd CLK_STATUS) 4 = false ∧
      RegsKept [CLK_STATUS, CLK_SRC] s t)) ∧
    ((tb (s.rd CLK_STATUS) 3 = false ∨ s.rd CLK_SRC = 0) → exec .clkReturn s = .next (s.setBits CLK_STATUS 4))) ∧
  (∀ (s : State) d, d ≤ 1482 →
    (d ∉ s.pwr.gating → exec (.clockGateClose d) s = .next s) ∧
    (d ∈ s.pwr.gating → 1280 ≤ d → (d < 1472 ∨ 1480 ≤ d) →
      (s.regionsHold d = true → exec (.clockGateClose d) s = .next (s.pwrRefuse d 4)) ∧
      (s.regionsHold d = false → d ∈ s.pwr.waking → exec (.clockGateClose d) s = .next ((s.wakeOver d).seqCancel d)) ∧
      (s.regionsHold d = false → d ∉ s.pwr.waking → exec (.clockGateClose d) s = .next ((s.seqOver d).setDom d .switching))) ∧
    (d ∉ s.pwr.gating → 1024 ≤ d → exec (.cgTimeout d) s = .next ((s.bump CLK_CGTO CLK_CNTOVF 0).setBits CLK_STATUS 2)) ∧
    (d ∈ s.pwr.gating → Completes (.cgTimeout d) s (fun t => t.rd CLK_CGTO = plusOne (s.rd CLK_CGTO) ∧ tb (t.rd CLK_STATUS) 1 = true ∧ tb (t.rd PWR_STATUS) 1 = true ∧
      d ∉ t.pwr.gating ∧ t.dom d = s.dom d))) ∧
  (∀ (s : State) d, 1482 < d → exec (.clockGateClose d) s = .fault .noSuchUnit ∧ exec (.cgTimeout d) s = .fault .noSuchUnit) ∧
  (∀ (s : State) v, let c := fld v 29 24
    ((tb v 31 = false ∨ s.clkKHz c ≤ 200000 * (fld v 15 0 + 1)) → exec (.clkObsWrite v) s = .next (s.wr CLK_OBS (v &&& 0xBF00FFFF#32))) ∧
    (tb v 31 = true → c < 48 → 200000 * (fld v 15 0 + 1) < s.clkKHz c → exec (.clkObsWrite v) s = .next (s.setBits CLK_STATUS 4)))

/-- R418-R427: clusters fall asleep and wake, domains are switched, requests are answered in PWR_DRES, operating points follow their targets. -/
def Obligations.DomainsSleepAndWake : Prop :=
  (∀ (s : State) i v, (1482 < fld v 10 0 → exec (.pwrDselWrite i v) s = .next ((s.setBits PWR_STATUS 4).answer i .ok [])) ∧
    (fld v 10 0 ≤ 1482 → Completes (.pwrDselWrite i v) s (fun t => t.dsel i = fld v 10 0 ∧ ansOf t i = ⟨.ok, []⟩ ∧ t = { s with ifc := t.ifc }))) ∧
  (∀ (s : State) i, 1480 ≤ s.dsel i → exec (.pwrReqAuto i) s = .next ((s.setBits PWR_STATUS 4).answer i .ok []) ∧
    exec (.pwrReqOn i) s = .next ((s.setBits PWR_STATUS 4).answer i .ok []) ∧ exec (.pwrReqOff i) s = .next ((s.setBits PWR_STATUS 4).answer i .ok [])) ∧
  (∀ (s : State) i d, s.dsel i = d → d < 1024 →
    let res (t : State) (req r : Nat) : Prop := t.sel i PWR_DRES = BitVec.ofNat 32 (r + d * 2 ^ 8 + req * 2 ^ 24)
    Completes (.pwrReqAuto i) s (fun t => t.pwrReq d = 0 ∧ res t 0 0 ∧ t.dom d = s.dom d ∧ t.cells = s.cells) ∧
    ((s.dom d = .on ∨ s.dom d = .cirrus) → Completes (.pwrReqOn i) s (fun t => t.pwrReq d = 1 ∧ res t 1 0 ∧ t.dom d = .on ∧ t.cells = s.cells)) ∧
    ((s.dom d = .stratus ∨ s.dom d = .nimbus) → Completes (.pwrReqOn i) s (fun t => t.pwrReq d = 1 ∧ res t 1 1 ∧ t.dom d = s.dom d ∧ d ∈ t.pwr.waking)) ∧
    (s.dom d = .nimbus → Completes (.pwrReqOff i) s (fun t => t.pwrReq d = 2 ∧ res t 2 0 ∧ t.dom d = .nimbus)) ∧
    (s.dom d ≠ .nimbus → s.sleepIdle d = true → s.planesQuiet d = true → s.portIdle d = true → s.res.pins = [] →
      Completes (.pwrReqOff i) s (fun t => t.pwrReq d = 2 ∧ res t 2 0 ∧ t.dom d = .nimbus ∧ (∀ p, p < 4 → t.plane d p = Plane.zero) ∧
        (∀ k, k < 32 → t.cell d k = Cell.zero) ∧ (t.cluster d).memLost = true)) ∧
    (s.dom d ≠ .nimbus → s.sleepIdle d = false → Completes (.pwrReqOff i) s (fun t => t.pwrReq d = 2 ∧ res t 2 1 ∧ t.dom d = s.dom d ∧ t.cells = s.cells))) ∧
  (∀ (s : State) i d, s.dsel i = d → 1456 ≤ d → d < 1472 → s.dom d = .on → d ∉ s.pwr.leaving → d ∉ s.pwr.gating → (∃ e, e ∈ s.ddr.regions ∧ e.2.valid = true) →
    Completes (.pwrReqOff i) s (fun t => fld (t.sel i PWR_DRES) 2 0 = 4 ∧ tb (t.rd PWR_STATUS) 1 = true ∧ t.dom d = .on)) ∧
  (∀ (s : State) i d, s.dsel i = d → 1024 ≤ d → d < 1280 → s.dom d = .on → d ∉ s.pwr.leaving → d ∉ s.pwr.gating →
    Completes (.pwrReqOff i) s (fun t => d ∈ t.pwr.gating ∧ fld (t.sel i PWR_DRES) 2 0 = 1 ∧ t.dom d = .on)) ∧
  (∀ (s : State) d, (1482 < d → exec (.domainSwitchOff d) s = .fault .noSuchUnit) ∧ (d ≤ 1482 → s.dom d ≠ .switching → exec (.domainSwitchOff d) s = .next s)) ∧
  (∀ (s : State) n, n < 128 → s.dom (1280 + n) = .switching → 1280 + n ∉ s.pwr.waking →
    Completes (.domainSwitchOff (1280 + n)) s (fun t => t.dom (1280 + n) = .off ∧ t.portSt (bankPort n) = .off ∧
      (∀ o, o / 2 ^ 19 = n → smGet (t.spad.dflt o) t.spad.arr o = 0) ∧ (∀ o, o / 2 ^ 19 ≠ n → smGet (t.spad.dflt o) t.spad.arr o = smGet (s.spad.dflt o) s.spad.arr o) ∧
      t.cache = s.cache ∧ t.garnet = s.garnet)) ∧
  (∀ (s : State) c, c < 1024 →
    (s.dom c = .on → s.sleepIdle c = true → s.pwrReq c = 0 → 1 ≤ s.deepest c → exec (.cirrusEntry c) s = .next (s.setDom c .cirrus)) ∧
    (s.sleepIdle c = false → exec (.cirrusEntry c) s = .next s ∧ exec (.stratusEntry c) s = .next s ∧ exec (.nimbusEntry c) s = .next s) ∧
    (s.dom c = .cirrus → s.sleepIdle c = true → s.pwrReq c = 0 → 2 ≤ s.deepest c → s.planesQuiet c = true → s.portIdle c = true →
      Completes (.stratusEntry c) s (fun t => t.dom c = .stratus ∧ (∀ p, p < 4 → t.plane c p = s.plane c p) ∧ (∀ k, k < 32 → t.cell c k = Cell.zero) ∧
        (t.cluster c).memLost = true ∧ (∀ d, d ≠ c → t.cluster d = s.cluster d ∧ t.dom d = s.dom d))) ∧
    (s.dom c = .cirrus → s.sleepIdle c = true → s.pwrReq c = 0 → 2 ≤ s.deepest c → s.planesQuiet c = true → s.portIdle c = false → c ∉ s.pwr.leaving →
      c ∉ s.pwr.gating → exec (.stratusEntry c) s = .next ({ s with pwr := { s.pwr with leaving := s.pwr.leaving ++ [c] } }.portDrain (clusterPort c))) ∧
    (s.dom c = .stratus → s.sleepIdle c = true → s.pwrReq c = 0 → 3 ≤ s.deepest c → s.planesQuiet c = true → s.res.pins = [] → (s.pin c 0).en = false →
      (s.pin c 1).en = false → Completes (.nimbusEntry c) s (fun t => t.dom c = .nimbus ∧ (∀ p, p < 4 → t.plane c p = Plane.zero))) ∧
    (c ∈ s.pwr.waking → (s.dom c = .stratus ∨ s.dom c = .nimbus) → s.res.pins = [] → s.age.due = [] →
      Completes (.clusterWake c) s (fun t => t.dom c = .on ∧ c ∉ t.pwr.waking ∧ t.portSt (clusterPort c) = .ready ∧ t.rd PWR_WAKES = plusOne (s.rd PWR_WAKES))) ∧
    (c ∉ s.pwr.waking → exec (.clusterWake c) s = .next s)) ∧
  (∀ (s : State) c, 1024 ≤ c → exec (.cirrusEntry c) s = .fault .noSuchUnit ∧ exec (.stratusEntry c) s = .fault .noSuchUnit ∧
    exec (.nimbusEntry c) s = .fault .noSuchUnit ∧ exec (.clusterWake c) s = .fault .noSuchUnit) ∧
  (∀ (s : State) r v, r < 64 →
    (s.topOpp < fld v 1 0 → exec (.pwrOppWrite r v) s = .next (s.setBits PWR_STATUS 1)) ∧
    (fld v 1 0 ≤ s.topOpp → Completes (.pwrOppWrite r v) s (fun t => fld (t.rd (PWR_OPP r)) 1 0 = fld v 1 0 ∧ fld (t.rd (PWR_OPP r)) 31 2 = fld (s.rd (PWR_OPP r)) 31 2 ∧
      RegsKept [PWR_OPP r] s t)) ∧
    (s.coupled (r % 32) = false → s.rd CLK_SRC = 0 → s.age.due = [] → Completes (.oppTransition r) s (fun t => fld (t.rd (PWR_OPP r)) 9 8 = s.ownTarget r ∧
      fld (t.rd (PWR_OPP r)) 31 20 = s.railMv r (s.ownTarget r) ∧ fld (t.rd (PWR_OPP r)) 7 0 = fld (s.rd (PWR_OPP r)) 7 0 ∧ RegsKept [PWR_OPP r, AGE_STATUS] s t))) ∧
  (∀ (s : State) r v, 64 ≤ r → exec (.pwrOppWrite r v) s = .fault .noSuchUnit ∧ exec (.oppTransition r) s = .fault .noSuchUnit) ∧
  (∀ (s : State) v, (8 ≤ fld v 28 24 → fld v 28 24 ≤ 30 → 8 ≤ fld v 20 16 → fld v 20 16 ≤ 30 → exec (.pwrCpolWrite v) s = .next (s.wr PWR_CPOL (v &&& 0x1F1F00FF#32))) ∧
    ((fld v 28 24 < 8 ∨ 30 < fld v 28 24 ∨ fld v 20 16 < 8 ∨ 30 < fld v 20 16) → exec (.pwrCpolWrite v) s = .next (s.setBits PWR_STATUS 4)))

/-- R429-R443: a sample judges steps, caps, bands and the halt; RESUME ends a halt that has cooled; the planner raises offsets and never lowers them. -/
def Obligations.HeatThrottlesAndAgeIsPlanned : Prop :=
  (∀ (s : State) us raw plow, (s.pins.por = false → Completes (.thermalSample us raw plow) s (fun t => t = s.thermal us raw plow)) ∧
    (s.pins.por = true → exec (.thermalSample us raw plow) s = .next s)) ∧
  (∀ (s : State) (v : Nat → Int) r, r < 64 →
    ((∃ i, i ∈ covering r ∧ s.broken i = false ∧ s.throtT ≤ v i) → smGet 0 s.therm.riseT r = 0 →
      fld ((s.stepRegion v r).rd (TH_REG r)) 1 0 = min 3 (s.step_ r + 1) ∧ smGet 0 (s.stepRegion v r).therm.riseT r = s.therm.now + 1) ∧
    ((∀ i, i ∈ covering r → s.broken i = false ∧ v i < s.throtT ∧ s.rateHolds i = false) → smGet 0 s.therm.coolT r = 0 →
      fld ((s.stepRegion v r).rd (TH_REG r)) 1 0 = s.step_ r) ∧
    ((∃ i, i ∈ covering r ∧ s.broken i = true) → 1 ≤ fld ((s.stepRegion v r).rd (TH_REG r)) 1 0) ∧
    (let t := s.setCap r
     fld (t.rd (TH_REG r)) 5 4 = s.capOf r ∧ fld (t.rd (PWR_OPP r)) 5 4 = s.capOf r ∧ RegsKept [TH_REG r, PWR_OPP r] s t) ∧
    s.capOf r = (if tb (s.rd TH_STATUS) 6 then 0 else s.topOpp - s.step_ r)) ∧
  (∀ (s : State) (v : Nat → Int), (∃ i, i < 52 ∧ s.broken i = false ∧ s.critT ≤ v i) → tb (s.rd TH_STATUS) 6 = false → s.dsp.insts = [] →
    let t := s.critSample v
    tb (t.rd TH_STATUS) 6 = true ∧ tb (t.rd TH_STATUS) 2 = true ∧ t.rd TH_HALTS = plusOne (s.rd TH_HALTS) ∧ t.halted = true ∧ (∀ r, t.capOf r = 0) ∧
      t.strata.seq = s.strata.seq + 1) ∧
  (∀ (s : State) (v : Nat → Int), (∀ i, i < 52 → s.broken i = true ∨ v i < s.critT) → s.critSample v = s) ∧
  (∀ (old : Nat) (m : Int), old ≤ 3 → bandNext old m ≤ 3 ∧ (1600 ≤ m → bandNext old m = 3) ∧ (m < 672 → bandNext old m = 0)) ∧
  (∀ (s : State), (tb (s.rd TH_STATUS) 6 = true → s.haltOver = true → Completes .thermResume s (fun t => tb (t.rd TH_STATUS) 6 = false ∧
      t.therm = { s.therm with haltCool := none, flintStop := false } ∧ t.cells = s.cells)) ∧
    ((tb (s.rd TH_STATUS) 6 = false ∨ s.haltOver = false) → exec .thermResume s = .next (s.setBits TH_STATUS 256))) ∧
  (∀ (s : State) n, (52 ≤ n → exec (.brokenClear n) s = .fault .noSuchUnit) ∧ (n < 52 → s.broken n = false → exec (.brokenClear n) s = .next s) ∧
    (n < 52 → s.broken n = true → Completes (.brokenClear n) s (fun t => n ∈ t.therm.clr ∧ t = { s with therm := { s.therm with clr := t.therm.clr } }))) ∧
  (∀ (s : State) (c : Instr) q d, (c = .ageMeasurement [(q, d)] ∨ c = .ageMeasure [(q, d)]) → 32 ≤ q → q < 48 →
    Completes c s (fun t => t.rd (AGE_QM q) = BitVec.ofNat 32 (min d 65535) ∧ t.rd AGE_MEAS = plusOne (s.rd AGE_MEAS) ∧ tb (t.rd AGE_STATUS) 0 = true ∧ t.age.due = [])) ∧
  (∀ (s : State) (c : Instr) q d, (c = .ageMeasurement [(q, d)] ∨ c = .ageMeasure [(q, d)]) → q < 32 → (qmRegions q).all (fun r => s.qmReady r) = false →
    Completes c s (fun t => t.age.due = [(q, min d 65535)] ∧ t.rd (AGE_QM q) = s.rd (AGE_QM q) ∧ t.rd AGE_MEAS = plusOne (s.rd AGE_MEAS))) ∧
  (∀ (s : State) r d, r < 64 → ∀ o, o < 4 → (s.agePlan r d).offset r o =
      min 16 (max (s.offset r o) (max (fld (s.rd (AGE_BASE r)) (5 * o + 4) (5 * o)) ((d + s.ageStep r o - 1) / s.ageStep r o))))

/-! Lanes and links (R446-R465) -/

/-- R449, R450, R454, R456, R458, R460: blocks of a raw link: IDLE, SLEEP, XOFF and XON, the START, data blocks and TERM of a frame, damaged blocks, markers; a
lane gains lock with 64 good headers. The link is one lane that is UP; tokens stay in the receive buffer while GSR holds the fabric. -/
def Obligations.RawLinksReceiveFrames : Prop :=
  (∀ (s : State) l, LaneAlone s l false →
    let x := s.lane l
    let y := s.link l
    let kept (t : State) : Prop := t.regs = s.regs ∧ t.lanes.reg = s.lanes.reg
    (NotMarker s l 1 0x1E#64 → LaneTakes (.laneIdle l) s l (laneAfter x 0x1E#64 0) y kept) ∧
    (NotMarker s l 1 0x33#64 → LaneTakes (.laneSleep l) s l (laneAfter x 0x33#64 1) y kept) ∧
    (NotMarker s l 1 0x2D#64 → LaneTakes (.laneXoff l) s l (laneAfter x 0x2D#64 0) { y with xoffRx := true } kept) ∧
    (NotMarker s l 1 0x2E#64 → LaneTakes (.laneXon l) s l (laneAfter x 0x2E#64 0) { y with xoffRx := false } kept) ∧
    (∀ w, NotMarker s l 1 (typed w 0x78) → y.frame = none →
      let v := typed w 0x78
      let sel : BitVec 4 := BitVec.ofNat 4 (dfld v 11 8)
      let f : RawFrame := { sel := sel, inst := BitVec.ofNat 24 (dfld v 39 16), blocks := [], bad := false, drop := false }
      (tb (s.lrd l (LANE_IDESC_A sel.toNat)) 31 = true → y.rbuf.length < 2048 →
        LaneTakes (.laneStart l w) s l (laneAfter x v 0) { y with frame := some f } kept) ∧
      (tb (s.lrd l (LANE_IDESC_A sel.toNat)) 31 = false →
        LaneTakes (.laneStart l w) s l (laneAfter x v 0) { y with frame := some { f with drop := true } }
          (fun t => t.lrd l LANE_FRMERR = plusOne (s.lrd l LANE_FRMERR) ∧ t.regs = s.regs))) ∧
    (∀ w, NotMarker s l 2 w → y.frame = none →
      LaneTakes (.dataBlock l 2 w) s l (laneAfter x w 0) y (fun t => t.lrd l LANE_FRMERR = plusOne (s.lrd l LANE_FRMERR) ∧ t.regs = s.regs)) ∧
    (∀ w f, NotMarker s l 2 w → y.frame = some f → f.drop = false → f.bad = false → f.blocks.length < 256 → y.occupancy + 1 < 1536 → y.xoffTx = false →
      LaneTakes (.dataBlock l 2 w) s l (laneAfter x w 0) { y with frame := some { f with blocks := w :: f.blocks } } kept) ∧
    (∀ w f, NotMarker s l 2 w → y.frame = some f → f.drop = false → f.bad = false → f.blocks.length < 256 → y.occupancy + 1 = 1536 → y.xoffTx = false →
      LaneTakes (.dataBlock l 2 w) s l (laneAfter x w 0)
        { y with frame := some { f with blocks := w :: f.blocks }, xoffTx := true, sent := y.sent ++ [(true, 0x2D#64)] } kept) ∧
    (∀ w f (hdr : BitVec 2), (hdr = 0 ∨ hdr = 3) → NotMarker s l hdr w → y.frame = some f →
      LaneTakes (.dataBlock l hdr w) s l { laneAfter x w 0 with good := 0, hist := 1 } { y with frame := some { f with bad := true } } kept) ∧
    (∀ w, NotMarker s l 1 (typed w 0x87) → y.frame = none → LaneTakes (.laneTerm l w) s l (laneAfter x (typed w 0x87) 0) y kept) ∧
    (∀ w f, NotMarker s l 1 (typed w 0x87) → y.frame = some f → f.drop = false → s.gsr = true → (y.xoffTx = false → y.occupancy < 1536) →
      (y.xoffTx = true → 512 < y.occupancy) →
      let ws := f.blocks.reverse
      let bad := decide ((crc32c (ws.flatMap dwBytes)).toNat ≠ dfld (typed w 0x87) 39 8) || f.bad
      LaneTakes (.laneTerm l w) s l (laneAfter x (typed w 0x87) 0)
        { y with frame := none, rbuf := y.rbuf ++ ((List.range ws.length).zip ws).map (fun e => s.rawToken l f e.1 e.2 bad) }
        (fun t => t.lrd l LANE_FRMERR = (if bad then plusOne (s.lrd l LANE_FRMERR) else s.lrd l LANE_FRMERR) ∧ t.regs = s.regs)) ∧
    (∀ w q, let v := typed w 0xB4
      x.mseq = some q → x.since + 1 = s.amPeriod l → BitVec.ofNat 8 (dfld v 31 24) = q + 1 → x.bip = BitVec.ofNat 8 (dfld v 39 32) → x.bover < 3 →
      LaneTakes (.laneMarker l w) s l
        { x with good := Nat.min 64 (x.good + 1), pwr := 0, since := 0, bip := 0, mseq := some (q + 1), laneid := some (BitVec.ofNat 4 (dfld v 11 8)),
                 slot := BitVec.ofNat 4 (dfld v 15 12), fmap := BitVec.ofNat 16 (dfld v 63 48), alignok := decide (dfld v 40 40 = 1), bover := 0, miss := 0,
                 ok := x.ok + 1, failed := x.failed && decide (x.ok + 1 < 16) } y kept) ∧
    (∀ w q, let v := typed w 0xB4
      x.mseq = some q → BitVec.ofNat 8 (dfld v 31 24) ≠ q + 1 → x.miss < 3 → x.bover < 3 →
      Completes (.laneMarker l w) s (fun t => (t.lane l).miss = x.miss + 1 ∧ (t.lane l).ok = 0 ∧ (t.lane l).failed = x.failed ∧ (t.link l).st = 3)) ∧
    (∀ w q, let v := typed w 0xB4
      x.mseq = some q → BitVec.ofNat 8 (dfld v 31 24) ≠ q + 1 → x.miss = 3 → x.bover < 3 → x.failed = false → dfld v 15 12 ≠ 15 → y.frame = none →
      Completes (.laneMarker l w) s (fun t => (t.lane l).failed = true ∧ (t.link l).st = 0 ∧ t.strata.seq = s.strata.seq + 1))) ∧
  (∀ (s : State) l hdr w, l < 48 → s.laneDeaf l = false → s.linkOf l = none → (s.lane l).lock = false →
    let valid := decide (hdr = 1) || decide (hdr = 2)
    let n := if valid then (s.lane l).good + 1 else 0
    Completes (.dataBlock l hdr w) s (fun t => t.lane l = { s.lane l with good := n, lock := decide (64 ≤ n), hist := 0, pwr := 0 } ∧
      t = { s with lanes := { s.lanes with lanes := t.lanes.lanes } })) ∧
  (∀ (s : State) l w, s.laneDeaf l = true → l < 48 → exec (.laneStart l w) s = .next s ∧ exec (.laneTerm l w) s = .next s ∧ exec (.laneMarker l w) s = .next s ∧
    exec (.laneIdle l) s = .next s ∧ exec (.laneSleep l) s = .next s ∧ exec (.dataBlock l 2 w) s = .next s) ∧
  (∀ (s : State) l w, 48 ≤ l → exec (.laneStart l w) s = .fault .noSuchUnit ∧ exec (.laneMarker l w) s = .fault .noSuchUnit ∧ exec (.dataBlock l 2 w) s = .fault .noSuchUnit)

/-- R455, R463: a Dalyel link of one lane that is UP collects a DFRAME, its data and its DEND; a good frame in order is held for its sink, with its ACK and CREDIT
taken; any other sets RETRY. A pattern checker seeds itself, locks after 64 correct bits and counts wrong ones. -/
def Obligations.DalyelLinksReceiveFrames : Prop :=
  (∀ (s : State) l, LaneAlone s l true →
    let x := s.lane l
    let y := s.link l
    let kept (t : State) : Prop := t.regs = s.regs ∧ t.lanes.reg = s.lanes.reg
    (∀ w, NotMarker s l 1 (typed w 0x55) →
      LaneTakes (.laneDframe l w) s l (laneAfter x (typed w 0x55) 0)
        { y with dal := some { hdr := typed w 0x55, blocks := [], bad := false }, retry := y.retry || y.dal.isSome } kept) ∧
    (∀ w f, NotMarker s l 2 w → y.dal = some f →
      LaneTakes (.dataBlock l 2 w) s l (laneAfter x w 0) { y with dal := some { f with blocks := w :: f.blocks } } kept) ∧
    (∀ w, NotMarker s l 1 (typed w 0x66) → y.dal = none → LaneTakes (.laneDend l w) s l (laneAfter x (typed w 0x66) 0) y kept) ∧
    (∀ w f, NotMarker s l 1 (typed w 0x66) → y.dal = some f →
      let ws := f.blocks.reverse
      let n := dfld f.hdr 59 56
      let good : Prop := f.bad = false ∧ ws.length = 2 * n ∧ (crc32c ((dwBytes f.hdr).drop 1 ++ ws.flatMap dwBytes)).toNat = dfld (typed w 0x66) 39 8
      (¬ good → LaneTakes (.laneDend l w) s l (laneAfter x (typed w 0x66) 0) { y with dal := none, retry := true } kept) ∧
      (good → n ≠ 0 → dfld f.hdr 23 8 ≠ y.expSeq.toNat → LaneTakes (.laneDend l w) s l (laneAfter x (typed w 0x66) 0) { y with dal := none, retry := true } kept) ∧
      (good → n ≠ 0 → dfld f.hdr 23 8 = y.expSeq.toNat → y.rx = [] → y.cnts = [] → s.gsr = true →
        LaneTakes (.laneDend l w) s l (laneAfter x (typed w 0x66) 0)
          { y with dal := none, expSeq := y.expSeq + 1, rx := [(y.expSeq, dalTokens ws)], credit := dfld f.hdr 55 40,
                   tpos := if dfld f.hdr 60 60 = 1 then 0 else y.tpos } kept))) ∧
  (∀ (s : State) l bits, l < 48 → (tb (s.lrd l LANE_PRBS) 30 = false ∨ s.pins.ioRst = true ∨ s.dom (domLane l) ≠ .on) → exec (.prbsReceive l bits) s = .next s) ∧
  (∀ (s : State) l (b : Bool), l < 48 → tb (s.lrd l LANE_PRBS) 30 = true → s.pins.ioRst = false → s.dom (domLane l) = .on →
    let x := s.lane l
    let p := prbsTaps (fld (s.lrd l LANE_PRBS) 29 28)
    let want := x.prbs.getLsbD (p.1 - 1) != x.prbs.getLsbD (p.2 - 1)
    let shifted (c : Bool) : BitVec 31 := (x.prbs <<< 1) ||| (if c then 1 else 0)
    let gives (y : Lane) (n : Word) : Prop := Completes (.prbsReceive l [b]) s (fun t => t.lane l = y ∧ t.lrd l LANE_PRBSERR = n ∧
      (∀ m, m ≠ l → t.lane m = s.lane m) ∧ t.regs = s.regs)
    (x.seen < p.1 → gives { x with prbs := shifted b, seen := x.seen + 1 } (s.lrd l LANE_PRBSERR)) ∧
    (p.1 ≤ x.seen → x.rxlock = false →
      gives { x with prbs := shifted b, run := if b = want then x.run + 1 else 0, rxlock := decide (b = want) && decide (63 ≤ x.run) } (s.lrd l LANE_PRBSERR)) ∧
    (p.1 ≤ x.seen → x.rxlock = true →
      gives { x with prbs := shifted want } (if b = want then s.lrd l LANE_PRBSERR else plusOne (s.lrd l LANE_PRBSERR)))) ∧
  (∀ (s : State) l bits w, 48 ≤ l → exec (.prbsReceive l bits) s = .fault .noSuchUnit ∧ exec (.laneDframe l w) s = .fault .noSuchUnit ∧
    exec (.laneDend l w) s = .fault .noSuchUnit)

/-- R446, R447, R455, R456, R461-R463: what links send, their low-power states, and the writes of their configuration. -/
def Obligations.LinksSendAndAreConfigured : Prop :=
  (∀ (s : State) l, l < 48 → (s.egressOk l = false ∨ s.dalyel l = true) → exec (.rawEgressFrame l) s = .next s) ∧
  (∀ (s : State) l u t, l < 48 → s.egressOk l = true → s.dalyel l = false → (s.link l).hazeTx = false → (s.link l).eg = none → (s.link l).xoffRx = false →
    s.qPeek (linkQueue s l) ((s.qrec (linkQueue s l)).depth + 1) = (u, some t) →
    (t.port ≠ 0 → exec (.rawEgressFrame l) s = .next u) ∧
    (t.port = 0 → exec (.rawEgressFrame l) s = .next (State.egTokens
      ((u.setLink l { u.link l with eg := some { inst := t.inst, sent := [], bad := false } }).linkSend l true
        (BitVec.ofNat 64 (0x78 + fld (u.lrd l LANE_LCFG) 22 19 * 2 ^ 8 + t.inst.toNat * 2 ^ 16))) l ((u.qrec (linkQueue s l)).depth + 1)))) ∧
  (∀ (s : State) l e t u, (s.link l).eg = some e → s.qPeek (linkQueue s l) ((s.qrec (linkQueue s l)).depth + 1) = (u, some t) → u.lanes = s.lanes → ∀ n,
    let i := e.sent.length
    ((256 ≤ i ∨ t.inst ≠ e.inst + BitVec.ofNat 24 (i / 16) ∨ t.port.toNat ≠ i % 16) → s.egTokens l (n + 1) = u.egTerm l) ∧
    (i < 256 → t.inst = e.inst + BitVec.ofNat 24 (i / 16) → t.port.toNat = i % 16 → (u.qDrop (linkQueue s l)).lanes = s.lanes →
      ∃ v : State, s.egTokens l (n + 1) = v.egTokens l n ∧ (v.link l).sent = (s.link l).sent ++ [(false, t.value)] ∧
        (v.link l).eg = some { e with sent := t.value :: e.sent, bad := e.bad || t.poison || decide (t.kind = .error) })) ∧
  (∀ (s : State) l, l < 48 → (s.qrec (linkQueue s l)).depth = 0 →
    ((s.link l).eg = none → exec (.rawEgressEmptyTimeout l) s = .next s) ∧
    (∀ e, (s.link l).eg = some e → Completes (.rawEgressEmptyTimeout l) s (fun t => ∃ w, (t.link l) = { s.link l with eg := none, sent := (s.link l).sent ++ [(true, w)] } ∧
      dfld w 7 0 = 0x87 ∧ dfld w 39 8 = (let c := crc32c (e.sent.reverse.flatMap dwBytes)
        (if e.bad then ~~~c else c).toNat) ∧ t = { s with lanes := { s.lanes with links := t.lanes.links } }))) ∧
  (∀ (s : State) l, l < 48 → (s.qrec (linkQueue s l)).depth ≠ 0 → exec (.rawEgressEmptyTimeout l) s = .next s) ∧
  (∀ (s : State) f (ts : List Token), ts.length ≤ 8 → ∃ h e, let x := s.link f
    let ws := ts.flatMap (fun t => [BitVec.ofNat 64 (tokenNat t / 2 ^ 64), (BitVec.ofNat 64 (tokenNat t) : DWord)])
    (s.dalSend f ts).link f = { x with retry := false, hazeTx := false, sent := x.sent ++ [(true, h)] ++ ws.map (fun w => (false, w)) ++ [(true, e)] } ∧
    dfld h 7 0 = 0x55 ∧ dfld h 23 8 = (x.base + BitVec.ofNat 16 x.tpos).toNat ∧ dfld h 39 24 = x.ackSeq.toNat ∧ dfld h 55 40 = 4096 ∧ dfld h 59 56 = ts.length ∧
    dfld h 60 60 = (if x.retry then 1 else 0) ∧ dfld e 7 0 = 0x66 ∧ dfld e 39 8 = (crc32c ((dwBytes h).drop 1 ++ ws.flatMap dwBytes)).toNat) ∧
  (∀ (s : State) l, l < 48 → (s.egressOk l = false ∨ s.dalyel l = false) → exec (.dalyelTransmit l) s = .next s) ∧
  (∀ (s : State) l u h v ts, l < 48 → s.egressOk l = true → s.dalyel l = true → s.qPeek (linkQueue s l) ((s.qrec (linkQueue s l)).depth + 1) = (u, h) →
    (u.link l).hazeTx = false →
    let x := u.link l
    let before := (x.cnts.take x.tpos).foldl (· + ·) 0
    (x.tpos < x.cnts.length → u.qRead (linkQueue s l) before (x.cnts.getD x.tpos 0) = (v, ts) →
      exec (.dalyelTransmit l) s = .next (let w := v.dalSend l ts
        w.setLink l { w.link l with tpos := x.tpos + 1 })) ∧
    (x.cnts.length ≤ x.tpos → u.qRead (linkQueue s l) before (Nat.min 8 (x.credit - before)) = (v, ts) →
      (ts = [] → exec (.dalyelTransmit l) s = .next v) ∧
      (ts ≠ [] → exec (.dalyelTransmit l) s = .next (let w := (v.countFlits (lanePort l) ts.length).dalSend l ts
        w.setLink l { w.link l with cnts := x.cnts ++ [ts.length], tpos := x.tpos + 1 })))) ∧
  (∀ (s : State) l, l < 48 → s.linkEn l = true → s.dalyel l = true →
    exec (.dalyelResendTimeout l) s = .next (s.setLink l { s.link l with tpos := 0 }) ∧
    ((s.link l).st = 3 → s.pins.ioRst = false → (s.link l).rx = [] → exec (.dalyelAckFrame l) s = .next (s.dalSend l []))) ∧
  (∀ (s : State) l, l < 48 → (s.linkEn l = false ∨ s.dalyel l = false) → exec (.dalyelResendTimeout l) s = .next s ∧ exec (.dalyelAckFrame l) s = .next s) ∧
  (∀ (s : State) l, l < 48 →
    let may : Prop := s.linkEn l = true ∧ (s.link l).st = 3 ∧ fld (s.lrd l LANE_LPCFG) 19 0 ≠ 0 ∧ (s.dalyel l = true ∨ tb (s.lrd l LANE_LCFG) 24 = true) ∧
      (s.link l).hazeTx = false ∧ (s.link l).eg = none ∧ (s.qrec (linkQueue s l)).depth = 0
    (may → Completes (.hazeEntry l) s (fun t => t.link l = { s.link l with hazeTx := true, sent := (s.link l).sent ++ [(true, 0x33#64)] } ∧
      (∀ m, t.lane m = if m ∈ s.linkLanes l then { s.lane m with pwr := 1 } else s.lane m) ∧ t = { s with lanes := t.lanes })) ∧
    (¬ may → exec (.hazeEntry l) s = .next s) ∧
    ((s.lane l).pwr = 1 → fld (s.lrd ((s.linkOf l).getD l) LANE_LPCFG) 31 24 ≠ 0 →
      exec (.duskEntry l) s = .next (s.setLane l { s.lane l with pwr := 2 })) ∧
    (((s.lane l).pwr ≠ 1 ∨ fld (s.lrd ((s.linkOf l).getD l) LANE_LPCFG) 31 24 = 0) → exec (.duskEntry l) s = .next s) ∧
    exec (.laneInj l) s = .next (s.setLane l { s.lane l with inj := (s.lane l).inj + 1 })) ∧
  (∀ (s : State) i v, let l := s.lsel i
    (48 ≤ l → exec (.laneLcfgWrite i v) s = .next ((s.setBits LANE_STATUS 32).answer i .ok [])) ∧
    (l < 48 → s.linkEn l = true → tb v 31 = true → exec (.laneLcfgWrite i v) s = .next (s.answer i .ok [])) ∧
    (l < 48 → s.linkEn l = true → tb v 31 = false → (s.link l).frame = none →
      Completes (.laneLcfgWrite i v) s (fun t => t.linkEn l = false ∧ t.lrd l LANE_LCFG = s.lrd l LANE_LCFG &&& 0x7FFFFFFF#32 ∧ (t.link l).st = 0 ∧ ansOf t i = ⟨.ok, []⟩ ∧
        RegsKept [LANE_STATUS] s t)) ∧
    (l < 48 → s.linkEn l = false → (tb v 31 = false ∨ s.lcfgOk l v = true) →
      exec (.laneLcfgWrite i v) s = .next ((s.lwr l LANE_LCFG (v &&& 0xFFF8FFFF#32)).answer i .ok [])) ∧
    (l < 48 → s.linkEn l = false → tb v 31 = true → s.lcfgOk l v = false → exec (.laneLcfgWrite i v) s = .next ((s.setBits LANE_STATUS 32).answer i .ok []))) ∧
  (∀ (s : State) g v, g < 12 →
    let r := fld v 14 0
    let free : Prop := ∀ j, j < 4 → s.linkOf (4 * g + j) = none
    (free → (r = 0 ∨ (1250 ≤ r ∧ r ≤ 32000)) → exec (.laneGrateWrite g v) s = .next (s.wr (LANE_GRATE g) (BitVec.ofNat 32 r))) ∧
    ((¬ free ∨ (r ≠ 0 ∧ (r < 1250 ∨ 32000 < r))) → exec (.laneGrateWrite g v) s = .next (s.setBits LANE_STATUS 32))) ∧
  (∀ (s : State) l v, 48 ≤ l → exec (.rawEgressFrame l) s = .fault .noSuchUnit ∧ exec (.dalyelTransmit l) s = .fault .noSuchUnit ∧
    exec (.hazeEntry l) s = .fault .noSuchUnit ∧ exec (.laneInj l) s = .fault .noSuchUnit ∧ exec (.laneGrateWrite l v) s = .fault .noSuchUnit)

/-! Halo ring, host interfaces and pins (R466-R497) -/

/-- R466-R471: what each frame of the ring does at this device, and what it sends: positions and N of ENUM, time, BOLTs, messages. -/
def Obligations.TheRingCarriesFrames : Prop :=
  (∀ (s : State) f, s.haloOn = false → exec (.haloFrame f) s = .next s) ∧
  (∀ (s : State) f, s.haloOn = true → haloGood f = false → Completes (.haloFrame f) s (fun t => t.rd HALO_CRCERR = plusOne (s.rd HALO_CRCERR) ∧
      RegsKept [HALO_CRCERR, HALO_CNTOVF] s t ∧ t.halo = s.halo)) ∧
  (∀ (s : State) f, s.haloOn = true → haloGood f = true →
    let sent (t : State) (typ dst src flags : Byte) (p : List Byte) : Prop := t.halo.out = s.halo.out ++ [haloFrameOf typ dst src flags p]
    let own : Prop := s.haloValid = true ∧ f.src = s.haloPos
    (f.typ = 1 → s.haloMaster = false → Completes (.haloFrame f) s (fun t =>
      t.rd HALO_POS = BitVec.ofNat 32 (2 ^ 31 + fld (s.rd HALO_POS) 22 16 * 2 ^ 16 + (enumCount f + 1) % 64) ∧ t.rd HALO_LOOP = BitVec.ofNat 32 (enumW f * 2 ^ 16) ∧
      tb (t.rd HALO_STATUS) 4 = false ∧ (tb (t.rd HALO_STATUS) 2 = true ↔ tb (s.rd HALO_STATUS) 2 = true ∨ t.rd HALO_POS ≠ s.rd HALO_POS) ∧
      sent t 1 f.dst f.src f.flags (enumPayload (enumUid f) (enumCount f + 1) (enumW f)) ∧ RegsKept [HALO_POS, HALO_LOOP, HALO_STATUS] s t)) ∧
    (f.typ = 1 → s.haloMaster = true → enumUid f = s.fuse.uid.toNat → let n := enumCount f + 1
      Completes (.haloFrame f) s (fun t => t.rd HALO_POS = BitVec.ofNat 32 (2 ^ 31 + n % 128 * 2 ^ 16) ∧
        t.rd HALO_LOOP = BitVec.ofNat 32 ((f.loopNs - (n - 1) * 256) / n % 2 ^ 16 * 2 ^ 16 + f.loopNs % 2 ^ 16) ∧ t.halo = { s.halo with out1 := 0 } ∧
        tb (t.rd HALO_STATUS) 5 = false)) ∧
    (f.typ = 1 → s.haloMaster = true → s.fuse.uid.toNat < enumUid f → Completes (.haloFrame f) s (fun t => tb (t.rd HALO_STATUS) 3 = true ∧ t.haloMaster = true ∧
      t.rd HALO_POS = s.rd HALO_POS ∧ sent t 1 f.dst f.src f.flags f.payload)) ∧
    (f.typ = 1 → s.haloMaster = true → enumUid f < s.fuse.uid.toNat → Completes (.haloFrame f) s (fun t => tb (t.rd HALO_STATUS) 3 = true ∧ t.haloMaster = false ∧
      fld (t.rd HALO_POS) 5 0 = (enumCount f + 1) % 64 ∧ sent t 1 f.dst f.src f.flags (enumPayload (enumUid f) (enumCount f + 1) (enumW f)))) ∧
    (f.typ ≠ 1 → f.typ ≠ 4 → own → exec (.haloFrame f) s = .next s) ∧
    (f.typ = 4 → own → tb (s.rd HALO_TXST) 31 = true → Completes (.haloFrame f) s (fun t =>
      t.rd HALO_TXST = (if f.flags.getLsbD 0 && !f.flags.getLsbD 1 then 1 else 2) ∧ tb (t.rd HALO_STATUS) 0 = true ∧ t.halo = s.halo)) ∧
    (f.typ = 3 → ¬ own → let tick : BitVec 64 := BitVec.ofNat 64 (bytesNat (f.payload.take 8))
      s.tickPast tick = false → s.snap.pend.length < 4 → (∀ b, b ∈ s.snap.pend → b.tick ≠ tick) →
      Completes (.haloFrame f) s (fun t => t.snap.pend = s.snap.pend ++ [⟨tick, 1⟩] ∧ sent t 3 f.dst f.src f.flags f.payload ∧ t.regs = s.regs)) ∧
    (f.typ = 4 → ¬ own → (s.haloValid = false ∨ (f.dst ≠ s.haloPos ∧ f.dst ≠ 0xFF#8)) →
      Completes (.haloFrame f) s (fun t => sent t 4 f.dst f.src f.flags f.payload ∧ t.halo.rx = s.halo.rx ∧ t.regs = s.regs)) ∧
    (f.typ = 4 → ¬ own → s.haloValid = true → (f.dst = s.haloPos ∨ f.dst = 0xFF#8) →
      (s.halo.rx.length < 8 → Completes (.haloFrame f) s (fun t => t.halo.rx = s.halo.rx ++ [⟨BitVec.ofNat 6 f.src.toNat, f.payload⟩] ∧ tb (t.rd HALO_STATUS) 1 = true ∧
        sent t 4 f.dst f.src (f.flags ||| 1) f.payload)) ∧
      (8 ≤ s.halo.rx.length → Completes (.haloFrame f) s (fun t => t.halo.rx = s.halo.rx ∧ sent t 4 f.dst f.src (f.flags ||| 2) f.payload ∧ t.regs = s.regs))) ∧
    (f.typ = 2 → ¬ own → s.haloMaster = false → tb (s.rd HALO_CTRL) 29 = true → s.haloValid = true → tb (s.rd STRATA_CTRL) 8 = false → Completes (.haloFrame f) s (fun t =>
      t.strata.tset = true ∧ t.strata.timeSeen = true ∧ sent t 2 f.dst f.src f.flags f.payload ∧
      (let p := fld (s.rd HALO_POS) 5 0
       t.strata.rtc = BitVec.ofNat 64 (bytesNat (f.payload.take 8) + nsTicks (p * fld (s.rd HALO_LOOP) 31 16 + (p - 1) * 256))) ∧
      t.strata.seq = (if s.strata.timeSeen = false ∨ 1049 ≤ (t.strata.rtc - s.strata.rtc).toInt.natAbs then s.strata.seq + 1 else s.strata.seq))) ∧
    (f.typ = 2 → ¬ own → (s.haloMaster = true ∨ tb (s.rd HALO_CTRL) 29 = false ∨ s.haloValid = false) →
      Completes (.haloFrame f) s (fun t => t = { s with halo := t.halo } ∧ sent t 2 f.dst f.src f.flags f.payload))) ∧
  (∀ (s : State), (s.haloOn = false ∨ s.haloMaster = false) → exec .haloEnum s = .next s ∧ exec .haloTime s = .next s) ∧
  (∀ (s : State), s.haloOn = true → s.haloMaster = true →
    exec .haloTime s = .next { s with halo := { s.halo with out := s.halo.out ++ [haloFrameOf 2 0xFF#8 s.haloPos 0 (natBytes 8 s.strata.rtc.toNat)] } } ∧
    Completes .haloEnum s (fun t => t.halo.out1 = s.halo.out1 + 1 ∧ t.halo.rx = s.halo.rx ∧
      t.halo.out = s.halo.out ++ [haloFrameOf 1 0xFF#8 0 0 (enumPayload s.fuse.uid.toNat 0 (fld (s.rd HALO_LOOP) 31 16))] ∧
      (2 ≤ s.halo.out1 → tb (t.rd HALO_STATUS) 5 = true) ∧ (s.halo.out1 < 2 → t.regs = s.regs))) ∧
  (∀ (s : State), (s.haloOn = false ∨ s.haloMaster = true) → exec .haloNomst s = .next s) ∧
  (∀ (s : State), s.haloOn = true → s.haloMaster = false → Completes .haloNomst s (fun t => tb (t.rd HALO_STATUS) 4 = true ∧ t.haloValid = false ∧
      fld (t.rd HALO_POS) 30 0 = fld (s.rd HALO_POS) 30 0 ∧ RegsKept [HALO_STATUS, HALO_POS] s t ∧ t.halo = s.halo)) ∧
  (∀ (s : State) v, s.pins.ioRst = false → fld v 14 8 ≤ 64 →
    (tb (s.rd HALO_TXST) 31 = true → Completes (.haloTxGo v) s (fun t => tb (t.rd HALO_STATUS) 7 = true ∧ t.halo = s.halo ∧ t.rd HALO_TXST = s.rd HALO_TXST)) ∧
    (tb (s.rd HALO_TXST) 31 = false → s.haloOn = true → Completes (.haloTxGo v) s (fun t => t.rd HALO_TXST = 0x80000000#32 ∧ t.rd HALO_TXCTL = v &&& 0x7FFF#32 ∧
      t.halo = { s.halo with out := s.halo.out ++ [haloFrameOf 4 (v.extractLsb' 0 8) s.haloPos 0
        (((List.range 16).flatMap (fun w => wordBytes (s.rd (HALO_TXBUF w)))).take (fld v 14 8))] } ∧ RegsKept [HALO_TXST, HALO_TXCTL] s t))) ∧
  (∀ (s : State), (tb (s.rd HALO_TXST) 31 = false → exec .haloLost s = .next s) ∧
    (tb (s.rd HALO_TXST) 31 = true → Completes .haloLost s (fun t => t.rd HALO_TXST = 3 ∧ tb (t.rd HALO_STATUS) 0 = true ∧ RegsKept [HALO_TXST, HALO_STATUS] s t ∧ t.halo = s.halo))) ∧
  (∀ (s : State), s.pins.ioRst = false → Completes .haloRxPop s (fun t => t = { s with halo := { s.halo with rx := t.halo.rx } } ∧ t.halo.rx = s.halo.rx.drop 1)) ∧
  (∀ (s : State), s.pins.ioRst = false → let tick := s.strata.rtc + BitVec.ofNat 64 (fld (s.rd HALO_CTRL) 15 0)
    s.haloOn = true → s.snap.pend.length < 4 → (∀ b, b ∈ s.snap.pend → b.tick ≠ tick) →
    Completes .haloBoltGo s (fun t => t.snap.pend = s.snap.pend ++ [⟨tick, 1⟩] ∧ t.regs = s.regs ∧ ∃ p, bytesNat p = tick.toNat ∧
      t.halo.out = s.halo.out ++ [haloFrameOf 3 0xFF#8 s.haloPos 0 p])) ∧
  (∀ (s : State) v, s.pins.ioRst = true → exec (.haloTxGo v) s = .next s ∧ exec .haloRxPop s = .next s ∧ exec .haloBoltGo s = .next s)

/-- R484-R488: the word addresses of native HP, accesses that wait, mirrors, pushed tokens; the SMBus target; timeouts. -/
def Obligations.HpAndSmbusReachTheDevice : Prop :=
  (∀ (s : State) a v, (s.hpUp = false ∨ s.hp.wait.isSome = true) → exec (.hpNativeRead a) s = .next s ∧ exec (.hpNativeWrite a v) s = .next s) ∧
  (∀ (s : State) (a : BitVec 14) v, s.hpUp = true → s.hp.wait = none → let n := a.toNat
    let reads (t : State) (x : Word) : Prop := exec (.hpNativeRead a) s = .next (({ t with hp := { s.hp with data := x } } : State).answer .hp .ok (wordBytes x))
    (n < 0x1000 → reads s (if s.gsr then 0 else smGet 0 s.hp.mirror n) ∧ exec (.hpNativeWrite a v) s = .next s) ∧
    (0x1000 ≤ n → n < 0x1400 → let at_ := s.rd64 HP_WBASE_LO + 4 * (n - 0x1000)
      exec (.hpNativeRead a) s = .next { s with hp := { s.hp with wait := some ⟨false, at_, 0⟩ } } ∧
      exec (.hpNativeWrite a v) s = .next { s with hp := { s.hp with wait := some ⟨true, at_, v⟩ } }) ∧
    (((0x1400 ≤ n ∧ n < 0x2000) ∨ 0x2040 ≤ n) → reads s 0 ∧ exec (.hpNativeWrite a v) s = .next s) ∧
    (0x2000 ≤ n → n < 0x2040 → let r := HP_STATUS + 4 * (n - 0x2000)
      (Reaches s .hp r → regPair r = none → reads (s.regFlits .hp r .ok) (s.regValue .hp r)) ∧
      (∀ u, s.busWrite .hp r v = (u, .ok) →
        exec (.hpNativeWrite a v) s = .next (({ u with hp := { u.hp with wait := none } } : State).answer .hp .ok [])))) ∧
  (∀ (s : State), s.hp.wait = none → exec .hpWindowComplete s = .next s ∧ exec .hpWindowTimeout s = .next s) ∧
  (∀ (s : State) x, s.hp.wait = some x → s.hpUp = true →
    (∀ u w, x.write = false → s.busRead .hp x.addr = (u, .ok, w) →
      exec .hpWindowComplete s = .next (({ u with hp := { u.hp with wait := none, data := w } } : State).answer .hp .ok (wordBytes w))) ∧
    (∀ u, x.write = true → s.busWrite .hp x.addr x.v = (u, .ok) →
      exec .hpWindowComplete s = .next (({ u with hp := { u.hp with wait := none } } : State).answer .hp .ok [])) ∧
    (∀ u w, x.write = false → s.busRead .hp x.addr = (u, .waits, w) →
      exec .hpWindowComplete s = .next (({ u with hp := { u.hp with wait := some x } } : State).answer .hp .waits []))) ∧
  (∀ (s : State) x (c : Instr) a w, s.hp.wait = some x → (c = .hpWindowTimeout ∨ c = .hostTimeout .hp a w) →
    Completes c s (fun t => t.hp = { s.hp with wait := none, data := if x.write then s.hp.data else 0 } ∧ ansOf t .hp = ⟨.error, [4]⟩ ∧ tb (t.rd HP_STATUS) 1 = true ∧
      t.rd HP_EINFO = (if tb (s.rd HP_STATUS) 1 then s.rd HP_EINFO else if x.write then 0x40000001#32 else 0x40000000#32) ∧ RegsKept [HP_STATUS, HP_EINFO] s t)) ∧
  (∀ (s : State) b ts, s.hp.buf = b :: ts →
    ((b.kind ≠ .data ∨ b.poison = true) → Completes .mirrorUpdate s (fun t => t.hp = { s.hp with buf := ts } ∧ t.rd HP_MDISC = plusOne (s.rd HP_MDISC))) ∧
    (b.kind = .data → b.poison = false → Completes .mirrorUpdate s (fun t => t.hp.buf = ts ∧ t.hp.wait = s.hp.wait ∧ let i := b.inst.toNat % 4096
      smGet 0 t.hp.mirror i = b.value.extractLsb' 0 32 ∧
      (b.port.getLsbD 0 = true → smGet 0 t.hp.mirror ((i + 1) % 4096) = b.value.extractLsb' 32 32) ∧
      (∀ j, j ≠ i → (b.port.getLsbD 0 = false ∨ j ≠ (i + 1) % 4096) → smGet 0 t.hp.mirror j = smGet 0 s.hp.mirror j) ∧
      t.rd HP_STATUS = (if b.port.getLsbD 1 then s.rd HP_STATUS ||| 4#32 else s.rd HP_STATUS) ∧ RegsKept [HP_STATUS] s t))) ∧
  (∀ (s : State), s.hp.buf = [] → exec .mirrorUpdate s = .next s) ∧
  (∀ (s : State) i v, Reaches s i (HP_PUSH 3) → s.ioBlock (HP_PUSH 3) = false →
    (i ≠ .hp → exec (.hpPush i v) s = .next (((s.setBits HP_STATUS 8).regFlits i (HP_PUSH 3) .ok).answer i .ok [])) ∧
    (∀ u b, i = .hp → s.sinkG hpPort (tb (s.rd HP_PUSHCTL) 0) (tokenOf ((s.rd (HP_PUSH 0)).toNat + 2 ^ 32 * (s.rd (HP_PUSH 1)).toNat + 2 ^ 64 * (s.rd (HP_PUSH 2)).toNat +
      2 ^ 96 * v.toNat)) = (u, b) → exec (.hpPush .hp v) s = .next ((u.regFlits .hp (HP_PUSH 3) (if b then .ok else .waits)).answer .hp (if b then .ok else .waits) []))) ∧
  (∀ (s : State) a v, (s.smbUp = false → exec (.smbSetAddress a true) s = .next s ∧ exec (.smbRead true) s = .next s ∧ exec (.smbWrite v true) s = .next s ∧
      exec .smbStatus s = .next s) ∧
    exec (.smbSetAddress a false) s = .next s ∧ exec (.smbRead false) s = .next s ∧ exec (.smbWrite v false) s = .next s) ∧
  (∀ (s : State), s.smbUp = true →
    (∀ a, exec (.smbSetAddress a true) s = .next { s with smb := { s.smb with addr := a } }) ∧
    (∀ u w, s.busRead .smb s.smb.addr.toNat = (u, .ok, w) →
      exec (.smbRead true) s = .next (({ u with smb := { u.smb with data := w, status := 0, addr := u.smb.addr + 4 } } : State).answer .smb .ok (wordBytes w))) ∧
    (∀ u v, s.busWrite .smb s.smb.addr.toNat v = (u, .ok) →
      exec (.smbWrite v true) s = .next (({ u with smb := { u.smb with status := 0, addr := u.smb.addr + 4 } } : State).answer .smb .ok [])) ∧
    (s.pins.por = false → s.pins.sysRst = false → isMem s.smb.addr.toNat = true → Completes (.smbRead true) s (fun t =>
      t.smb = { s.smb with data := 0, status := 3, addr := s.smb.addr + 4 } ∧ ansOf t .smb = ⟨.error, [1]⟩ ∧ t = { s with smb := t.smb, ifc := t.ifc })) ∧
    Completes .smbStatus s (fun t => t.smb = { s.smb with status := 0 } ∧ ansOf t .smb = ⟨.ok, [BitVec.ofNat 8 s.smb.status.toNat]⟩ ∧ t.regs = s.regs)) ∧
  (∀ (s : State) a w, (ansOf s .smb).kind = .waits → Completes (.hostTimeout .smb a w) s (fun t => t.smb.status = 9 ∧ t.smb.addr = s.smb.addr + 4 ∧
      ansOf t .smb = ⟨.error, [4]⟩ ∧ t = { s with smb := t.smb, ifc := t.ifc })) ∧
  (∀ (s : State) a w, (ansOf s .smb).kind ≠ .waits → exec (.hostTimeout .smb a w) s = .next s)

/-- R489-R494: bank registers, set and clear commands, HOLD, and the samples of the pads with their event tokens. -/
def Obligations.PinsAreDrivenAndSampled : Prop :=
  (∀ (s : State) b v, b < 20 → s.pins.ioRst = false →
    let gives (i : Instr) (a : Nat) (w : Word) : Prop := Completes i s (fun t => t.rd a = w ∧ RegsKept [a] s t ∧ t.gpio = s.gpio)
    gives (.gpioDataWrite b v) (GPIO_DATA b) (v &&& 0xFFFF#32) ∧ gives (.gpioSet b v) (GPIO_DATA b) (s.rd (GPIO_DATA b) ||| (v &&& 0xFFFF#32)) ∧
    gives (.gpioClr b v) (GPIO_DATA b) (s.rd (GPIO_DATA b) &&& ~~~(v &&& 0xFFFF#32)) ∧ gives (.gpioFoutWrite b v) (GPIO_FOUT b) (v &&& 0xFFFF#32) ∧
    gives (.gpioFset b v) (GPIO_FOUT b) (s.rd (GPIO_FOUT b) ||| (v &&& 0xFFFF#32)) ∧
    gives (.gpioFclr b v) (GPIO_FOUT b) (s.rd (GPIO_FOUT b) &&& ~~~(v &&& 0xFFFF#32)) ∧
    Completes (.gpioFselWrite b v) s (fun t => t.rd (GPIO_FSEL b) = v ∧ RegsKept [GPIO_FSEL b] s t ∧ t.gpio = { s.gpio with seen := t.gpio.seen } ∧
      (∀ i, i < 16 → (smGet 0 t.gpio.seen b).getLsbD i = t.padIn (16 * b + i)))) ∧
  (∀ (s : State) b v, s.pins.ioRst = true → exec (.gpioHoldWrite v) s = .next s ∧ (b < 20 → exec (.gpioDataWrite b v) s = .next s ∧ exec (.gpioSet b v) s = .next s ∧
    exec (.gpioClr b v) s = .next s ∧ exec (.gpioFoutWrite b v) s = .next s ∧ exec (.gpioFset b v) s = .next s ∧ exec (.gpioFclr b v) s = .next s ∧
    exec (.gpioFselWrite b v) s = .next s)) ∧
  (∀ (s : State) v, s.pins.ioRst = false → Completes (.gpioHoldWrite v) s (fun t => t.rd GPIO_HOLD = v &&& 0xFFFFF#32 ∧ RegsKept [GPIO_HOLD] s t ∧ t.gpio.pad = s.gpio.pad ∧
    t.gpio.ev = s.gpio.ev ∧ ∀ b, b < 20 →
      (tb v b = false → smFind t.gpio.latch b = none) ∧
      (∀ w, tb v b = true → smFind s.gpio.latch b = some w → smFind t.gpio.latch b = some w) ∧
      (tb v b = true → smFind s.gpio.latch b = none → ∃ w, smFind t.gpio.latch b = some w ∧
        ∀ i, i < 16 → w.1.getLsbD i = (s.nativeDrive b i).2 ∧ w.2.getLsbD i = (s.nativeDrive b i).1))) ∧
  (∀ (s : State) b pads, b < 20 → smGet [] s.gpio.ev b = [] →
    (∀ i, i < 16 → tb (s.rd (GPIO_EVTA b)) 31 = false ∨ fld (s.rd (GPIO_FSEL b)) (2 * i + 1) (2 * i) ≠ 2 ∨ fld (s.rd (GPIO_EDGE b)) (2 * i + 1) (2 * i) = 0 ∨ s.gsr = true ∨
      s.pins.ioRst = true) →
    Completes (.gpioEventEdge b pads) s (fun t => smGet 0 t.gpio.pad b = pads ∧ (∀ c, c ≠ b → smGet 0 t.gpio.pad c = smGet 0 s.gpio.pad c) ∧
      (∀ c, smGet [] t.gpio.ev c = smGet [] s.gpio.ev c) ∧ t = { s with gpio := t.gpio })) ∧
  (∀ (s : State) b i sample, let q := smGet [] s.gpio.ev b
    let a := s.rd (GPIO_EVTA b)
    let inst := fld (s.rd (GPIO_EVINST b)) 23 0
    (q.length < 16 → smGet [] (s.gpioEdge b i sample).gpio.ev b = q ++ [(tb a 30,
        { ctx := BitVec.ofNat 12 (fld a 23 12), inst := BitVec.ofNat 24 inst, port := BitVec.ofNat 4 i, kind := kindOf (fld a 29 28), pri := BitVec.ofNat 3 (fld a 27 25),
          flow := BitVec.ofNat 18 (fld (s.rd (GPIO_EVTB b)) 17 0), poison := false, value := s.strata.rtc.extractLsb' 0 48 ++ sample.extractLsb' 0 16 })] ∧
      (s.gpioEdge b i sample).rd (GPIO_EVINST b) = BitVec.ofNat 32 ((inst + 1) % 2 ^ 24)) ∧
    (16 ≤ q.length → (s.gpioEdge b i sample).gpio = s.gpio ∧ (s.gpioEdge b i sample).rd GPIO_EVDROP = plusOne (s.rd GPIO_EVDROP) ∧
      tb ((s.gpioEdge b i sample).rd GPIO_STATUS) 0 = true)) ∧
  (∀ (s : State) b v pads, 20 ≤ b → exec (.gpioDataWrite b v) s = .fault .noSuchUnit ∧ exec (.gpioSet b v) s = .fault .noSuchUnit ∧
    exec (.gpioClr b v) s = .fault .noSuchUnit ∧ exec (.gpioFoutWrite b v) s = .fault .noSuchUnit ∧ exec (.gpioFset b v) s = .fault .noSuchUnit ∧
    exec (.gpioFclr b v) s = .fault .noSuchUnit ∧ exec (.gpioFselWrite b v) s = .fault .noSuchUnit ∧ exec (.gpioEventEdge b pads) s = .fault .noSuchUnit)

/-! PCIe and DMA (R474-R482) -/

/-- R475-R478: requests through the BARs and the MSI-X table, their errors, the link and the resets of the endpoint. -/
def Obligations.PcieRequestsAreServed : Prop :=
  (∀ (s : State) bar off len bytes ep, s.linkUp = false → exec (.pcieMemRead bar off len) s = .next s ∧ exec (.pcieMemWrite bar off bytes ep) s = .next s) ∧
  (∀ (s : State) v i, s.linkUp = true → v < 2048 → i < 4 → let off := 0x3000000 + 16 * v + 4 * i
    exec (.pcieMemRead 0 off 4) s = .next (s.answer .pcie .ok (wordBytes (s.msixWord v i))) ∧
    (∀ w : Word, Completes (.pcieMemWrite 0 off ((wordBytes w).map some) false) s (fun t => t.msixWord v i = (if i = 3 then w &&& 1#32 else w) ∧
      (∀ u j, u < 2048 → j < 4 → (u ≠ v ∨ j ≠ i) → t.msixWord u j = s.msixWord u j) ∧ t.regs = s.regs ∧
      (smGet false s.pcie.pba v = false → t.pcie.out = s.pcie.out) ∧
      (smGet false s.pcie.pba v = true → tb (t.msixWord v 3) 0 = false → smGet false t.pcie.pba v = false ∧ t.pcie.out = s.pcie.out ++
        [.wr ((t.msixWord v 0).toNat + 2 ^ 32 * (t.msixWord v 1).toNat) (natBytes 4 (t.msixWord v 2).toNat)])))) ∧
  (∀ (s : State) off, s.linkUp = true → off < 0x1D00000 → let a := 0x2000000000 + off
    (Reaches s .pcie a → regPair a = none → a ≠ FLOW_POP 0 → a ≠ FLOW_WMQ → a ≠ MCE_KIDALLOC → a ≠ SEC_SESS → a ≠ CFG_LDPROG →
      exec (.pcieMemRead 0 off 4) s = .next ((s.regFlits .pcie a .ok).answer .pcie .ok (wordBytes (s.regValue .pcie a)))) ∧
    (∀ (w : Word) u, a % 4 = 0 → s.busWrite .pcie a w = (u, .ok) → exec (.pcieMemWrite 0 off ((wordBytes w).map some) false) s = .next (u.answer .pcie .ok [])) ∧
    (∀ len, len ≠ 4 → tb (s.rd PCIE_STATUS) 0 = false → Completes (.pcieMemRead 0 off len) s (fun t => ansOf t .pcie = ⟨.error, [1]⟩ ∧ tb (t.rd PCIE_STATUS) 0 = true ∧
      t.rd PCIE_EINFO = 0x10000000#32 ∧ t.rd64 PCIE_EADDR_LO = a ∧ t.rd PCIE_ERRCNT = plusOne (s.rd PCIE_ERRCNT))) ∧
    (∀ bytes, exec (.pcieMemWrite 0 off bytes true) s = .next s)) ∧
  (∀ (s : State) bar off a, s.linkUp = true → bar ≠ 0 → barAddr bar off = some a →
    (∀ len u d, s.pcieXfer a false len [] = (u, .ok, d) → exec (.pcieMemRead bar off len) s = .next (u.answer .pcie .ok d)) ∧
    (∀ len u d, s.pcieXfer a false len [] = (u, .poisoned, d) → tb (u.rd PCIE_STATUS) 0 = false →
      Completes (.pcieMemRead bar off len) s (fun t => ansOf t .pcie = ⟨.poisoned, List.replicate len 0⟩ ∧ t.rd PCIE_EINFO = 0x30000000#32 ∧
        tb (t.rd PCIE_STATUS) 0 = true)) ∧
    (∀ bytes u d, s.pcieXfer a true bytes.length bytes = (u, .ok, d) → exec (.pcieMemWrite bar off bytes false) s = .next (u.answer .pcie .ok [])) ∧
    (∀ bytes u d, s.accessGate .pcie a = none → s.poisonXfer ⟨.pcie, a, bytes.length, true, bytes⟩ = (u, .ok, d) →
      exec (.pcieMemWrite bar off bytes true) s = .next (u.answer .pcie .ok []))) ∧
  (∀ off, (off < 0xC000000 → barAddr 2 off = some (0x1000000000 + off)) ∧ (0xC000000 ≤ off → barAddr 2 off = none) ∧ (off < 2 ^ 36 → barAddr 4 off = some off) ∧
    (0x2000000 ≤ off → off < 0x2400000 → barAddr 0 off = some (0x2100000000 + (off - 0x2000000))) ∧ (0x1D00000 ≤ off → off < 0x2000000 → barAddr 0 off = none) ∧
    (0x2400000 ≤ off → barAddr 0 off = none)) ∧
  (∀ (s : State) bar off len, s.linkUp = true → inMsix bar off = false → barAddr bar off = none → tb (s.rd PCIE_STATUS) 0 = false →
    Completes (.pcieMemRead bar off len) s (fun t => ansOf t .pcie = ⟨.error, [1]⟩ ∧ tb (t.rd PCIE_STATUS) 0 = true ∧ t.rd PCIE_EINFO = 0x10000000#32)) ∧
  (∀ (s : State) a w, ((ansOf s .pcie).kind = .waits → tb (s.rd PCIE_STATUS) 0 = false → Completes (.hostTimeout .pcie a w) s (fun t => ansOf t .pcie = ⟨.error, [4]⟩ ∧
      t.rd PCIE_EINFO = (if w then 0x40000001#32 else 0x40000000#32) ∧ t.rd64 PCIE_EADDR_LO = a % 2 ^ 48 ∧ t.rd PCIE_ERRCNT = plusOne (s.rd PCIE_ERRCNT))) ∧
    ((ansOf s .pcie).kind ≠ .waits → exec (.hostTimeout .pcie a w) s = .next s) ∧ exec (.hostTimeout .supv a w) s = .next s) ∧
  (∀ (s : State), s.pcieOn = false → (exec .perst s = .next s ∧ exec .functionLevelReset s = .next s ∧ ∀ up w g, exec (.pcieLinkChange up w g) s = .next s)) ∧
  (∀ (s : State), s.pcieOn = true →
    let halts (t : State) : Prop := ∀ c, c < 64 → ((s.dmaSt c = 1 ∨ s.dmaSt c = 2) → t.dmaSt c = 3 ∧ fld (t.rd (PCIE_DMA_STAT c)) 18 16 = 5) ∧
      ((s.dmaSt c = 0 ∨ s.dmaSt c = 3) → t.rd (PCIE_DMA_STAT c) = s.rd (PCIE_DMA_STAT c))
    Completes .perst s (fun t => t.pcie.msix = [] ∧ t.pcie.pba = [] ∧ tb (t.rd PCIE_LINK) 8 = false ∧ halts t ∧ t.cells = s.cells ∧ t.spad = s.spad) ∧
    (tb (s.rd PCIE_LINK) 8 = true → Completes .functionLevelReset s (fun t => t.pcie.msix = [] ∧ t.rd PCIE_LINK = s.rd PCIE_LINK ∧ tb (t.rd PCIE_STATUS) 1 = true ∧ halts t ∧
      t.cells = s.cells ∧ t.spad = s.spad)) ∧
    (tb (s.rd PCIE_LINK) 8 = false → exec .functionLevelReset s = .next s) ∧
    (∀ w g, tb (s.rd PCIE_LINK) 8 = true → Completes (.pcieLinkChange false w g) s (fun t => t.rd PCIE_LINK = 0 ∧ tb (t.rd PCIE_STATUS) 2 = true ∧ t.pcie.dma = s.pcie.dma)) ∧
    (∀ w g, tb (s.rd PCIE_LINK) 8 = false → exec (.pcieLinkChange false w g) s = .next s) ∧
    (∀ w g, s.pastStep1 = true → s.clkFailed 14 = false → (w = 1 ∨ w = 2 ∨ w = 4 ∨ w = 8) → 1 ≤ g → g ≤ 4 → s.pcie.pba = [] →
      exec (.pcieLinkChange true w g) s = .next (s.wr PCIE_LINK (BitVec.ofNat 32 (256 + 16 * w + g)))) ∧
    (∀ w g, (s.pastStep1 = false ∨ (w ≠ 1 ∧ w ≠ 2 ∧ w ≠ 4 ∧ w ≠ 8) ∨ g = 0 ∨ 4 < g) → exec (.pcieLinkChange true w g) s = .next s))

/-- R479-R482: a channel fetches the descriptor at HEAD, copies, sends and takes tokens, writes its result and goes on; errors of the host, and RESUME, SKIP, STOP. -/
def Obligations.ChannelsRunDescriptors : Prop :=
  (∀ (s : State) c v, c < 64 → s.pcieOn = true →
    (tb (s.rd (PCIE_DMA_CTRL c)) 31 = false → exec (.dmaTailWrite c v) s = .next (s.wr (PCIE_DMA_TAIL c) (v &&& 0xFFFF#32))) ∧
    (tb (s.rd (PCIE_DMA_CTRL c)) 31 = true → s.dmaSt c = 0 → s.dmaHead c ≠ fld v 15 0 % s.dmaSize c → s.ringHost c = true → tb (s.rd PCIE_LINK) 8 = true →
      Completes (.dmaTailWrite c v) s (fun t => t.rd (PCIE_DMA_TAIL c) = v &&& 0xFFFF#32 ∧ t.dmaSt c = 1 ∧ t.dma c = { Dma.zero with want := .desc } ∧
        t.pcie.out = s.pcie.out ++ [.rd c (s.ringAddr c) 32] ∧ RegsKept [PCIE_DMA_TAIL c, PCIE_DMA_STAT c] s t))) ∧
  (∀ (s : State) c, c < 64 → s.pcieOn = true → tb (s.rd (PCIE_DMA_CTRL c)) 31 = true → s.dmaSt c = 1 → ∀ d, (s.dma c).desc = some d → (s.dma c).done = false →
    (dOp d = 1 → dLen d ≤ (s.dma c).cnt → exec (.dmaCopy c) s = .next (s.setDma c { s.dma c with done := true })) ∧
    (∀ u v bs k, dOp d = 1 → dShost d = false → dDhost d = false → (s.dma c).cnt = 0 → 1 ≤ dLen d → dLen d ≤ 256 →
      s.dmaRead c (dSrc d) (dLen d) = (u, .ok, bs) → bs.length = dLen d → u.dma c = s.dma c → u.dmaWrite c (dDst d) bs = (v, .ok, k) → v.dma c = s.dma c →
      Completes (.dmaCopy c) s (fun t => t.dma c = { s.dma c with cnt := dLen d, want := .none, done := true } ∧ (∀ j, j ≠ c → t.dma j = v.dma j) ∧
        t = { v with pcie := { v.pcie with dma := t.pcie.dma } })) ∧
    (dOp d = 1 → dShost d = true → (s.dma c).cnt < dLen d → (s.dma c).want = .none → tb (s.rd PCIE_LINK) 8 = true →
      let n := min 256 (dLen d - (s.dma c).cnt)
      Completes (.dmaCopy c) s (fun t => t.dma c = { s.dma c with want := .data n } ∧ t.pcie.out = s.pcie.out ++ [.rd c (dSrc d + (s.dma c).cnt) n] ∧
        t = { s with pcie := t.pcie })) ∧
    (∀ u v bs, dOp d = 2 → dShost d = false → (s.dma c).cnt = 0 → (s.dma c).left = [] → dLen d = 16 → s.dmaRead c (dSrc d) 16 = (u, .ok, bs) → bs.length = 16 →
      u.dma c = s.dma c → u.dmaSt c = 1 →
      (u.sinkG pciePort (dQueue d) (tokenOf (bytesNat bs)) = (v, true) → v.dma c = s.dma c → v.dmaSt c = 1 →
        Completes (.dmaTokin c) s (fun t => t.dma c = { s.dma c with cnt := 16, want := .none, done := true } ∧ t.dmaSt c = 1)) ∧
      (u.gsr = true → Completes (.dmaTokin c) s (fun t => (t.dma c).left = [tokenOf (bytesNat bs)] ∧ (t.dma c).cnt = 0 ∧ t.dmaSt c = 2 ∧ t.res = u.res))) ∧
    (∀ u tok, let q := fld (s.rd (PCIE_DMA_QUEUE c)) 17 0
      dOp d = 3 → s.gsr = false → dDhost d = true → (s.dma c).cnt = 0 → dLen d = 16 → (s.qrec q).cons = 2 → s.oneWay (queuePort q) pciePort = true → s.qPeek q ((s.qrec q).depth + 1) = (u, some tok) →
      u.dma c = s.dma c → ((u.hostWr (dDst d) (natBytes 16 (tokenNat tok))).dmaCount c 16 |>.qDrop q).dma c = { s.dma c with cnt := 16, want := .none } →
      exec (.dmaTokout c) s = .next (State.dmaOver ((((u.hostWr (dDst d) (natBytes 16 (tokenNat tok))).dmaCount c 16).qDrop q).countFlits pciePort 1) c)) ∧
    (let q := fld (s.rd (PCIE_DMA_QUEUE c)) 17 0
     dOp d = 3 → s.gsr = false → (s.dma c).cnt < dLen d → (s.qrec q).cons = 2 → (s.qrec q).depth = 0 →
      ((s.dma c).cnt = 0 → exec (.dmaTokout c) s = .next s) ∧ (0 < (s.dma c).cnt → exec (.dmaTokout c) s = .next (s.setDma c { s.dma c with done := true })))) ∧
  (∀ (s : State) c d, c < 64 → (s.dma c).desc = some d → (s.dma c).done = true → s.pcieOn = true → s.dmaSt c = 1 → s.ringHost c = true → tb (s.rd PCIE_LINK) 8 = true →
    tb (s.rd (PCIE_DMA_CTRL c)) 31 = false → Completes (.dmaDescriptorDone c) s (fun t => t.rd (PCIE_DMA_HEAD c) = BitVec.ofNat 32 ((s.dmaHead c + 1) % s.dmaSize c) ∧
      t.dmaSt c = 0 ∧ t.dma c = Dma.zero ∧ (dIrq d = true → tb (t.rd (PCIE_DMA_STAT c)) 8 = true) ∧
      (dIrq d = false → t.pcie.out = s.pcie.out ++ [.wr (s.ringAddr c + 24) (natBytes 4 (2 ^ 31) ++ natBytes 4 (s.dma c).cnt)]) ∧
      RegsKept [PCIE_DMA_HEAD c, PCIE_DMA_STAT c] s t)) ∧
  (∀ (s : State) c, c < 64 → (s.dma c).desc = none → exec (.dmaDescriptorDone c) s = .next s) ∧
  (∀ (s : State) c (bs : List Byte), c < 64 → s.pcieOn = true → s.dmaSt c = 1 → s.ringHost c = true →
    let stops (i : Instr) (cause : Nat) (addr : Option Nat) : Prop := Completes i s (fun t => t.dmaSt c = 3 ∧ fld (t.rd (PCIE_DMA_STAT c)) 18 16 = cause ∧
      tb (t.rd (PCIE_DMA_STAT c)) 9 = true ∧ t.dma c = { s.dma c with want := .none, left := [] } ∧
      t.rd64 (PCIE_DMA_FADDR_LO c) = (addr.getD (s.rd64 (PCIE_DMA_FADDR_LO c))))
    ((s.dma c).want = .desc → s.ringAddr c < 2 ^ 64 →
      (descOk (bytesNat (bs.take 32)) = true → exec (.hostCompletion c .ok bs) s = .next (s.setDma c { s.dma c with desc := some (bytesNat (bs.take 32)), want := .none, left := [], done := false })) ∧
      (∀ st, st ≠ .ok → stops (.hostCompletion c st bs) 1 (some (s.ringAddr c))) ∧ stops (.completionTimeout c) 1 (some (s.ringAddr c))) ∧
    (∀ d n, (s.dma c).want = .data n → (s.dma c).desc = some d → dSrc d + (s.dma c).cnt < 2 ^ 64 → let a := dSrc d + (s.dma c).cnt
      stops (.hostCompletion c .ep bs) 4 (some a) ∧ (∀ st, st ≠ .ok → st ≠ .ep → stops (.hostCompletion c st bs) 2 (some a)) ∧ stops (.completionTimeout c) 2 (some a) ∧
      (∀ u k, dOp d = 1 → dDhost d = false → dLen d = (s.dma c).cnt + (bs.take n).length →
        (s.setDma c { s.dma c with want := .none }).dmaWrite c (dDst d + (s.dma c).cnt) (bs.take n) = (u, .ok, k) → u.dma c = { s.dma c with want := .none } →
        Completes (.hostCompletion c .ok bs) s (fun t => t.dma c = { s.dma c with cnt := dLen d, want := .none, done := true } ∧ t = { u with pcie := { u.pcie with dma := t.pcie.dma } }))) ∧
    ((s.dma c).want = .none → ∀ st, exec (.hostCompletion c st bs) s = .next s ∧ exec (.completionTimeout c) s = .next s) ∧
    stops (.dmaStop c) 6 none) ∧
  (∀ (s : State) c, c < 64 → s.pcieOn = true → s.dmaSt c ≠ 3 → exec (.dmaResume c) s = .next (s.setBits PCIE_STATUS 8) ∧ exec (.dmaSkip c) s = .next (s.setBits PCIE_STATUS 8)) ∧
  (∀ (s : State) c, c < 64 → s.pcieOn = true → (s.dmaSt c = 0 ∨ s.dmaSt c = 3) → exec (.dmaStop c) s = .next (s.setBits PCIE_STATUS 8)) ∧
  (∀ (s : State) c, c < 64 → s.pcieOn = true → s.dmaSt c = 3 →
    (fld (s.rd (PCIE_DMA_STAT c)) 18 16 ≠ 1 → Completes (.dmaResume c) s (fun t => t.dmaSt c = 1 ∧ fld (t.rd (PCIE_DMA_STAT c)) 18 16 = 0 ∧ t.dma c = s.dma c ∧
      RegsKept [PCIE_DMA_STAT c] s t)) ∧
    (tb (s.rd (PCIE_DMA_CTRL c)) 31 = false → Completes (.dmaSkip c) s (fun t => t.rd (PCIE_DMA_HEAD c) = BitVec.ofNat 32 ((s.dmaHead c + 1) % s.dmaSize c) ∧ t.dmaSt c = 0 ∧
      fld (t.rd (PCIE_DMA_STAT c)) 18 16 = 0 ∧ t.dma c = Dma.zero ∧ RegsKept [PCIE_DMA_HEAD c, PCIE_DMA_STAT c] s t))) ∧
  (∀ (s : State) c v, c < 64 → s.pcieOn = false → exec (.dmaTailWrite c v) s = .next s ∧ exec (.dmaResume c) s = .next s ∧ exec (.dmaSkip c) s = .next s ∧ exec (.dmaStop c) s = .next s) ∧
  (∀ (s : State) c v st bs, 64 ≤ c → exec (.dmaTailWrite c v) s = .fault .noSuchUnit ∧ exec (.dmaCopy c) s = .fault .noSuchUnit ∧ exec (.dmaTokin c) s = .fault .noSuchUnit ∧
    exec (.dmaTokout c) s = .fault .noSuchUnit ∧ exec (.dmaDescriptorDone c) s = .fault .noSuchUnit ∧ exec (.dmaResume c) s = .fault .noSuchUnit ∧
    exec (.dmaSkip c) s = .fault .noSuchUnit ∧ exec (.dmaStop c) s = .fault .noSuchUnit ∧ exec (.hostCompletion c st bs) s = .fault .noSuchUnit ∧
    exec (.completionTimeout c) s = .fault .noSuchUnit)

/-! Recorder, snapshots and in-service tests (R498-R517) -/

/-- R499, R502-R508, R517: records take the next SEQ and a slot or are dropped and counted; samples go to bins and extremes; checkpoints replace the older
copy; the clears of records and statistics; the RTC is set by its pair. -/
def Obligations.TheRecorderKeepsItsLog : Prop :=
  (∀ (s : State) kind sev detail, guarBit kind = none → tb (s.rd STRATA_CTRL) 8 = false →
    let t := s.record kind sev detail
    t.strata.seq = s.strata.seq + 1 ∧
    (∀ i, recSlot s.strata.recs (s.strata.seq - 1) sev = some i → smFind t.strata.recs i = some ⟨s.timeWord, kind, sev, s.strata.seq, detail⟩ ∧ t.strata.newest = some i ∧
      (∀ j, j ≠ i → smFind t.strata.recs j = smFind s.strata.recs j) ∧ RegsKept [STRATA_STATUS] s t ∧
      t.rd STRATA_STATUS = (if fld (s.rd STRATA_CTRL) 1 0 ≤ sev.toNat then s.rd STRATA_STATUS ||| 1#32 else s.rd STRATA_STATUS)) ∧
    (recSlot s.strata.recs (s.strata.seq - 1) sev = none → t.strata.recs = s.strata.recs ∧ tb (t.rd STRATA_STATUS) 1 = true ∧
      (sev = 3 → t.rd STRATA_DROPCRIT = plusOne (s.rd STRATA_DROPCRIT) ∧ t.rd STRATA_DROPLOW = s.rd STRATA_DROPLOW) ∧
      (sev ≠ 3 → t.rd STRATA_DROPLOW = plusOne (s.rd STRATA_DROPLOW) ∧ t.rd STRATA_DROPCRIT = s.rd STRATA_DROPCRIT))) ∧
  (∀ (m : SMap Rec) newest sev, smSorted m = true → (∃ i, i < 28672 ∧ smFind m i = none) →
    ∃ i, recSlot m newest sev = some i ∧ i < 28672 ∧ smFind m i = none ∧ ∀ j, j < i → (smFind m j).isSome = true) ∧
  (∀ (m : SMap Rec) newest, smSorted m = true → (∀ i, i < 28672 → ∃ r, smFind m i = some r ∧ r.sev = 3) → (∀ i, 28672 ≤ i → smFind m i = none) →
    recSlot m newest 3 = none ∧ ∀ sev, sev ≠ 3 → recSlot m newest sev = none) ∧
  (∀ (s : State) i v, i < 676 → (i < 57 ∨ 72 < i) →
    let old := smGet Stat.zero s.strata.stats i
    let v : Int := if 81 ≤ i then (smGet 0 s.strata.acc i : Nat) else v
    Completes (.statisticSample i v) s (fun t => let new := smGet Stat.zero t.strata.stats i
      (∀ b, smGet 0 new.bins b = if b = statBin i v then plusOne (smGet 0 old.bins b) else smGet 0 old.bins b) ∧ new.any = true ∧
      (new.max, new.maxT) = (if old.any = false ∨ old.max < v then (v, s.timeWord) else (old.max, old.maxT)) ∧
      (new.min, new.minT) = (if old.any = false ∨ v < old.min then (v, s.timeWord) else (old.min, old.minT)) ∧
      (∀ j, j ≠ i → smGet Stat.zero t.strata.stats j = smGet Stat.zero s.strata.stats j) ∧ smGet 0 t.strata.acc i = 0 ∧ RegsKept [STRATA_STATUS] s t ∧
      t.rd STRATA_STATUS = (if 2 ^ 32 - 2 ≤ (smGet 0 old.bins (statBin i v)).toNat then s.rd STRATA_STATUS ||| 4#32 else s.rd STRATA_STATUS))) ∧
  (∀ (s : State) i v, 57 ≤ i → i ≤ 72 → let m := s.rd (STRATA_QMON (i - 57))
    (tb m 31 = false → exec (.statisticSample i v) s = .next s) ∧
    (tb m 31 = true → Completes (.statisticSample i v) s (fun t => let u := s.statSample i ((s.qrec (fld m 17 0)).depth : Nat)
      t = { u with strata := { u.strata with acc := t.strata.acc } }))) ∧
  (∀ (s : State) i v, 676 ≤ i → i < 724 → (s.linkOf (i - 676) = none → exec (.statisticSample i v) s = .next s) ∧
    (∀ f, s.linkOf (i - 676) = some f → (s.link f).st ≠ 3 → exec (.statisticSample i v) s = .next s) ∧
    (∀ f, s.linkOf (i - 676) = some f → (s.link f).st = 3 → Completes (.statisticSample i v) s (fun t => let u := s.statSample i (smGet 0 s.strata.acc i : Nat)
      smGet 0 t.strata.acc i = 0 ∧ t = { u with strata := { u.strata with acc := t.strata.acc } }))) ∧
  (∀ (s : State) i v, 724 ≤ i → exec (.statisticSample i v) s = .fault .noSuchUnit) ∧
  (∀ (s : State) (c : Instr), (c = .checkpointTimer ∨ c = .strataCkpt) →
    (s.garnetShut = true → exec c s = .next s) ∧
    (s.garnetShut = false → let a := (s.strata.ckA.map (fun x => x.1)).getD 0
      let b := (s.strata.ckB.map (fun x => x.1)).getD 0
      (b < a → exec c s = .next { s with strata := { s.strata with ckB := some (a + 1, s.strata.stats) } }) ∧
      (a ≤ b → exec c s = .next { s with strata := { s.strata with ckA := some (b + 1, s.strata.stats) } }))) ∧
  (∀ (s : State) sev, smSorted s.strata.recs = true → Completes (.strataClrrec sev) s (fun t =>
    (∀ i, smFind t.strata.recs i = (smFind s.strata.recs i).filter (fun r => decide (sev.toNat < r.sev.toNat))) ∧ t.strata.seq = s.strata.seq ∧
    t = { s with strata := { s.strata with recs := t.strata.recs, newest := t.strata.newest } } ∧
    (∀ i r, s.strata.newest = some i → smFind s.strata.recs i = some r → sev.toNat < r.sev.toNat → t.strata.newest = some i))) ∧
  (∀ (s : State) i,
    (i = 1023 → Completes (.strataClrstat i) s (fun t => t.strata = { s.strata with stats := [] } ∧ t.rd STRATA_STATUS = s.rd STRATA_STATUS &&& ~~~4#32 ∧
      RegsKept [STRATA_STATUS] s t)) ∧
    (i < 724 → Completes (.strataClrstat i) s (fun t => smGet Stat.zero t.strata.stats i = Stat.zero ∧
      (∀ j, j ≠ i → smGet Stat.zero t.strata.stats j = smGet Stat.zero s.strata.stats j) ∧ t.rd STRATA_STATUS = s.rd STRATA_STATUS &&& ~~~4#32 ∧ RegsKept [STRATA_STATUS] s t)) ∧
    (724 ≤ i → i ≠ 1023 → exec (.strataClrstat i) s = .next (s.setBits STRATA_STATUS 8))) ∧
  (∀ (s : State) i hi, Reaches s i STRATA_RTC_HI → let st := smGet (0, 0) s.ifc.stage (ifCode i)
    (st.1 = STRATA_RTC_LO + 1 → Completes (.strataRtcWrite i hi) s (fun t => t.strata.rtc = hi ++ st.2 ∧ t.strata.tset = true ∧ t.strata.seq = s.strata.seq + 1 ∧
      ansOf t i = ⟨.ok, []⟩ ∧ smGet (0, 0) t.ifc.stage (ifCode i) = (0, 0))) ∧
    (st.1 ≠ STRATA_RTC_LO + 1 → exec (.strataRtcWrite i hi) s = .next ((s.regFlits i STRATA_RTC_HI .ok).answer i .ok [])))

/-- R509-R511: BOLTs wait for their tick, at most four of them, and latch every register with RO or W1C fields unless a snapshot is held. -/
def Obligations.BoltsLatchSnapshots : Prop :=
  (∀ (s : State), (tb (s.rd SNAP_CTRL) 16 = false → exec .boltIn s = .next s) ∧
    (tb (s.rd HALO_CTRL) 28 = false → let tick := s.strata.rtc + BitVec.ofNat 64 (fld (s.rd SNAP_CTRL) 15 0)
      ((∃ b, b ∈ s.snap.pend ∧ b.tick = tick) → exec .snapBolt s = .next s ∧ exec .boltIn s = .next s) ∧
      ((∀ b, b ∈ s.snap.pend → b.tick ≠ tick) → s.snap.pend.length < 4 →
        exec .snapBolt s = .next { s with snap := { s.snap with pend := s.snap.pend ++ [⟨tick, 3⟩] } } ∧
        (tb (s.rd SNAP_CTRL) 16 = true → exec .boltIn s = .next { s with snap := { s.snap with pend := s.snap.pend ++ [⟨tick, 0⟩] } })) ∧
      ((∀ b, b ∈ s.snap.pend → b.tick ≠ tick) → 4 ≤ s.snap.pend.length → Completes .snapBolt s (fun t => t.snap = s.snap ∧
        t.rd SNAP_MISSED = plusOne (s.rd SNAP_MISSED) ∧ tb (t.rd SNAP_STATUS) 1 = true ∧ RegsKept [SNAP_MISSED, SNAP_CNTOVF, SNAP_STATUS] s t))) ∧
    (tb (s.rd HALO_CTRL) 28 = true → s.haloOn = true → let tick := s.strata.rtc + BitVec.ofNat 64 (fld (s.rd HALO_CTRL) 15 0)
      (∀ b, b ∈ s.snap.pend → b.tick ≠ tick) → s.snap.pend.length < 4 → Completes .snapBolt s (fun t => t.snap.pend = s.snap.pend ++ [⟨tick, 3⟩] ∧
        ∃ f : HaloFrame, t.halo.out = s.halo.out ++ [f] ∧ f.typ = 3 ∧ bytesNat f.payload = tick.toNat))) ∧
  (∀ (s : State) n, s.snap.pend = [] → Completes (.boltLatch n) s (fun t => t.strata.rtc = s.strata.rtc + BitVec.ofNat 64 n ∧ t.snap = s.snap ∧
    RegsKept [AGE_PTIME] s t ∧ t.cells = s.cells)) ∧
  (∀ (s : State) b, s.snap.pend = [b] → s.tickPast b.tick = true → let u : State := { s with snap := { s.snap with pend := [] } }
    (s.snap.held = none → Completes (.boltLatch 0) s (fun t => t.snap.pend = [] ∧ t.snap.held = some b ∧ tb (t.rd SNAP_STATUS) 0 = true ∧ RegsKept [SNAP_STATUS] s t ∧
      (∀ a, a ∉ latchAddrs → smGet 0 t.snap.latched a = 0) ∧
      (∀ a, a ∈ latchAddrs → latchFree a = false → a ≠ FLOW_WMQ → a ≠ CACHE_STATUS → smGet 0 t.snap.latched a = if s.latchDark a then 0 else u.regValue .supv a))) ∧
    (∀ h, s.snap.held = some h → h.tick ≠ b.tick → Completes (.boltLatch 0) s (fun t => t.snap = { s.snap with pend := [] } ∧
      t.rd SNAP_MISSED = plusOne (s.rd SNAP_MISSED) ∧ tb (t.rd SNAP_STATUS) 1 = true)) ∧
    (∀ h, s.snap.held = some h → h.tick = b.tick → exec (.boltLatch 0) s = .next u)) ∧
  (∀ (s : State) b, s.snap.pend = [b] → s.tickPast b.tick = false → s.strata.rtc + 1 = b.tick → s.snap.held = none → s.pins.por = true →
    Completes (.boltLatch 1) s (fun t => t.snap.held = some b ∧ t.snap.pend = [] ∧ t.strata.rtc = b.tick)) ∧
  (∀ (s : State), exec .snapRearm s = .next { s with snap := { s.snap with held := none } })

/-- R512-R516: tests of clusters in turn, their results, an interrupted test, the three tests of a fenced cluster and a test on request. -/
def Obligations.ClustersAreTestedInTurn : Prop :=
  (∀ (s : State) die ok, die < 2 → (s.gsr = true ∨ tb (s.rd BIST_CTRL) 31 = false ∨ (s.bistRun die).isSome = true ∨ s.bistPick die = none) →
    exec (.bistTestStart die ok) s = .next s) ∧
  (∀ (s : State) die ok c, die < 2 → s.gsr = false → tb (s.rd BIST_CTRL) 31 = true → s.bistRun die = none → s.bistPick die = some c →
    let u := s.setNext die (bistAfter die c)
    ((ok = false ∨ u.bistFits c = false) → Completes (.bistTestStart die ok) s (fun t => t.bist = u.bist ∧ t.rd BIST_DEFERS = plusOne (s.rd BIST_DEFERS) ∧
      tb (t.rd BIST_STATUS) 2 = true ∧ RegsKept [BIST_DEFERS, BIST_CNTOVF, BIST_STATUS] s t)) ∧
    (ok = true → u.bistFits c = true → s.dom c = .on → (∀ b, s.bistRun (1 - die) = some b → b.cluster < 1024) → Completes (.bistTestStart die ok) s (fun t => t.bistRun die = some ⟨c, true⟩ ∧ t.bistRun (1 - die) = s.bistRun (1 - die) ∧
      t.bistNext die = bistAfter die c ∧ tb (t.rd BIST_STATUS) (4 + die) = true ∧ (t.rd BIST_CUR).toNat / 2 ^ (16 * die) % 2 ^ 16 = (2 ^ 15 + c) % 2 ^ 16 ∧
      RegsKept [BIST_STATUS, BIST_CUR] s t ∧ t.cells = s.cells))) ∧
  (∀ (s : State) die c, s.bistPick die = some c → s.fenced c = false ∧ 512 * die ≤ c ∧ c < 512 * die + 512) ∧
  (∀ (s : State) c, c < 1024 → let p := s.bistJudge c true
    let f := s.bistJudge c false
    p.rd BIST_PASSES = plusOne (s.rd BIST_PASSES) ∧ p.rd BIST_LAST = BitVec.ofNat 32 (2 ^ 30 + c) ∧ tb (p.rd BIST_STATUS) 1 = true ∧ p.rd BIST_FAILS = s.rd BIST_FAILS ∧
    f.rd BIST_FAILS = plusOne (s.rd BIST_FAILS) ∧ f.rd BIST_LAST = BitVec.ofNat 32 (2 ^ 31 + c) ∧ tb (f.rd BIST_STATUS) 0 = true ∧ tb (f.rd BIST_STATUS) 1 = true ∧
    f.rd BIST_PASSES = s.rd BIST_PASSES) ∧
  (∀ (s : State) die b, die < 2 → s.bistRun die = some b →
    (s.bistReady b.cluster = false → ∀ ok, exec (.bistSignatureCheck die ok) s = .next s) ∧
    (s.bistReady b.cluster = true → s.bistUpset b.cluster = true → ∀ ok, exec (.bistSignatureCheck die ok) s = .next (s.bistStop die b)) ∧
    (s.bistReady b.cluster = true → s.bistUpset b.cluster = false → exec (.bistSignatureCheck die false) s = .next (((s.setRun die none).bistJudge b.cluster false).fenceCluster b.cluster 1) ∧
      ((∀ i, i < 4 → (s.plane b.cluster i).st ≠ .valid) → exec (.bistSignatureCheck die true) s = .next ((s.setRun die none).bistJudge b.cluster true))) ∧
    Completes (.bistInterrupt die) s (fun t => t.bistRun die = none ∧ t.bistNext die = b.cluster ∧ t.bistRun (1 - die) = s.bistRun (1 - die) ∧
      t.rd BIST_LAST = BitVec.ofNat 32 (3 * 2 ^ 30 + b.cluster) ∧ tb (t.rd BIST_STATUS) (4 + die) = false ∧ t.cells = s.cells)) ∧
  (∀ (s : State) die ok, die < 2 → s.bistRun die = none → exec (.bistSignatureCheck die ok) s = .next s ∧ exec (.bistInterrupt die) s = .next s) ∧
  (∀ (s : State) c p, c < 1024 →
    (((s.bistRun (c / 512)).isSome = true ∨ s.fenced c = false) → exec (.bistUnfence c p) s = .next (s.setBits BIST_STATUS 8)) ∧
    (s.bistRun (c / 512) = none → s.fenced c = true → tb (s.rd STRATA_CTRL) 8 = false →
      (p.take 3 = [true, true, true] → Completes (.bistUnfence c p) s (fun t => t.fenced c = false ∧ (∀ d, d ≠ c → t.fenced d = s.fenced d) ∧ t.strata.seq = s.strata.seq + 1 ∧
        t.rd BIST_PASSES = plusOne (plusOne (plusOne (s.rd BIST_PASSES))))) ∧
      (p = [false] → exec (.bistUnfence c p) s = .next (s.bistJudge c false))) ∧
    (((s.bistRun (c / 512)).isSome = true ∨ s.fenced c = true) → exec (.bistTest c) s = .next (s.setBits BIST_STATUS 8)) ∧
    (s.bistRun (c / 512) = none → s.fenced c = false → s.dom c = .on → Completes (.bistTest c) s (fun t => t.bistRun (c / 512) = some ⟨c, true⟩ ∧
      t.bistRun (1 - c / 512) = s.bistRun (1 - c / 512) ∧ tb (t.rd BIST_STATUS) (4 + c / 512) = true ∧ RegsKept [BIST_STATUS, BIST_CUR] s t ∧ t.cells = s.cells))) ∧
  (∀ (s : State) n p ok, (2 ≤ n → exec (.bistTestStart n ok) s = .fault .noSuchUnit ∧ exec (.bistSignatureCheck n ok) s = .fault .noSuchUnit ∧
    exec (.bistInterrupt n) s = .fault .noSuchUnit) ∧ (1024 ≤ n → exec (.bistUnfence n p) s = .fault .noSuchUnit ∧ exec (.bistTest n) s = .fault .noSuchUnit))

/-! The machine as a whole -/

/-- A step with a command at the front of the queue is that command on the state with the queue's rest; with an empty queue one RTCK edge passes, a
re-key under way passes one page and links offer the tokens they hold (the model's choice, log entries 1 and 109). -/
def Obligations.StepRunsTheFrontCommand : Prop :=
  (∀ (c : Instr) (s : State) rest, s.pending = c :: rest → step s = exec c { s with pending := rest }) ∧
  (∀ (s : State), s.pending = [] → step s = .next s.edge.rekeyPage.linksRetry) ∧
  (∀ (s : State) n w, s.withFetchWord n w = s)

/-- R17, R38, R67, R384, R528 and the register tables: what reset leaves: POR_N low, no command waiting, registers at the reset values of their tables on a
TR4096L, cells, planes, tasks, packets and tables empty. The fuse values and the values of places the spec gives none are the model's choice (log entry 3). -/
def Obligations.ResetLeavesTheTablesValues : Prop :=
  State.reset.pending = [] ∧ State.reset.pins.por = true ∧ State.reset.gsr = true ∧ State.reset.cfg.st = .held ∧
  (∀ a, State.reset.rd a = regReset false a) ∧
  [SYS_DEVID, CLK_CTRL, PWR_CPOL, PWR_OPP 0, TH_CTRL, TH_MICAK, TH_REG 0, STRATA_CTRL, SNAP_CTRL, DSP_CTRL].map State.reset.rd =
    [0x40965C11#32, 1#32, 0x140E0010#32, 0x3033#32, 0x105#32, 0x10#32, 0x30#32, 0x32#32, 8#32, 0x10#32] ∧
  [DSP_BUD 0, NOC_RCFG, NOC_BNCDLY, SPAD_BANK 127, LANE_LCFG, HALO_CTRL, GPIO_FSEL 19, BIST_CTRL, PCIE_LINK, SEC_DBG].map State.reset.rd =
    [0x2BC0#32, 0x108#32, 0x40#32, 0xFF#32, 0x1000#32, 0x20000400#32, 0xFFFFFFFF#32, 0x8000000A#32, 0#32, 0#32] ∧
  (∀ c k, State.reset.cell c k = Cell.zero) ∧ (∀ c p, State.reset.plane c p = Plane.zero) ∧ (∀ c, State.reset.runInst c = none) ∧
  State.reset.dsp.insts = [] ∧ State.reset.noc.pkts = [] ∧ State.reset.strata.recs = [] ∧ State.reset.snap.held = none ∧ State.reset.sec.sess.st = .idle ∧
  (∀ l, State.reset.linkEn l = false) ∧ (∀ d, State.reset.dom d = .on)

/-- R40, R94, R324: the fields of a microinstruction, of an MZ entry and of a token are read back whole from their words, and a word from its fields. -/
def Obligations.WordsAndFieldsAgree : Prop :=
  (∀ op (m : Micro), op < 64 → microOf (Micro.word op m) = (op, m)) ∧
  (∀ w : Word, Micro.word (microOf w).1 (microOf w).2 = w) ∧
  (∀ op (e : MzEntry), op < 32 → mzEntryOf (mzEntryWord op e) = (op, e)) ∧
  (∀ w : Word, mzEntryWord (mzEntryOf w).1 (mzEntryOf w).2 = w &&& 0xFFFEFFFF#32) ∧
  (∀ t : Token, tokenOf (tokenNat t) = t ∧ tokenNat t < 2 ^ 128) ∧
  (∀ n, n < 2 ^ 128 → tokenNat (tokenOf n) = n) ∧
  (∀ op (m : Micro) w, op < 64 → (w = Micro.word op m ↔ microOf w = (op, m)))

/-- R1, R3: no step changes the fuses, and a step takes exactly its command from the queue, first in, first out. Every well-formed command that is no row of a
cell answers a next state in every state; a row of a cell does where the loader lets its word through (R66), and PSW, in cell 0, likewise. -/
def Obligations.EveryStepKeepsFusesAndTheQueue : Prop :=
  (∀ (s t : State), step s = .next t → t.fuse = s.fuse ∧ t.pending = s.pending.drop 1) ∧
  (∀ (i : Instr) (s : State), i.wf = true → (∀ r, r ∈ cellRows ++ portRows → ∀ c k m, i ≠ r.cmd c k m) → (∀ c k m, i ≠ .psw c k m) → ∃ t, exec i s = .next t) ∧
  (∀ (r : CellRow) (s : State) c k m, r ∈ cellRows ++ portRows → c < 1024 → k < 32 → CellLegal (s.openCycle c k) r c k m → ∃ t, exec (r.cmd c k m) s = .next t) ∧
  (∀ (s : State) c m, c < 1024 → Micro.ok m (.field 0x03#5) false = true → ∃ t, exec (.psw c 0 m) s = .next t)
end

