-- ==== Sys2Proof/Laws/SMap.lean ====
section
/-! SUPPORT. Laws of the sparse tables: a read after a write, and that every operation keeps the canonical form. -/

namespace Sys2Proof

variable {α : Type}

/-! Reading after writing -/

@[simp] theorem smFind_nil (x : Nat) : smFind ([] : SMap α) x = none := rfl
@[simp] theorem smGet_nil (d : α) (x : Nat) : smGet d [] x = d := rfl

theorem smFind_smPut_self (m : SMap α) (x : Nat) (v : α) : smFind (smPut m x v) x = some v := by
  induction m with
  | nil => simp [smPut, smFind]
  | cons e m ih =>
    obtain ⟨k, w⟩ := e
    simp only [smPut]
    split
    · simp [smFind]
    · split
      · simp [smFind]
      · rename_i h1 h2
        simp [smFind, h2, ih]

theorem smFind_smPut_of_ne (m : SMap α) {x y : Nat} (v : α) (h : y ≠ x) : smFind (smPut m x v) y = smFind m y := by
  induction m with
  | nil => simp [smPut, smFind, h]
  | cons e m ih =>
    obtain ⟨k, w⟩ := e
    simp only [smPut]
    split
    · simp [smFind, h]
    · split
      · rename_i h1 h2
        simp [smFind, h, ← h2]
      · simp only [smFind, ih]

theorem smFind_smDel_self (m : SMap α) (x : Nat) : smFind (smDel m x) x = none := by
  induction m with
  | nil => rfl
  | cons e m ih =>
    obtain ⟨k, w⟩ := e
    simp only [smDel, decide_not, ne_eq] at ih
    by_cases h : k = x
    · simp [smDel, h, ih]
    · have h' : x ≠ k := fun e => h e.symm
      simp [smDel, smFind, h, h', ih]

theorem smFind_smDel_of_ne (m : SMap α) {x y : Nat} (h : y ≠ x) : smFind (smDel m x) y = smFind m y := by
  induction m with
  | nil => rfl
  | cons e m ih =>
    obtain ⟨k, w⟩ := e
    simp only [smDel, decide_not, ne_eq] at ih
    by_cases hk : k = x
    · subst hk
      simp [smDel, smFind, ih, h]
    · by_cases hy : y = k <;> simp [smDel, smFind, hk, hy, ih]

@[simp] theorem smGet_smSet_self [DecidableEq α] (d : α) (m : SMap α) (x : Nat) (v : α) : smGet d (smSet d m x v) x = v := by
  unfold smGet smSet
  split
  · simp [smFind_smDel_self, *]
  · simp [smFind_smPut_self]

theorem smGet_smSet_of_ne [DecidableEq α] (d : α) (m : SMap α) {x y : Nat} (v : α) (h : y ≠ x) :
    smGet d (smSet d m x v) y = smGet d m y := by
  unfold smGet smSet
  split
  · rw [smFind_smDel_of_ne _ h]
  · rw [smFind_smPut_of_ne _ _ h]

theorem smGet_smSet [DecidableEq α] (d : α) (m : SMap α) (x y : Nat) (v : α) :
    smGet d (smSet d m x v) y = if y = x then v else smGet d m y := by
  split
  · subst y; simp
  · rw [smGet_smSet_of_ne _ _ _ ‹_›]

/-- A write against another default, of a value that is not that default. -/
theorem smGet_smSet_other [DecidableEq α] (d d' : α) (m : SMap α) (x y : Nat) (v : α) (h : v ≠ d') :
    smGet d (smSet d' m x v) y = if y = x then v else smGet d m y := by
  unfold smGet smSet
  rw [if_neg h]
  split
  · subst y; simp [smFind_smPut_self]
  · rw [smFind_smPut_of_ne _ _ ‹_›]

/-! The canonical form -/

/-- Every key of a table lies above a bound. -/
def smAbove (n : Nat) (m : SMap α) : Prop := ∀ e ∈ m, n < e.1

theorem smSorted_cons (e : Nat × α) (m : SMap α) : smSorted (e :: m) = true ↔ smAbove e.1 m ∧ smSorted m = true := by
  induction m generalizing e with
  | nil => simp [smSorted, smAbove]
  | cons b m ih =>
    simp only [smSorted, Bool.and_eq_true, decide_eq_true_eq, ih]
    constructor
    · rintro ⟨h, hb, hm⟩
      refine ⟨fun x hx => ?_, hb, hm⟩
      rcases List.mem_cons.1 hx with rfl | hx
      · exact h
      · exact lt_trans h (hb x hx)
    · rintro ⟨ha, hb, hm⟩
      exact ⟨ha b (by simp), hb, hm⟩

theorem smAbove_smPut {n : Nat} {m : SMap α} (h : smAbove n m) {x : Nat} (hx : n < x) (v : α) : smAbove n (smPut m x v) := by
  induction m with
  | nil => intro e he; simp [smPut] at he; subst he; exact hx
  | cons b m ih =>
    obtain ⟨k, w⟩ := b
    have hk : n < k := h (k, w) (by simp)
    have hm : smAbove n m := fun e he => h e (by simp [he])
    intro e he
    simp only [smPut] at he
    split at he
    · rcases List.mem_cons.1 he with rfl | he
      · exact hx
      · exact h e he
    · split at he
      · rcases List.mem_cons.1 he with rfl | he
        · exact hx
        · exact hm e he
      · rcases List.mem_cons.1 he with rfl | he
        · exact hk
        · exact ih hm e he

theorem smSorted_smPut {m : SMap α} (h : smSorted m = true) (x : Nat) (v : α) : smSorted (smPut m x v) = true := by
  induction m with
  | nil => rfl
  | cons b m ih =>
    obtain ⟨k, w⟩ := b
    obtain ⟨hb, hm⟩ := (smSorted_cons _ _).1 h
    simp only [smPut]
    split
    · rename_i hlt
      refine (smSorted_cons _ _).2 ⟨fun e he => ?_, h⟩
      rcases List.mem_cons.1 he with rfl | he
      · exact hlt
      · exact lt_trans hlt (hb e he)
    · split
      · rename_i hne heq
        subst heq
        exact (smSorted_cons _ _).2 ⟨hb, hm⟩
      · rename_i h1 h2
        exact (smSorted_cons _ _).2 ⟨smAbove_smPut hb (by simp only; omega) v, ih hm⟩

theorem smSorted_filter {m : SMap α} (h : smSorted m = true) (p : Nat × α → Bool) : smSorted (m.filter p) = true := by
  induction m with
  | nil => rfl
  | cons b m ih =>
    obtain ⟨hb, hm⟩ := (smSorted_cons _ _).1 h
    simp only [List.filter_cons]
    split
    · exact (smSorted_cons _ _).2 ⟨fun e he => hb e (List.mem_of_mem_filter he), ih hm⟩
    · exact ih hm

theorem mem_smPut {m : SMap α} {x : Nat} {v : α} {e : Nat × α} (h : e ∈ smPut m x v) : e = (x, v) ∨ e ∈ m := by
  induction m with
  | nil => simpa [smPut] using h
  | cons b m ih =>
    obtain ⟨k, w⟩ := b
    simp only [smPut] at h
    split at h
    · simpa using h
    · split at h
      · rcases List.mem_cons.1 h with h | h
        · exact .inl h
        · exact .inr (by simp [h])
      · rcases List.mem_cons.1 h with h | h
        · exact .inr (by simp [h])
        · rcases ih h with h | h
          · exact .inl h
          · exact .inr (by simp [h])

theorem smWf_iff [DecidableEq α] (d : α) (m : SMap α) : smWf d m = true ↔ smSorted m = true ∧ ∀ e ∈ m, e.2 ≠ d := by
  simp [smWf, List.all_eq_true]

@[simp] theorem smWf_nil [DecidableEq α] (d : α) : smWf d ([] : SMap α) = true := rfl

theorem smWf_filter [DecidableEq α] {d : α} {m : SMap α} (h : smWf d m = true) (p : Nat × α → Bool) : smWf d (m.filter p) = true := by
  rw [smWf_iff] at h ⊢
  exact ⟨smSorted_filter h.1 p, fun e he => h.2 e (List.mem_of_mem_filter he)⟩

theorem smWf_smDel [DecidableEq α] {d : α} {m : SMap α} (h : smWf d m = true) (x : Nat) : smWf d (smDel m x) = true :=
  smWf_filter h _

theorem smWf_smDrop [DecidableEq α] {d : α} {m : SMap α} (h : smWf d m = true) (p : Nat → Bool) : smWf d (smDrop p m) = true :=
  smWf_filter h _

theorem smWf_smSet [DecidableEq α] {d : α} {m : SMap α} (h : smWf d m = true) (x : Nat) (v : α) : smWf d (smSet d m x v) = true := by
  unfold smSet
  split
  · exact smWf_smDel h x
  · rename_i hv
    rw [smWf_iff] at h ⊢
    refine ⟨smSorted_smPut h.1 x v, fun e he => ?_⟩
    rcases mem_smPut he with rfl | he
    · exact hv
    · exact h.2 e he

theorem smWf_smSetList [DecidableEq α] {d : α} (vs : List α) {m : SMap α} (h : smWf d m = true) (x : Nat) : smWf d (smSetList d m x vs) = true := by
  induction vs generalizing m x with
  | nil => exact h
  | cons v vs ih => exact ih (smWf_smSet h x v) (x + 1)

theorem smWf_smSetMasked [DecidableEq α] {d : α} (vs : List (Option α)) {m : SMap α} (h : smWf d m = true) (x : Nat) :
    smWf d (smSetMasked d m x vs) = true := by
  induction vs generalizing m x with
  | nil => exact h
  | cons v vs ih =>
    cases v with
    | none => exact ih h (x + 1)
    | some v => exact ih (smWf_smSet h x v) (x + 1)

/-- Tables in the canonical form that read the same are the same data. -/
theorem smFind_of_above {m : SMap α} {x : Nat} (h : smAbove x m) : smFind m x = none := by
  induction m with
  | nil => rfl
  | cons b m ih =>
    obtain ⟨k, w⟩ := b
    have hk : x < k := h (k, w) (by simp)
    have : x ≠ k := by omega
    simp [smFind, this, ih (fun e he => h e (by simp [he]))]

/-- A list written at consecutive keys is read back. -/
theorem smGet_smSetList [DecidableEq α] (d : α) (vs : List α) (m : SMap α) (x y : Nat) :
    smGet d (smSetList d m x vs) y = if x ≤ y ∧ y < x + vs.length then vs.getD (y - x) d else smGet d m y := by
  induction vs generalizing m x with
  | nil =>
    have : ¬(x ≤ y ∧ y < x + 0) := by omega
    simp [smSetList]
  | cons v vs ih =>
    simp only [smSetList, ih, List.length_cons, smGet_smSet]
    by_cases h : y = x
    · subst h; simp
    · by_cases h2 : x + 1 ≤ y ∧ y < x + 1 + vs.length
      · have h3 : x ≤ y ∧ y < x + (vs.length + 1) := by omega
        have h4 : y - x = y - (x + 1) + 1 := by omega
        simp [h2, h3, h4]
      · have h3 : ¬(x ≤ y ∧ y < x + (vs.length + 1)) := by omega
        rw [if_neg h2, if_neg h, if_neg h3]

end Sys2Proof
end

