-- ==== Sys2Proof/Laws/State.lean ====
section
/-! SUPPORT. Laws of the state's updates: one lemma per field per update that leaves the field alone, and what the accessors read after an update. -/

namespace Sys2Proof.Machine

@[simp] theorem State.setCell_pending (s : State) (c k : Nat) (x : Cell) : (s.setCell c k x).pending = s.pending := rfl
@[simp] theorem State.setCell_ifc (s : State) (c k : Nat) (x : Cell) : (s.setCell c k x).ifc = s.ifc := rfl
@[simp] theorem State.setCell_regs (s : State) (c k : Nat) (x : Cell) : (s.setCell c k x).regs = s.regs := rfl
@[simp] theorem State.setCell_fuse (s : State) (c k : Nat) (x : Cell) : (s.setCell c k x).fuse = s.fuse := rfl
@[simp] theorem State.setCell_clusters (s : State) (c k : Nat) (x : Cell) : (s.setCell c k x).clusters = s.clusters := rfl
@[simp] theorem State.setCell_res (s : State) (c k : Nat) (x : Cell) : (s.setCell c k x).res = s.res := rfl
@[simp] theorem State.setCell_mst (s : State) (c k : Nat) (x : Cell) : (s.setCell c k x).mst = s.mst := rfl
@[simp] theorem State.setCell_dsp (s : State) (c k : Nat) (x : Cell) : (s.setCell c k x).dsp = s.dsp := rfl
@[simp] theorem State.setCell_flow (s : State) (c k : Nat) (x : Cell) : (s.setCell c k x).flow = s.flow := rfl
@[simp] theorem State.setCell_noc (s : State) (c k : Nat) (x : Cell) : (s.setCell c k x).noc = s.noc := rfl
@[simp] theorem State.setCell_cache (s : State) (c k : Nat) (x : Cell) : (s.setCell c k x).cache = s.cache := rfl
@[simp] theorem State.setCell_spad (s : State) (c k : Nat) (x : Cell) : (s.setCell c k x).spad = s.spad := rfl
@[simp] theorem State.setCell_garnet (s : State) (c k : Nat) (x : Cell) : (s.setCell c k x).garnet = s.garnet := rfl
@[simp] theorem State.setCell_ecc (s : State) (c k : Nat) (x : Cell) : (s.setCell c k x).ecc = s.ecc := rfl
@[simp] theorem State.setCell_ddr (s : State) (c k : Nat) (x : Cell) : (s.setCell c k x).ddr = s.ddr := rfl
@[simp] theorem State.setCell_pwr (s : State) (c k : Nat) (x : Cell) : (s.setCell c k x).pwr = s.pwr := rfl
@[simp] theorem State.setCell_pins (s : State) (c k : Nat) (x : Cell) : (s.setCell c k x).pins = s.pins := rfl
@[simp] theorem State.setCell_flt (s : State) (c k : Nat) (x : Cell) : (s.setCell c k x).flt = s.flt := rfl
@[simp] theorem State.setCell_strata (s : State) (c k : Nat) (x : Cell) : (s.setCell c k x).strata = s.strata := rfl
@[simp] theorem State.setCell_snap (s : State) (c k : Nat) (x : Cell) : (s.setCell c k x).snap = s.snap := rfl
@[simp] theorem State.setCell_bist (s : State) (c k : Nat) (x : Cell) : (s.setCell c k x).bist = s.bist := rfl
@[simp] theorem State.setCell_flint (s : State) (c k : Nat) (x : Cell) : (s.setCell c k x).flint = s.flint := rfl
@[simp] theorem State.setCell_pcie (s : State) (c k : Nat) (x : Cell) : (s.setCell c k x).pcie = s.pcie := rfl
@[simp] theorem State.setCell_hp (s : State) (c k : Nat) (x : Cell) : (s.setCell c k x).hp = s.hp := rfl
@[simp] theorem State.setCell_smb (s : State) (c k : Nat) (x : Cell) : (s.setCell c k x).smb = s.smb := rfl
@[simp] theorem State.setCell_gpio (s : State) (c k : Nat) (x : Cell) : (s.setCell c k x).gpio = s.gpio := rfl
@[simp] theorem State.setCell_cfg (s : State) (c k : Nat) (x : Cell) : (s.setCell c k x).cfg = s.cfg := rfl
@[simp] theorem State.setCell_sec (s : State) (c k : Nat) (x : Cell) : (s.setCell c k x).sec = s.sec := rfl
@[simp] theorem State.setCell_therm (s : State) (c k : Nat) (x : Cell) : (s.setCell c k x).therm = s.therm := rfl
@[simp] theorem State.setCell_age (s : State) (c k : Nat) (x : Cell) : (s.setCell c k x).age = s.age := rfl
@[simp] theorem State.setCell_lanes (s : State) (c k : Nat) (x : Cell) : (s.setCell c k x).lanes = s.lanes := rfl
@[simp] theorem State.setCell_halo (s : State) (c k : Nat) (x : Cell) : (s.setCell c k x).halo = s.halo := rfl
@[simp] theorem State.setCell_freeCtr (s : State) (c k : Nat) (x : Cell) : (s.setCell c k x).freeCtr = s.freeCtr := rfl

@[simp] theorem State.setCluster_pending (s : State) (c : Nat) (x : Cluster) : (s.setCluster c x).pending = s.pending := rfl
@[simp] theorem State.setCluster_ifc (s : State) (c : Nat) (x : Cluster) : (s.setCluster c x).ifc = s.ifc := rfl
@[simp] theorem State.setCluster_regs (s : State) (c : Nat) (x : Cluster) : (s.setCluster c x).regs = s.regs := rfl
@[simp] theorem State.setCluster_fuse (s : State) (c : Nat) (x : Cluster) : (s.setCluster c x).fuse = s.fuse := rfl
@[simp] theorem State.setCluster_cells (s : State) (c : Nat) (x : Cluster) : (s.setCluster c x).cells = s.cells := rfl
@[simp] theorem State.setCluster_res (s : State) (c : Nat) (x : Cluster) : (s.setCluster c x).res = s.res := rfl
@[simp] theorem State.setCluster_mst (s : State) (c : Nat) (x : Cluster) : (s.setCluster c x).mst = s.mst := rfl
@[simp] theorem State.setCluster_dsp (s : State) (c : Nat) (x : Cluster) : (s.setCluster c x).dsp = s.dsp := rfl
@[simp] theorem State.setCluster_flow (s : State) (c : Nat) (x : Cluster) : (s.setCluster c x).flow = s.flow := rfl
@[simp] theorem State.setCluster_noc (s : State) (c : Nat) (x : Cluster) : (s.setCluster c x).noc = s.noc := rfl
@[simp] theorem State.setCluster_cache (s : State) (c : Nat) (x : Cluster) : (s.setCluster c x).cache = s.cache := rfl
@[simp] theorem State.setCluster_spad (s : State) (c : Nat) (x : Cluster) : (s.setCluster c x).spad = s.spad := rfl
@[simp] theorem State.setCluster_garnet (s : State) (c : Nat) (x : Cluster) : (s.setCluster c x).garnet = s.garnet := rfl
@[simp] theorem State.setCluster_ecc (s : State) (c : Nat) (x : Cluster) : (s.setCluster c x).ecc = s.ecc := rfl
@[simp] theorem State.setCluster_ddr (s : State) (c : Nat) (x : Cluster) : (s.setCluster c x).ddr = s.ddr := rfl
@[simp] theorem State.setCluster_pwr (s : State) (c : Nat) (x : Cluster) : (s.setCluster c x).pwr = s.pwr := rfl
@[simp] theorem State.setCluster_pins (s : State) (c : Nat) (x : Cluster) : (s.setCluster c x).pins = s.pins := rfl
@[simp] theorem State.setCluster_flt (s : State) (c : Nat) (x : Cluster) : (s.setCluster c x).flt = s.flt := rfl
@[simp] theorem State.setCluster_strata (s : State) (c : Nat) (x : Cluster) : (s.setCluster c x).strata = s.strata := rfl
@[simp] theorem State.setCluster_snap (s : State) (c : Nat) (x : Cluster) : (s.setCluster c x).snap = s.snap := rfl
@[simp] theorem State.setCluster_bist (s : State) (c : Nat) (x : Cluster) : (s.setCluster c x).bist = s.bist := rfl
@[simp] theorem State.setCluster_flint (s : State) (c : Nat) (x : Cluster) : (s.setCluster c x).flint = s.flint := rfl
@[simp] theorem State.setCluster_pcie (s : State) (c : Nat) (x : Cluster) : (s.setCluster c x).pcie = s.pcie := rfl
@[simp] theorem State.setCluster_hp (s : State) (c : Nat) (x : Cluster) : (s.setCluster c x).hp = s.hp := rfl
@[simp] theorem State.setCluster_smb (s : State) (c : Nat) (x : Cluster) : (s.setCluster c x).smb = s.smb := rfl
@[simp] theorem State.setCluster_gpio (s : State) (c : Nat) (x : Cluster) : (s.setCluster c x).gpio = s.gpio := rfl
@[simp] theorem State.setCluster_cfg (s : State) (c : Nat) (x : Cluster) : (s.setCluster c x).cfg = s.cfg := rfl
@[simp] theorem State.setCluster_sec (s : State) (c : Nat) (x : Cluster) : (s.setCluster c x).sec = s.sec := rfl
@[simp] theorem State.setCluster_therm (s : State) (c : Nat) (x : Cluster) : (s.setCluster c x).therm = s.therm := rfl
@[simp] theorem State.setCluster_age (s : State) (c : Nat) (x : Cluster) : (s.setCluster c x).age = s.age := rfl
@[simp] theorem State.setCluster_lanes (s : State) (c : Nat) (x : Cluster) : (s.setCluster c x).lanes = s.lanes := rfl
@[simp] theorem State.setCluster_halo (s : State) (c : Nat) (x : Cluster) : (s.setCluster c x).halo = s.halo := rfl
@[simp] theorem State.setCluster_freeCtr (s : State) (c : Nat) (x : Cluster) : (s.setCluster c x).freeCtr = s.freeCtr := rfl

@[simp] theorem State.setPlane_pending (s : State) (c p : Nat) (x : Plane) : (s.setPlane c p x).pending = s.pending := rfl
@[simp] theorem State.setPlane_ifc (s : State) (c p : Nat) (x : Plane) : (s.setPlane c p x).ifc = s.ifc := rfl
@[simp] theorem State.setPlane_regs (s : State) (c p : Nat) (x : Plane) : (s.setPlane c p x).regs = s.regs := rfl
@[simp] theorem State.setPlane_fuse (s : State) (c p : Nat) (x : Plane) : (s.setPlane c p x).fuse = s.fuse := rfl
@[simp] theorem State.setPlane_cells (s : State) (c p : Nat) (x : Plane) : (s.setPlane c p x).cells = s.cells := rfl
@[simp] theorem State.setPlane_clusters (s : State) (c p : Nat) (x : Plane) : (s.setPlane c p x).clusters = s.clusters := rfl
@[simp] theorem State.setPlane_mst (s : State) (c p : Nat) (x : Plane) : (s.setPlane c p x).mst = s.mst := rfl
@[simp] theorem State.setPlane_dsp (s : State) (c p : Nat) (x : Plane) : (s.setPlane c p x).dsp = s.dsp := rfl
@[simp] theorem State.setPlane_flow (s : State) (c p : Nat) (x : Plane) : (s.setPlane c p x).flow = s.flow := rfl
@[simp] theorem State.setPlane_noc (s : State) (c p : Nat) (x : Plane) : (s.setPlane c p x).noc = s.noc := rfl
@[simp] theorem State.setPlane_cache (s : State) (c p : Nat) (x : Plane) : (s.setPlane c p x).cache = s.cache := rfl
@[simp] theorem State.setPlane_spad (s : State) (c p : Nat) (x : Plane) : (s.setPlane c p x).spad = s.spad := rfl
@[simp] theorem State.setPlane_garnet (s : State) (c p : Nat) (x : Plane) : (s.setPlane c p x).garnet = s.garnet := rfl
@[simp] theorem State.setPlane_ecc (s : State) (c p : Nat) (x : Plane) : (s.setPlane c p x).ecc = s.ecc := rfl
@[simp] theorem State.setPlane_ddr (s : State) (c p : Nat) (x : Plane) : (s.setPlane c p x).ddr = s.ddr := rfl
@[simp] theorem State.setPlane_pwr (s : State) (c p : Nat) (x : Plane) : (s.setPlane c p x).pwr = s.pwr := rfl
@[simp] theorem State.setPlane_pins (s : State) (c p : Nat) (x : Plane) : (s.setPlane c p x).pins = s.pins := rfl
@[simp] theorem State.setPlane_flt (s : State) (c p : Nat) (x : Plane) : (s.setPlane c p x).flt = s.flt := rfl
@[simp] theorem State.setPlane_strata (s : State) (c p : Nat) (x : Plane) : (s.setPlane c p x).strata = s.strata := rfl
@[simp] theorem State.setPlane_snap (s : State) (c p : Nat) (x : Plane) : (s.setPlane c p x).snap = s.snap := rfl
@[simp] theorem State.setPlane_bist (s : State) (c p : Nat) (x : Plane) : (s.setPlane c p x).bist = s.bist := rfl
@[simp] theorem State.setPlane_flint (s : State) (c p : Nat) (x : Plane) : (s.setPlane c p x).flint = s.flint := rfl
@[simp] theorem State.setPlane_pcie (s : State) (c p : Nat) (x : Plane) : (s.setPlane c p x).pcie = s.pcie := rfl
@[simp] theorem State.setPlane_hp (s : State) (c p : Nat) (x : Plane) : (s.setPlane c p x).hp = s.hp := rfl
@[simp] theorem State.setPlane_smb (s : State) (c p : Nat) (x : Plane) : (s.setPlane c p x).smb = s.smb := rfl
@[simp] theorem State.setPlane_gpio (s : State) (c p : Nat) (x : Plane) : (s.setPlane c p x).gpio = s.gpio := rfl
@[simp] theorem State.setPlane_cfg (s : State) (c p : Nat) (x : Plane) : (s.setPlane c p x).cfg = s.cfg := rfl
@[simp] theorem State.setPlane_sec (s : State) (c p : Nat) (x : Plane) : (s.setPlane c p x).sec = s.sec := rfl
@[simp] theorem State.setPlane_therm (s : State) (c p : Nat) (x : Plane) : (s.setPlane c p x).therm = s.therm := rfl
@[simp] theorem State.setPlane_age (s : State) (c p : Nat) (x : Plane) : (s.setPlane c p x).age = s.age := rfl
@[simp] theorem State.setPlane_lanes (s : State) (c p : Nat) (x : Plane) : (s.setPlane c p x).lanes = s.lanes := rfl
@[simp] theorem State.setPlane_halo (s : State) (c p : Nat) (x : Plane) : (s.setPlane c p x).halo = s.halo := rfl
@[simp] theorem State.setPlane_freeCtr (s : State) (c p : Nat) (x : Plane) : (s.setPlane c p x).freeCtr = s.freeCtr := rfl

@[simp] theorem State.setSel_pending (s : State) (i : Iface) (a : Nat) (v : Word) : (s.setSel i a v).pending = s.pending := rfl
@[simp] theorem State.setSel_regs (s : State) (i : Iface) (a : Nat) (v : Word) : (s.setSel i a v).regs = s.regs := rfl
@[simp] theorem State.setSel_fuse (s : State) (i : Iface) (a : Nat) (v : Word) : (s.setSel i a v).fuse = s.fuse := rfl
@[simp] theorem State.setSel_cells (s : State) (i : Iface) (a : Nat) (v : Word) : (s.setSel i a v).cells = s.cells := rfl
@[simp] theorem State.setSel_clusters (s : State) (i : Iface) (a : Nat) (v : Word) : (s.setSel i a v).clusters = s.clusters := rfl
@[simp] theorem State.setSel_res (s : State) (i : Iface) (a : Nat) (v : Word) : (s.setSel i a v).res = s.res := rfl
@[simp] theorem State.setSel_mst (s : State) (i : Iface) (a : Nat) (v : Word) : (s.setSel i a v).mst = s.mst := rfl
@[simp] theorem State.setSel_dsp (s : State) (i : Iface) (a : Nat) (v : Word) : (s.setSel i a v).dsp = s.dsp := rfl
@[simp] theorem State.setSel_flow (s : State) (i : Iface) (a : Nat) (v : Word) : (s.setSel i a v).flow = s.flow := rfl
@[simp] theorem State.setSel_noc (s : State) (i : Iface) (a : Nat) (v : Word) : (s.setSel i a v).noc = s.noc := rfl
@[simp] theorem State.setSel_cache (s : State) (i : Iface) (a : Nat) (v : Word) : (s.setSel i a v).cache = s.cache := rfl
@[simp] theorem State.setSel_spad (s : State) (i : Iface) (a : Nat) (v : Word) : (s.setSel i a v).spad = s.spad := rfl
@[simp] theorem State.setSel_garnet (s : State) (i : Iface) (a : Nat) (v : Word) : (s.setSel i a v).garnet = s.garnet := rfl
@[simp] theorem State.setSel_ecc (s : State) (i : Iface) (a : Nat) (v : Word) : (s.setSel i a v).ecc = s.ecc := rfl
@[simp] theorem State.setSel_ddr (s : State) (i : Iface) (a : Nat) (v : Word) : (s.setSel i a v).ddr = s.ddr := rfl
@[simp] theorem State.setSel_pwr (s : State) (i : Iface) (a : Nat) (v : Word) : (s.setSel i a v).pwr = s.pwr := rfl
@[simp] theorem State.setSel_pins (s : State) (i : Iface) (a : Nat) (v : Word) : (s.setSel i a v).pins = s.pins := rfl
@[simp] theorem State.setSel_flt (s : State) (i : Iface) (a : Nat) (v : Word) : (s.setSel i a v).flt = s.flt := rfl
@[simp] theorem State.setSel_strata (s : State) (i : Iface) (a : Nat) (v : Word) : (s.setSel i a v).strata = s.strata := rfl
@[simp] theorem State.setSel_snap (s : State) (i : Iface) (a : Nat) (v : Word) : (s.setSel i a v).snap = s.snap := rfl
@[simp] theorem State.setSel_bist (s : State) (i : Iface) (a : Nat) (v : Word) : (s.setSel i a v).bist = s.bist := rfl
@[simp] theorem State.setSel_flint (s : State) (i : Iface) (a : Nat) (v : Word) : (s.setSel i a v).flint = s.flint := rfl
@[simp] theorem State.setSel_pcie (s : State) (i : Iface) (a : Nat) (v : Word) : (s.setSel i a v).pcie = s.pcie := rfl
@[simp] theorem State.setSel_hp (s : State) (i : Iface) (a : Nat) (v : Word) : (s.setSel i a v).hp = s.hp := rfl
@[simp] theorem State.setSel_smb (s : State) (i : Iface) (a : Nat) (v : Word) : (s.setSel i a v).smb = s.smb := rfl
@[simp] theorem State.setSel_gpio (s : State) (i : Iface) (a : Nat) (v : Word) : (s.setSel i a v).gpio = s.gpio := rfl
@[simp] theorem State.setSel_cfg (s : State) (i : Iface) (a : Nat) (v : Word) : (s.setSel i a v).cfg = s.cfg := rfl
@[simp] theorem State.setSel_sec (s : State) (i : Iface) (a : Nat) (v : Word) : (s.setSel i a v).sec = s.sec := rfl
@[simp] theorem State.setSel_therm (s : State) (i : Iface) (a : Nat) (v : Word) : (s.setSel i a v).therm = s.therm := rfl
@[simp] theorem State.setSel_age (s : State) (i : Iface) (a : Nat) (v : Word) : (s.setSel i a v).age = s.age := rfl
@[simp] theorem State.setSel_lanes (s : State) (i : Iface) (a : Nat) (v : Word) : (s.setSel i a v).lanes = s.lanes := rfl
@[simp] theorem State.setSel_halo (s : State) (i : Iface) (a : Nat) (v : Word) : (s.setSel i a v).halo = s.halo := rfl
@[simp] theorem State.setSel_freeCtr (s : State) (i : Iface) (a : Nat) (v : Word) : (s.setSel i a v).freeCtr = s.freeCtr := rfl

@[simp] theorem State.answer_pending (s : State) (i : Iface) (k : AnsKind) (d : List Byte) : (s.answer i k d).pending = s.pending := rfl
@[simp] theorem State.answer_regs (s : State) (i : Iface) (k : AnsKind) (d : List Byte) : (s.answer i k d).regs = s.regs := rfl
@[simp] theorem State.answer_fuse (s : State) (i : Iface) (k : AnsKind) (d : List Byte) : (s.answer i k d).fuse = s.fuse := rfl
@[simp] theorem State.answer_cells (s : State) (i : Iface) (k : AnsKind) (d : List Byte) : (s.answer i k d).cells = s.cells := rfl
@[simp] theorem State.answer_clusters (s : State) (i : Iface) (k : AnsKind) (d : List Byte) : (s.answer i k d).clusters = s.clusters := rfl
@[simp] theorem State.answer_res (s : State) (i : Iface) (k : AnsKind) (d : List Byte) : (s.answer i k d).res = s.res := rfl
@[simp] theorem State.answer_mst (s : State) (i : Iface) (k : AnsKind) (d : List Byte) : (s.answer i k d).mst = s.mst := rfl
@[simp] theorem State.answer_dsp (s : State) (i : Iface) (k : AnsKind) (d : List Byte) : (s.answer i k d).dsp = s.dsp := rfl
@[simp] theorem State.answer_flow (s : State) (i : Iface) (k : AnsKind) (d : List Byte) : (s.answer i k d).flow = s.flow := rfl
@[simp] theorem State.answer_noc (s : State) (i : Iface) (k : AnsKind) (d : List Byte) : (s.answer i k d).noc = s.noc := rfl
@[simp] theorem State.answer_cache (s : State) (i : Iface) (k : AnsKind) (d : List Byte) : (s.answer i k d).cache = s.cache := rfl
@[simp] theorem State.answer_spad (s : State) (i : Iface) (k : AnsKind) (d : List Byte) : (s.answer i k d).spad = s.spad := rfl
@[simp] theorem State.answer_garnet (s : State) (i : Iface) (k : AnsKind) (d : List Byte) : (s.answer i k d).garnet = s.garnet := rfl
@[simp] theorem State.answer_ecc (s : State) (i : Iface) (k : AnsKind) (d : List Byte) : (s.answer i k d).ecc = s.ecc := rfl
@[simp] theorem State.answer_ddr (s : State) (i : Iface) (k : AnsKind) (d : List Byte) : (s.answer i k d).ddr = s.ddr := rfl
@[simp] theorem State.answer_pwr (s : State) (i : Iface) (k : AnsKind) (d : List Byte) : (s.answer i k d).pwr = s.pwr := rfl
@[simp] theorem State.answer_pins (s : State) (i : Iface) (k : AnsKind) (d : List Byte) : (s.answer i k d).pins = s.pins := rfl
@[simp] theorem State.answer_flt (s : State) (i : Iface) (k : AnsKind) (d : List Byte) : (s.answer i k d).flt = s.flt := rfl
@[simp] theorem State.answer_strata (s : State) (i : Iface) (k : AnsKind) (d : List Byte) : (s.answer i k d).strata = s.strata := rfl
@[simp] theorem State.answer_snap (s : State) (i : Iface) (k : AnsKind) (d : List Byte) : (s.answer i k d).snap = s.snap := rfl
@[simp] theorem State.answer_bist (s : State) (i : Iface) (k : AnsKind) (d : List Byte) : (s.answer i k d).bist = s.bist := rfl
@[simp] theorem State.answer_flint (s : State) (i : Iface) (k : AnsKind) (d : List Byte) : (s.answer i k d).flint = s.flint := rfl
@[simp] theorem State.answer_pcie (s : State) (i : Iface) (k : AnsKind) (d : List Byte) : (s.answer i k d).pcie = s.pcie := rfl
@[simp] theorem State.answer_hp (s : State) (i : Iface) (k : AnsKind) (d : List Byte) : (s.answer i k d).hp = s.hp := rfl
@[simp] theorem State.answer_smb (s : State) (i : Iface) (k : AnsKind) (d : List Byte) : (s.answer i k d).smb = s.smb := rfl
@[simp] theorem State.answer_gpio (s : State) (i : Iface) (k : AnsKind) (d : List Byte) : (s.answer i k d).gpio = s.gpio := rfl
@[simp] theorem State.answer_cfg (s : State) (i : Iface) (k : AnsKind) (d : List Byte) : (s.answer i k d).cfg = s.cfg := rfl
@[simp] theorem State.answer_sec (s : State) (i : Iface) (k : AnsKind) (d : List Byte) : (s.answer i k d).sec = s.sec := rfl
@[simp] theorem State.answer_therm (s : State) (i : Iface) (k : AnsKind) (d : List Byte) : (s.answer i k d).therm = s.therm := rfl
@[simp] theorem State.answer_age (s : State) (i : Iface) (k : AnsKind) (d : List Byte) : (s.answer i k d).age = s.age := rfl
@[simp] theorem State.answer_lanes (s : State) (i : Iface) (k : AnsKind) (d : List Byte) : (s.answer i k d).lanes = s.lanes := rfl
@[simp] theorem State.answer_halo (s : State) (i : Iface) (k : AnsKind) (d : List Byte) : (s.answer i k d).halo = s.halo := rfl
@[simp] theorem State.answer_freeCtr (s : State) (i : Iface) (k : AnsKind) (d : List Byte) : (s.answer i k d).freeCtr = s.freeCtr := rfl

@[simp] theorem State.reply_pending (s : State) (m : Master) (k : AnsKind) (d : List Byte) : (s.reply m k d).pending = s.pending := rfl
@[simp] theorem State.reply_regs (s : State) (m : Master) (k : AnsKind) (d : List Byte) : (s.reply m k d).regs = s.regs := rfl
@[simp] theorem State.reply_fuse (s : State) (m : Master) (k : AnsKind) (d : List Byte) : (s.reply m k d).fuse = s.fuse := rfl
@[simp] theorem State.reply_cells (s : State) (m : Master) (k : AnsKind) (d : List Byte) : (s.reply m k d).cells = s.cells := rfl
@[simp] theorem State.reply_clusters (s : State) (m : Master) (k : AnsKind) (d : List Byte) : (s.reply m k d).clusters = s.clusters := rfl
@[simp] theorem State.reply_res (s : State) (m : Master) (k : AnsKind) (d : List Byte) : (s.reply m k d).res = s.res := rfl
@[simp] theorem State.reply_mst (s : State) (m : Master) (k : AnsKind) (d : List Byte) : (s.reply m k d).mst = s.mst := rfl
@[simp] theorem State.reply_dsp (s : State) (m : Master) (k : AnsKind) (d : List Byte) : (s.reply m k d).dsp = s.dsp := rfl
@[simp] theorem State.reply_flow (s : State) (m : Master) (k : AnsKind) (d : List Byte) : (s.reply m k d).flow = s.flow := rfl
@[simp] theorem State.reply_noc (s : State) (m : Master) (k : AnsKind) (d : List Byte) : (s.reply m k d).noc = s.noc := rfl
@[simp] theorem State.reply_cache (s : State) (m : Master) (k : AnsKind) (d : List Byte) : (s.reply m k d).cache = s.cache := rfl
@[simp] theorem State.reply_spad (s : State) (m : Master) (k : AnsKind) (d : List Byte) : (s.reply m k d).spad = s.spad := rfl
@[simp] theorem State.reply_garnet (s : State) (m : Master) (k : AnsKind) (d : List Byte) : (s.reply m k d).garnet = s.garnet := rfl
@[simp] theorem State.reply_ecc (s : State) (m : Master) (k : AnsKind) (d : List Byte) : (s.reply m k d).ecc = s.ecc := rfl
@[simp] theorem State.reply_ddr (s : State) (m : Master) (k : AnsKind) (d : List Byte) : (s.reply m k d).ddr = s.ddr := rfl
@[simp] theorem State.reply_pwr (s : State) (m : Master) (k : AnsKind) (d : List Byte) : (s.reply m k d).pwr = s.pwr := rfl
@[simp] theorem State.reply_pins (s : State) (m : Master) (k : AnsKind) (d : List Byte) : (s.reply m k d).pins = s.pins := rfl
@[simp] theorem State.reply_flt (s : State) (m : Master) (k : AnsKind) (d : List Byte) : (s.reply m k d).flt = s.flt := rfl
@[simp] theorem State.reply_strata (s : State) (m : Master) (k : AnsKind) (d : List Byte) : (s.reply m k d).strata = s.strata := rfl
@[simp] theorem State.reply_snap (s : State) (m : Master) (k : AnsKind) (d : List Byte) : (s.reply m k d).snap = s.snap := rfl
@[simp] theorem State.reply_bist (s : State) (m : Master) (k : AnsKind) (d : List Byte) : (s.reply m k d).bist = s.bist := rfl
@[simp] theorem State.reply_flint (s : State) (m : Master) (k : AnsKind) (d : List Byte) : (s.reply m k d).flint = s.flint := rfl
@[simp] theorem State.reply_pcie (s : State) (m : Master) (k : AnsKind) (d : List Byte) : (s.reply m k d).pcie = s.pcie := rfl
@[simp] theorem State.reply_hp (s : State) (m : Master) (k : AnsKind) (d : List Byte) : (s.reply m k d).hp = s.hp := rfl
@[simp] theorem State.reply_smb (s : State) (m : Master) (k : AnsKind) (d : List Byte) : (s.reply m k d).smb = s.smb := rfl
@[simp] theorem State.reply_gpio (s : State) (m : Master) (k : AnsKind) (d : List Byte) : (s.reply m k d).gpio = s.gpio := rfl
@[simp] theorem State.reply_cfg (s : State) (m : Master) (k : AnsKind) (d : List Byte) : (s.reply m k d).cfg = s.cfg := rfl
@[simp] theorem State.reply_sec (s : State) (m : Master) (k : AnsKind) (d : List Byte) : (s.reply m k d).sec = s.sec := rfl
@[simp] theorem State.reply_therm (s : State) (m : Master) (k : AnsKind) (d : List Byte) : (s.reply m k d).therm = s.therm := rfl
@[simp] theorem State.reply_age (s : State) (m : Master) (k : AnsKind) (d : List Byte) : (s.reply m k d).age = s.age := rfl
@[simp] theorem State.reply_lanes (s : State) (m : Master) (k : AnsKind) (d : List Byte) : (s.reply m k d).lanes = s.lanes := rfl
@[simp] theorem State.reply_halo (s : State) (m : Master) (k : AnsKind) (d : List Byte) : (s.reply m k d).halo = s.halo := rfl
@[simp] theorem State.reply_freeCtr (s : State) (m : Master) (k : AnsKind) (d : List Byte) : (s.reply m k d).freeCtr = s.freeCtr := rfl

@[simp] theorem State.drawn_pending (s : State) : (s.drawn).pending = s.pending := rfl
@[simp] theorem State.drawn_ifc (s : State) : (s.drawn).ifc = s.ifc := rfl
@[simp] theorem State.drawn_regs (s : State) : (s.drawn).regs = s.regs := rfl
@[simp] theorem State.drawn_fuse (s : State) : (s.drawn).fuse = s.fuse := rfl
@[simp] theorem State.drawn_cells (s : State) : (s.drawn).cells = s.cells := rfl
@[simp] theorem State.drawn_clusters (s : State) : (s.drawn).clusters = s.clusters := rfl
@[simp] theorem State.drawn_res (s : State) : (s.drawn).res = s.res := rfl
@[simp] theorem State.drawn_mst (s : State) : (s.drawn).mst = s.mst := rfl
@[simp] theorem State.drawn_dsp (s : State) : (s.drawn).dsp = s.dsp := rfl
@[simp] theorem State.drawn_flow (s : State) : (s.drawn).flow = s.flow := rfl
@[simp] theorem State.drawn_noc (s : State) : (s.drawn).noc = s.noc := rfl
@[simp] theorem State.drawn_cache (s : State) : (s.drawn).cache = s.cache := rfl
@[simp] theorem State.drawn_spad (s : State) : (s.drawn).spad = s.spad := rfl
@[simp] theorem State.drawn_garnet (s : State) : (s.drawn).garnet = s.garnet := rfl
@[simp] theorem State.drawn_ecc (s : State) : (s.drawn).ecc = s.ecc := rfl
@[simp] theorem State.drawn_ddr (s : State) : (s.drawn).ddr = s.ddr := rfl
@[simp] theorem State.drawn_pwr (s : State) : (s.drawn).pwr = s.pwr := rfl
@[simp] theorem State.drawn_pins (s : State) : (s.drawn).pins = s.pins := rfl
@[simp] theorem State.drawn_flt (s : State) : (s.drawn).flt = s.flt := rfl
@[simp] theorem State.drawn_strata (s : State) : (s.drawn).strata = s.strata := rfl
@[simp] theorem State.drawn_snap (s : State) : (s.drawn).snap = s.snap := rfl
@[simp] theorem State.drawn_bist (s : State) : (s.drawn).bist = s.bist := rfl
@[simp] theorem State.drawn_flint (s : State) : (s.drawn).flint = s.flint := rfl
@[simp] theorem State.drawn_pcie (s : State) : (s.drawn).pcie = s.pcie := rfl
@[simp] theorem State.drawn_hp (s : State) : (s.drawn).hp = s.hp := rfl
@[simp] theorem State.drawn_smb (s : State) : (s.drawn).smb = s.smb := rfl
@[simp] theorem State.drawn_gpio (s : State) : (s.drawn).gpio = s.gpio := rfl
@[simp] theorem State.drawn_cfg (s : State) : (s.drawn).cfg = s.cfg := rfl
@[simp] theorem State.drawn_sec (s : State) : (s.drawn).sec = s.sec := rfl
@[simp] theorem State.drawn_therm (s : State) : (s.drawn).therm = s.therm := rfl
@[simp] theorem State.drawn_age (s : State) : (s.drawn).age = s.age := rfl
@[simp] theorem State.drawn_lanes (s : State) : (s.drawn).lanes = s.lanes := rfl
@[simp] theorem State.drawn_halo (s : State) : (s.drawn).halo = s.halo := rfl

/-! What the accessors read after an update -/

@[simp] theorem State.cell_setCell (s : State) (c k c' k' : Nat) (x : Cell) :
    (s.setCell c k x).cell c' k' = if 32 * c' + k' = 32 * c + k then x else s.cell c' k' := smGet_smSet _ _ _ _ _
@[simp] theorem State.cluster_setCluster (s : State) (c c' : Nat) (x : Cluster) :
    (s.setCluster c x).cluster c' = if c' = c then x else s.cluster c' := smGet_smSet _ _ _ _ _
@[simp] theorem State.plane_setPlane (s : State) (c p c' p' : Nat) (x : Plane) :
    (s.setPlane c p x).plane c' p' = if 4 * c' + p' = 4 * c + p then x else s.plane c' p' := smGet_smSet _ _ _ _ _
@[simp] theorem State.cell_setCluster (s : State) (c c' k : Nat) (x : Cluster) : (s.setCluster c x).cell c' k = s.cell c' k := rfl
@[simp] theorem State.cluster_setCell (s : State) (c k c' : Nat) (x : Cell) : (s.setCell c k x).cluster c' = s.cluster c' := rfl
@[simp] theorem State.plane_setCell (s : State) (c k c' p : Nat) (x : Cell) : (s.setCell c k x).plane c' p = s.plane c' p := rfl
@[simp] theorem State.plane_setCluster (s : State) (c c' p : Nat) (x : Cluster) : (s.setCluster c x).plane c' p = s.plane c' p := rfl
@[simp] theorem State.rd_setCell (s : State) (c k : Nat) (x : Cell) (a : Nat) : (s.setCell c k x).rd a = s.rd a := rfl
@[simp] theorem State.rd_setCluster (s : State) (c : Nat) (x : Cluster) (a : Nat) : (s.setCluster c x).rd a = s.rd a := rfl
@[simp] theorem State.rd_setPlane (s : State) (c p : Nat) (x : Plane) (a : Nat) : (s.setPlane c p x).rd a = s.rd a := rfl
@[simp] theorem State.rd_answer (s : State) (i : Iface) (k : AnsKind) (d : List Byte) (a : Nat) : (s.answer i k d).rd a = s.rd a := rfl
@[simp] theorem State.rd_setSel (s : State) (i : Iface) (b : Nat) (v : Word) (a : Nat) : (s.setSel i b v).rd a = s.rd a := rfl
@[simp] theorem State.rd_drawn (s : State) (a : Nat) : s.drawn.rd a = s.rd a := rfl

@[simp] theorem State.ans_answer (s : State) (i : Iface) (k : AnsKind) (d : List Byte) :
    smGet Answer.none (s.answer i k d).ifc.ans (ifCode i) = ⟨k, d⟩ := smGet_smSet_self _ _ _ _

@[simp] theorem State.sel_setSel (s : State) (i : Iface) (a b : Nat) (v : Word) :
    (s.setSel i a v).sel i b = if b = a then v else s.sel i b := by
  simp only [State.sel, State.setSel, smGet_smSet]
  by_cases h : b = a
  · simp [h]
  · have : ¬(2 ^ 48 * ifCode i + b = 2 ^ 48 * ifCode i + a) := by omega
    rw [if_neg this, if_neg h]

/-! Register words: `wr` changes its own word, the MSI-X pending bits and what was sent, nothing else -/

@[simp] theorem State.msixFire_pending (s : State) (v : Nat) : (s.msixFire v).pending = s.pending := by unfold State.msixFire; split <;> rfl
@[simp] theorem State.msixFire_ifc (s : State) (v : Nat) : (s.msixFire v).ifc = s.ifc := by unfold State.msixFire; split <;> rfl
@[simp] theorem State.msixFire_regs (s : State) (v : Nat) : (s.msixFire v).regs = s.regs := by unfold State.msixFire; split <;> rfl
@[simp] theorem State.msixFire_fuse (s : State) (v : Nat) : (s.msixFire v).fuse = s.fuse := by unfold State.msixFire; split <;> rfl
@[simp] theorem State.msixFire_cells (s : State) (v : Nat) : (s.msixFire v).cells = s.cells := by unfold State.msixFire; split <;> rfl
@[simp] theorem State.msixFire_clusters (s : State) (v : Nat) : (s.msixFire v).clusters = s.clusters := by unfold State.msixFire; split <;> rfl
@[simp] theorem State.msixFire_res (s : State) (v : Nat) : (s.msixFire v).res = s.res := by unfold State.msixFire; split <;> rfl
@[simp] theorem State.msixFire_mst (s : State) (v : Nat) : (s.msixFire v).mst = s.mst := by unfold State.msixFire; split <;> rfl
@[simp] theorem State.msixFire_dsp (s : State) (v : Nat) : (s.msixFire v).dsp = s.dsp := by unfold State.msixFire; split <;> rfl
@[simp] theorem State.msixFire_flow (s : State) (v : Nat) : (s.msixFire v).flow = s.flow := by unfold State.msixFire; split <;> rfl
@[simp] theorem State.msixFire_noc (s : State) (v : Nat) : (s.msixFire v).noc = s.noc := by unfold State.msixFire; split <;> rfl
@[simp] theorem State.msixFire_cache (s : State) (v : Nat) : (s.msixFire v).cache = s.cache := by unfold State.msixFire; split <;> rfl
@[simp] theorem State.msixFire_spad (s : State) (v : Nat) : (s.msixFire v).spad = s.spad := by unfold State.msixFire; split <;> rfl
@[simp] theorem State.msixFire_garnet (s : State) (v : Nat) : (s.msixFire v).garnet = s.garnet := by unfold State.msixFire; split <;> rfl
@[simp] theorem State.msixFire_ecc (s : State) (v : Nat) : (s.msixFire v).ecc = s.ecc := by unfold State.msixFire; split <;> rfl
@[simp] theorem State.msixFire_ddr (s : State) (v : Nat) : (s.msixFire v).ddr = s.ddr := by unfold State.msixFire; split <;> rfl
@[simp] theorem State.msixFire_pwr (s : State) (v : Nat) : (s.msixFire v).pwr = s.pwr := by unfold State.msixFire; split <;> rfl
@[simp] theorem State.msixFire_pins (s : State) (v : Nat) : (s.msixFire v).pins = s.pins := by unfold State.msixFire; split <;> rfl
@[simp] theorem State.msixFire_flt (s : State) (v : Nat) : (s.msixFire v).flt = s.flt := by unfold State.msixFire; split <;> rfl
@[simp] theorem State.msixFire_strata (s : State) (v : Nat) : (s.msixFire v).strata = s.strata := by unfold State.msixFire; split <;> rfl
@[simp] theorem State.msixFire_snap (s : State) (v : Nat) : (s.msixFire v).snap = s.snap := by unfold State.msixFire; split <;> rfl
@[simp] theorem State.msixFire_bist (s : State) (v : Nat) : (s.msixFire v).bist = s.bist := by unfold State.msixFire; split <;> rfl
@[simp] theorem State.msixFire_flint (s : State) (v : Nat) : (s.msixFire v).flint = s.flint := by unfold State.msixFire; split <;> rfl
@[simp] theorem State.msixFire_hp (s : State) (v : Nat) : (s.msixFire v).hp = s.hp := by unfold State.msixFire; split <;> rfl
@[simp] theorem State.msixFire_smb (s : State) (v : Nat) : (s.msixFire v).smb = s.smb := by unfold State.msixFire; split <;> rfl
@[simp] theorem State.msixFire_gpio (s : State) (v : Nat) : (s.msixFire v).gpio = s.gpio := by unfold State.msixFire; split <;> rfl
@[simp] theorem State.msixFire_cfg (s : State) (v : Nat) : (s.msixFire v).cfg = s.cfg := by unfold State.msixFire; split <;> rfl
@[simp] theorem State.msixFire_sec (s : State) (v : Nat) : (s.msixFire v).sec = s.sec := by unfold State.msixFire; split <;> rfl
@[simp] theorem State.msixFire_therm (s : State) (v : Nat) : (s.msixFire v).therm = s.therm := by unfold State.msixFire; split <;> rfl
@[simp] theorem State.msixFire_age (s : State) (v : Nat) : (s.msixFire v).age = s.age := by unfold State.msixFire; split <;> rfl
@[simp] theorem State.msixFire_lanes (s : State) (v : Nat) : (s.msixFire v).lanes = s.lanes := by unfold State.msixFire; split <;> rfl
@[simp] theorem State.msixFire_halo (s : State) (v : Nat) : (s.msixFire v).halo = s.halo := by unfold State.msixFire; split <;> rfl
@[simp] theorem State.msixFire_freeCtr (s : State) (v : Nat) : (s.msixFire v).freeCtr = s.freeCtr := by unfold State.msixFire; split <;> rfl

@[simp] theorem State.irqRise_pending (s : State) (n : Nat) : (s.irqRise n).pending = s.pending := by
  simp only [State.irqRise]; split <;> simp
@[simp] theorem State.irqRise_ifc (s : State) (n : Nat) : (s.irqRise n).ifc = s.ifc := by
  simp only [State.irqRise]; split <;> simp
@[simp] theorem State.irqRise_regs (s : State) (n : Nat) : (s.irqRise n).regs = s.regs := by
  simp only [State.irqRise]; split <;> simp
@[simp] theorem State.irqRise_fuse (s : State) (n : Nat) : (s.irqRise n).fuse = s.fuse := by
  simp only [State.irqRise]; split <;> simp
@[simp] theorem State.irqRise_cells (s : State) (n : Nat) : (s.irqRise n).cells = s.cells := by
  simp only [State.irqRise]; split <;> simp
@[simp] theorem State.irqRise_clusters (s : State) (n : Nat) : (s.irqRise n).clusters = s.clusters := by
  simp only [State.irqRise]; split <;> simp
@[simp] theorem State.irqRise_res (s : State) (n : Nat) : (s.irqRise n).res = s.res := by
  simp only [State.irqRise]; split <;> simp
@[simp] theorem State.irqRise_mst (s : State) (n : Nat) : (s.irqRise n).mst = s.mst := by
  simp only [State.irqRise]; split <;> simp
@[simp] theorem State.irqRise_dsp (s : State) (n : Nat) : (s.irqRise n).dsp = s.dsp := by
  simp only [State.irqRise]; split <;> simp
@[simp] theorem State.irqRise_flow (s : State) (n : Nat) : (s.irqRise n).flow = s.flow := by
  simp only [State.irqRise]; split <;> simp
@[simp] theorem State.irqRise_noc (s : State) (n : Nat) : (s.irqRise n).noc = s.noc := by
  simp only [State.irqRise]; split <;> simp
@[simp] theorem State.irqRise_cache (s : State) (n : Nat) : (s.irqRise n).cache = s.cache := by
  simp only [State.irqRise]; split <;> simp
@[simp] theorem State.irqRise_spad (s : State) (n : Nat) : (s.irqRise n).spad = s.spad := by
  simp only [State.irqRise]; split <;> simp
@[simp] theorem State.irqRise_garnet (s : State) (n : Nat) : (s.irqRise n).garnet = s.garnet := by
  simp only [State.irqRise]; split <;> simp
@[simp] theorem State.irqRise_ecc (s : State) (n : Nat) : (s.irqRise n).ecc = s.ecc := by
  simp only [State.irqRise]; split <;> simp
@[simp] theorem State.irqRise_ddr (s : State) (n : Nat) : (s.irqRise n).ddr = s.ddr := by
  simp only [State.irqRise]; split <;> simp
@[simp] theorem State.irqRise_pwr (s : State) (n : Nat) : (s.irqRise n).pwr = s.pwr := by
  simp only [State.irqRise]; split <;> simp
@[simp] theorem State.irqRise_pins (s : State) (n : Nat) : (s.irqRise n).pins = s.pins := by
  simp only [State.irqRise]; split <;> simp
@[simp] theorem State.irqRise_flt (s : State) (n : Nat) : (s.irqRise n).flt = s.flt := by
  simp only [State.irqRise]; split <;> simp
@[simp] theorem State.irqRise_strata (s : State) (n : Nat) : (s.irqRise n).strata = s.strata := by
  simp only [State.irqRise]; split <;> simp
@[simp] theorem State.irqRise_snap (s : State) (n : Nat) : (s.irqRise n).snap = s.snap := by
  simp only [State.irqRise]; split <;> simp
@[simp] theorem State.irqRise_bist (s : State) (n : Nat) : (s.irqRise n).bist = s.bist := by
  simp only [State.irqRise]; split <;> simp
@[simp] theorem State.irqRise_flint (s : State) (n : Nat) : (s.irqRise n).flint = s.flint := by
  simp only [State.irqRise]; split <;> simp
@[simp] theorem State.irqRise_hp (s : State) (n : Nat) : (s.irqRise n).hp = s.hp := by
  simp only [State.irqRise]; split <;> simp
@[simp] theorem State.irqRise_smb (s : State) (n : Nat) : (s.irqRise n).smb = s.smb := by
  simp only [State.irqRise]; split <;> simp
@[simp] theorem State.irqRise_gpio (s : State) (n : Nat) : (s.irqRise n).gpio = s.gpio := by
  simp only [State.irqRise]; split <;> simp
@[simp] theorem State.irqRise_cfg (s : State) (n : Nat) : (s.irqRise n).cfg = s.cfg := by
  simp only [State.irqRise]; split <;> simp
@[simp] theorem State.irqRise_sec (s : State) (n : Nat) : (s.irqRise n).sec = s.sec := by
  simp only [State.irqRise]; split <;> simp
@[simp] theorem State.irqRise_therm (s : State) (n : Nat) : (s.irqRise n).therm = s.therm := by
  simp only [State.irqRise]; split <;> simp
@[simp] theorem State.irqRise_age (s : State) (n : Nat) : (s.irqRise n).age = s.age := by
  simp only [State.irqRise]; split <;> simp
@[simp] theorem State.irqRise_lanes (s : State) (n : Nat) : (s.irqRise n).lanes = s.lanes := by
  simp only [State.irqRise]; split <;> simp
@[simp] theorem State.irqRise_halo (s : State) (n : Nat) : (s.irqRise n).halo = s.halo := by
  simp only [State.irqRise]; split <;> simp
@[simp] theorem State.irqRise_freeCtr (s : State) (n : Nat) : (s.irqRise n).freeCtr = s.freeCtr := by
  simp only [State.irqRise]; split <;> simp

@[simp] theorem State.wr_regs (s : State) (a : Nat) (v : Word) : (s.wr a v).regs = smSet (regReset s.fuse.gradeA a) s.regs a v := by
  simp only [State.wr]; split <;> (try split) <;> simp
@[simp] theorem State.wr_pending (s : State) (a : Nat) (v : Word) : (s.wr a v).pending = s.pending := by
  simp only [State.wr]; split <;> (try split) <;> simp
@[simp] theorem State.wr_ifc (s : State) (a : Nat) (v : Word) : (s.wr a v).ifc = s.ifc := by
  simp only [State.wr]; split <;> (try split) <;> simp
@[simp] theorem State.wr_fuse (s : State) (a : Nat) (v : Word) : (s.wr a v).fuse = s.fuse := by
  simp only [State.wr]; split <;> (try split) <;> simp
@[simp] theorem State.wr_cells (s : State) (a : Nat) (v : Word) : (s.wr a v).cells = s.cells := by
  simp only [State.wr]; split <;> (try split) <;> simp
@[simp] theorem State.wr_clusters (s : State) (a : Nat) (v : Word) : (s.wr a v).clusters = s.clusters := by
  simp only [State.wr]; split <;> (try split) <;> simp
@[simp] theorem State.wr_res (s : State) (a : Nat) (v : Word) : (s.wr a v).res = s.res := by
  simp only [State.wr]; split <;> (try split) <;> simp
@[simp] theorem State.wr_mst (s : State) (a : Nat) (v : Word) : (s.wr a v).mst = s.mst := by
  simp only [State.wr]; split <;> (try split) <;> simp
@[simp] theorem State.wr_dsp (s : State) (a : Nat) (v : Word) : (s.wr a v).dsp = s.dsp := by
  simp only [State.wr]; split <;> (try split) <;> simp
@[simp] theorem State.wr_flow (s : State) (a : Nat) (v : Word) : (s.wr a v).flow = s.flow := by
  simp only [State.wr]; split <;> (try split) <;> simp
@[simp] theorem State.wr_noc (s : State) (a : Nat) (v : Word) : (s.wr a v).noc = s.noc := by
  simp only [State.wr]; split <;> (try split) <;> simp
@[simp] theorem State.wr_cache (s : State) (a : Nat) (v : Word) : (s.wr a v).cache = s.cache := by
  simp only [State.wr]; split <;> (try split) <;> simp
@[simp] theorem State.wr_spad (s : State) (a : Nat) (v : Word) : (s.wr a v).spad = s.spad := by
  simp only [State.wr]; split <;> (try split) <;> simp
@[simp] theorem State.wr_garnet (s : State) (a : Nat) (v : Word) : (s.wr a v).garnet = s.garnet := by
  simp only [State.wr]; split <;> (try split) <;> simp
@[simp] theorem State.wr_ecc (s : State) (a : Nat) (v : Word) : (s.wr a v).ecc = s.ecc := by
  simp only [State.wr]; split <;> (try split) <;> simp
@[simp] theorem State.wr_ddr (s : State) (a : Nat) (v : Word) : (s.wr a v).ddr = s.ddr := by
  simp only [State.wr]; split <;> (try split) <;> simp
@[simp] theorem State.wr_pwr (s : State) (a : Nat) (v : Word) : (s.wr a v).pwr = s.pwr := by
  simp only [State.wr]; split <;> (try split) <;> simp
@[simp] theorem State.wr_pins (s : State) (a : Nat) (v : Word) : (s.wr a v).pins = s.pins := by
  simp only [State.wr]; split <;> (try split) <;> simp
@[simp] theorem State.wr_flt (s : State) (a : Nat) (v : Word) : (s.wr a v).flt = s.flt := by
  simp only [State.wr]; split <;> (try split) <;> simp
@[simp] theorem State.wr_strata (s : State) (a : Nat) (v : Word) : (s.wr a v).strata = s.strata := by
  simp only [State.wr]; split <;> (try split) <;> simp
@[simp] theorem State.wr_snap (s : State) (a : Nat) (v : Word) : (s.wr a v).snap = s.snap := by
  simp only [State.wr]; split <;> (try split) <;> simp
@[simp] theorem State.wr_bist (s : State) (a : Nat) (v : Word) : (s.wr a v).bist = s.bist := by
  simp only [State.wr]; split <;> (try split) <;> simp
@[simp] theorem State.wr_flint (s : State) (a : Nat) (v : Word) : (s.wr a v).flint = s.flint := by
  simp only [State.wr]; split <;> (try split) <;> simp
@[simp] theorem State.wr_hp (s : State) (a : Nat) (v : Word) : (s.wr a v).hp = s.hp := by
  simp only [State.wr]; split <;> (try split) <;> simp
@[simp] theorem State.wr_smb (s : State) (a : Nat) (v : Word) : (s.wr a v).smb = s.smb := by
  simp only [State.wr]; split <;> (try split) <;> simp
@[simp] theorem State.wr_gpio (s : State) (a : Nat) (v : Word) : (s.wr a v).gpio = s.gpio := by
  simp only [State.wr]; split <;> (try split) <;> simp
@[simp] theorem State.wr_cfg (s : State) (a : Nat) (v : Word) : (s.wr a v).cfg = s.cfg := by
  simp only [State.wr]; split <;> (try split) <;> simp
@[simp] theorem State.wr_sec (s : State) (a : Nat) (v : Word) : (s.wr a v).sec = s.sec := by
  simp only [State.wr]; split <;> (try split) <;> simp
@[simp] theorem State.wr_therm (s : State) (a : Nat) (v : Word) : (s.wr a v).therm = s.therm := by
  simp only [State.wr]; split <;> (try split) <;> simp
@[simp] theorem State.wr_age (s : State) (a : Nat) (v : Word) : (s.wr a v).age = s.age := by
  simp only [State.wr]; split <;> (try split) <;> simp
@[simp] theorem State.wr_lanes (s : State) (a : Nat) (v : Word) : (s.wr a v).lanes = s.lanes := by
  simp only [State.wr]; split <;> (try split) <;> simp
@[simp] theorem State.wr_halo (s : State) (a : Nat) (v : Word) : (s.wr a v).halo = s.halo := by
  simp only [State.wr]; split <;> (try split) <;> simp
@[simp] theorem State.wr_freeCtr (s : State) (a : Nat) (v : Word) : (s.wr a v).freeCtr = s.freeCtr := by
  simp only [State.wr]; split <;> (try split) <;> simp
@[simp] theorem State.setBits_pending (s : State) (a : Nat) (mask : Word) : (s.setBits a mask).pending = s.pending := by simp [State.setBits]
@[simp] theorem State.setBits_ifc (s : State) (a : Nat) (mask : Word) : (s.setBits a mask).ifc = s.ifc := by simp [State.setBits]
@[simp] theorem State.setBits_fuse (s : State) (a : Nat) (mask : Word) : (s.setBits a mask).fuse = s.fuse := by simp [State.setBits]
@[simp] theorem State.setBits_cells (s : State) (a : Nat) (mask : Word) : (s.setBits a mask).cells = s.cells := by simp [State.setBits]
@[simp] theorem State.setBits_clusters (s : State) (a : Nat) (mask : Word) : (s.setBits a mask).clusters = s.clusters := by simp [State.setBits]
@[simp] theorem State.setBits_res (s : State) (a : Nat) (mask : Word) : (s.setBits a mask).res = s.res := by simp [State.setBits]
@[simp] theorem State.setBits_mst (s : State) (a : Nat) (mask : Word) : (s.setBits a mask).mst = s.mst := by simp [State.setBits]
@[simp] theorem State.setBits_dsp (s : State) (a : Nat) (mask : Word) : (s.setBits a mask).dsp = s.dsp := by simp [State.setBits]
@[simp] theorem State.setBits_flow (s : State) (a : Nat) (mask : Word) : (s.setBits a mask).flow = s.flow := by simp [State.setBits]
@[simp] theorem State.setBits_noc (s : State) (a : Nat) (mask : Word) : (s.setBits a mask).noc = s.noc := by simp [State.setBits]
@[simp] theorem State.setBits_cache (s : State) (a : Nat) (mask : Word) : (s.setBits a mask).cache = s.cache := by simp [State.setBits]
@[simp] theorem State.setBits_spad (s : State) (a : Nat) (mask : Word) : (s.setBits a mask).spad = s.spad := by simp [State.setBits]
@[simp] theorem State.setBits_garnet (s : State) (a : Nat) (mask : Word) : (s.setBits a mask).garnet = s.garnet := by simp [State.setBits]
@[simp] theorem State.setBits_ecc (s : State) (a : Nat) (mask : Word) : (s.setBits a mask).ecc = s.ecc := by simp [State.setBits]
@[simp] theorem State.setBits_ddr (s : State) (a : Nat) (mask : Word) : (s.setBits a mask).ddr = s.ddr := by simp [State.setBits]
@[simp] theorem State.setBits_pwr (s : State) (a : Nat) (mask : Word) : (s.setBits a mask).pwr = s.pwr := by simp [State.setBits]
@[simp] theorem State.setBits_pins (s : State) (a : Nat) (mask : Word) : (s.setBits a mask).pins = s.pins := by simp [State.setBits]
@[simp] theorem State.setBits_flt (s : State) (a : Nat) (mask : Word) : (s.setBits a mask).flt = s.flt := by simp [State.setBits]
@[simp] theorem State.setBits_strata (s : State) (a : Nat) (mask : Word) : (s.setBits a mask).strata = s.strata := by simp [State.setBits]
@[simp] theorem State.setBits_snap (s : State) (a : Nat) (mask : Word) : (s.setBits a mask).snap = s.snap := by simp [State.setBits]
@[simp] theorem State.setBits_bist (s : State) (a : Nat) (mask : Word) : (s.setBits a mask).bist = s.bist := by simp [State.setBits]
@[simp] theorem State.setBits_flint (s : State) (a : Nat) (mask : Word) : (s.setBits a mask).flint = s.flint := by simp [State.setBits]
@[simp] theorem State.setBits_hp (s : State) (a : Nat) (mask : Word) : (s.setBits a mask).hp = s.hp := by simp [State.setBits]
@[simp] theorem State.setBits_smb (s : State) (a : Nat) (mask : Word) : (s.setBits a mask).smb = s.smb := by simp [State.setBits]
@[simp] theorem State.setBits_gpio (s : State) (a : Nat) (mask : Word) : (s.setBits a mask).gpio = s.gpio := by simp [State.setBits]
@[simp] theorem State.setBits_cfg (s : State) (a : Nat) (mask : Word) : (s.setBits a mask).cfg = s.cfg := by simp [State.setBits]
@[simp] theorem State.setBits_sec (s : State) (a : Nat) (mask : Word) : (s.setBits a mask).sec = s.sec := by simp [State.setBits]
@[simp] theorem State.setBits_therm (s : State) (a : Nat) (mask : Word) : (s.setBits a mask).therm = s.therm := by simp [State.setBits]
@[simp] theorem State.setBits_age (s : State) (a : Nat) (mask : Word) : (s.setBits a mask).age = s.age := by simp [State.setBits]
@[simp] theorem State.setBits_lanes (s : State) (a : Nat) (mask : Word) : (s.setBits a mask).lanes = s.lanes := by simp [State.setBits]
@[simp] theorem State.setBits_halo (s : State) (a : Nat) (mask : Word) : (s.setBits a mask).halo = s.halo := by simp [State.setBits]
@[simp] theorem State.setBits_freeCtr (s : State) (a : Nat) (mask : Word) : (s.setBits a mask).freeCtr = s.freeCtr := by simp [State.setBits]
@[simp] theorem State.clrBits_pending (s : State) (a : Nat) (mask : Word) : (s.clrBits a mask).pending = s.pending := by simp [State.clrBits]
@[simp] theorem State.clrBits_ifc (s : State) (a : Nat) (mask : Word) : (s.clrBits a mask).ifc = s.ifc := by simp [State.clrBits]
@[simp] theorem State.clrBits_fuse (s : State) (a : Nat) (mask : Word) : (s.clrBits a mask).fuse = s.fuse := by simp [State.clrBits]
@[simp] theorem State.clrBits_cells (s : State) (a : Nat) (mask : Word) : (s.clrBits a mask).cells = s.cells := by simp [State.clrBits]
@[simp] theorem State.clrBits_clusters (s : State) (a : Nat) (mask : Word) : (s.clrBits a mask).clusters = s.clusters := by simp [State.clrBits]
@[simp] theorem State.clrBits_res (s : State) (a : Nat) (mask : Word) : (s.clrBits a mask).res = s.res := by simp [State.clrBits]
@[simp] theorem State.clrBits_mst (s : State) (a : Nat) (mask : Word) : (s.clrBits a mask).mst = s.mst := by simp [State.clrBits]
@[simp] theorem State.clrBits_dsp (s : State) (a : Nat) (mask : Word) : (s.clrBits a mask).dsp = s.dsp := by simp [State.clrBits]
@[simp] theorem State.clrBits_flow (s : State) (a : Nat) (mask : Word) : (s.clrBits a mask).flow = s.flow := by simp [State.clrBits]
@[simp] theorem State.clrBits_noc (s : State) (a : Nat) (mask : Word) : (s.clrBits a mask).noc = s.noc := by simp [State.clrBits]
@[simp] theorem State.clrBits_cache (s : State) (a : Nat) (mask : Word) : (s.clrBits a mask).cache = s.cache := by simp [State.clrBits]
@[simp] theorem State.clrBits_spad (s : State) (a : Nat) (mask : Word) : (s.clrBits a mask).spad = s.spad := by simp [State.clrBits]
@[simp] theorem State.clrBits_garnet (s : State) (a : Nat) (mask : Word) : (s.clrBits a mask).garnet = s.garnet := by simp [State.clrBits]
@[simp] theorem State.clrBits_ecc (s : State) (a : Nat) (mask : Word) : (s.clrBits a mask).ecc = s.ecc := by simp [State.clrBits]
@[simp] theorem State.clrBits_ddr (s : State) (a : Nat) (mask : Word) : (s.clrBits a mask).ddr = s.ddr := by simp [State.clrBits]
@[simp] theorem State.clrBits_pwr (s : State) (a : Nat) (mask : Word) : (s.clrBits a mask).pwr = s.pwr := by simp [State.clrBits]
@[simp] theorem State.clrBits_pins (s : State) (a : Nat) (mask : Word) : (s.clrBits a mask).pins = s.pins := by simp [State.clrBits]
@[simp] theorem State.clrBits_flt (s : State) (a : Nat) (mask : Word) : (s.clrBits a mask).flt = s.flt := by simp [State.clrBits]
@[simp] theorem State.clrBits_strata (s : State) (a : Nat) (mask : Word) : (s.clrBits a mask).strata = s.strata := by simp [State.clrBits]
@[simp] theorem State.clrBits_snap (s : State) (a : Nat) (mask : Word) : (s.clrBits a mask).snap = s.snap := by simp [State.clrBits]
@[simp] theorem State.clrBits_bist (s : State) (a : Nat) (mask : Word) : (s.clrBits a mask).bist = s.bist := by simp [State.clrBits]
@[simp] theorem State.clrBits_flint (s : State) (a : Nat) (mask : Word) : (s.clrBits a mask).flint = s.flint := by simp [State.clrBits]
@[simp] theorem State.clrBits_hp (s : State) (a : Nat) (mask : Word) : (s.clrBits a mask).hp = s.hp := by simp [State.clrBits]
@[simp] theorem State.clrBits_smb (s : State) (a : Nat) (mask : Word) : (s.clrBits a mask).smb = s.smb := by simp [State.clrBits]
@[simp] theorem State.clrBits_gpio (s : State) (a : Nat) (mask : Word) : (s.clrBits a mask).gpio = s.gpio := by simp [State.clrBits]
@[simp] theorem State.clrBits_cfg (s : State) (a : Nat) (mask : Word) : (s.clrBits a mask).cfg = s.cfg := by simp [State.clrBits]
@[simp] theorem State.clrBits_sec (s : State) (a : Nat) (mask : Word) : (s.clrBits a mask).sec = s.sec := by simp [State.clrBits]
@[simp] theorem State.clrBits_therm (s : State) (a : Nat) (mask : Word) : (s.clrBits a mask).therm = s.therm := by simp [State.clrBits]
@[simp] theorem State.clrBits_age (s : State) (a : Nat) (mask : Word) : (s.clrBits a mask).age = s.age := by simp [State.clrBits]
@[simp] theorem State.clrBits_lanes (s : State) (a : Nat) (mask : Word) : (s.clrBits a mask).lanes = s.lanes := by simp [State.clrBits]
@[simp] theorem State.clrBits_halo (s : State) (a : Nat) (mask : Word) : (s.clrBits a mask).halo = s.halo := by simp [State.clrBits]
@[simp] theorem State.clrBits_freeCtr (s : State) (a : Nat) (mask : Word) : (s.clrBits a mask).freeCtr = s.freeCtr := by simp [State.clrBits]

@[simp] theorem State.rd_wr_self (s : State) (a : Nat) (v : Word) : (s.wr a v).rd a = v := by
  simp [State.rd]
theorem State.rd_wr_of_ne (s : State) {a b : Nat} (v : Word) (h : b ≠ a) : (s.wr a v).rd b = s.rd b := by
  simp only [State.rd, State.wr_regs, State.wr_fuse]
  unfold smGet smSet
  split
  · rw [smFind_smDel_of_ne _ h]
  · rw [smFind_smPut_of_ne _ _ h]
theorem State.rd_wr (s : State) (a b : Nat) (v : Word) : (s.wr a v).rd b = if b = a then v else s.rd b := by
  split
  · subst b; simp
  · exact State.rd_wr_of_ne s v ‹_›
@[simp] theorem State.rd_setBits_self (s : State) (a : Nat) (m : Word) : (s.setBits a m).rd a = s.rd a ||| m := by simp [State.setBits]
theorem State.rd_setBits_of_ne (s : State) {a b : Nat} (m : Word) (h : b ≠ a) : (s.setBits a m).rd b = s.rd b := State.rd_wr_of_ne s _ h
@[simp] theorem State.rd_clrBits_self (s : State) (a : Nat) (m : Word) : (s.clrBits a m).rd a = s.rd a &&& ~~~m := by simp [State.clrBits]
theorem State.rd_clrBits_of_ne (s : State) {a b : Nat} (m : Word) (h : b ≠ a) : (s.clrBits a m).rd b = s.rd b := State.rd_wr_of_ne s _ h

end Sys2Proof.Machine
end

