-- ==== Sys2Proof/Laws/Cells.lean ====
section
/-! SUPPORT. What an issue of a cell does: in its turn, with a false predicate, under GSR, of a microinstruction the loader rejects. -/

namespace Sys2Proof.Laws

open Sys2Proof.Machine Sys2Proof.Safety

theorem early_of_open {s : State} {c k : Nat} (h : ∀ j, (s.cluster c).last = some j → j < k) : s.early c k = false := by
  unfold State.early
  split
  · next j hj => have := h j hj; simp; omega
  · rfl

theorem openCycle_of_open {s : State} {c k : Nat} (h : ∀ j, (s.cluster c).last = some j → j < k) : s.openCycle c k = s := by
  unfold State.openCycle
  split
  · next j hj => have := h j hj; rw [if_neg (by omega)]
  · rfl

theorem runInst_some {s : State} {c : Nat} {x : Inst} (h : s.runInst c = some x) :
    ∃ iid, (s.cluster c).run = some iid ∧ s.inst iid = some x := by
  unfold State.runInst at h
  split at h
  · next iid hr => exact ⟨iid, hr, h⟩
  · cases h

theorem issuing_of_run {s : State} {c : Nat} {x : Inst} (h : s.runInst c = some x) (hs : x.st = .running ∨ x.st = .ending) :
    s.issuing c = true := by
  simp only [State.issuing, h, Bool.or_eq_true, decide_eq_true_eq]
  exact hs

/-- The gate of a legal issue in its turn is open (R39, R64, R70, R304, R307, R309). -/
theorem gate_of_turn {s : State} {r : OpRow} {c k : Nat} {m : Micro} (h : CellTurn s c k r.code m) (hl : s.legalIssue r m c k = true) :
    s.gate r m c k = .go := by
  obtain ⟨⟨_, _, hg, _, ⟨x, hx, hst⟩, ha, hw, hp⟩, hn, ho⟩ := h
  have hi : s.ir c k = Micro.word r.code m := hw
  simp [State.gate, hg, issuing_of_run hx hst, hp, hl, State.agrees, ha, hi, hn, ho]

/-- A legal microinstruction issued in its turn: its SEQ action only while its predicate is false (R45), else its effect. -/
theorem cellIssue_of_turn {r : OpRow} {alu : State → Opnds → Alu} {eff : State → Opnds → State}
    {c k : Nat} {m : Micro} {s : State} (h : CellTurn s c k r.code m) (hl : s.legalIssue r m c k = true) :
    cellIssue r alu eff c k m s =
      if (s.opnds c k m r.dot4).on = false then .next ((s.doIssue c k m (s.opnds c k m r.dot4) {}).closeOn c)
      else .next ((eff (s.doIssue c k m (s.opnds c k m r.dot4) (alu s (s.opnds c k m r.dot4))) (s.opnds c k m r.dot4)).closeOn c) := by
  have hgate := gate_of_turn h hl
  obtain ⟨⟨hc, hk, _, ho, _⟩, _⟩ := h
  simp only [cellIssue, early_of_open ho, openCycle_of_open ho, hgate, hc, hk]
  cases (s.opnds c k m r.dot4).on <;> simp

/-- The legality of an issue, by the row of R52. -/
theorem legal_of_row {s : State} {r : OpRow} {w : CellRow} {c k : Nat} {m : Micro} (hl : CellLegal s w c k m)
    (h1 : r.role = w.role) (h2 : r.wide = w.wide) (h3 : r.chain = w.chain) : s.legalIssue r m c k = true := by
  obtain ⟨ho, hc⟩ := hl
  unfold State.legalIssue
  rw [h1, h2, h3, ho]
  cases hw : w.chain with
  | false => simp
  | true => simpa using hc hw

/-- An issue with no effect beside its cell, in its turn, with its predicate true. -/
theorem aluIssue_of_turn {r : OpRow} {alu : Opnds → Alu} {w : CellRow} {c k : Nat} {m : Micro} {s : State} (h : CellTurn s c k r.code m)
    (hl : CellLegal s w c k m) (hon : CellOn s c k m) (h1 : r.role = w.role) (h2 : r.wide = w.wide) (h3 : r.chain = w.chain) :
    aluIssue r alu c k m s = .next ((s.doIssue c k m (s.opnds c k m r.dot4) (alu (s.opnds c k m r.dot4))).closeOn c) := by
  unfold aluIssue
  rw [cellIssue_of_turn h (legal_of_row hl h1 h2 h3)]
  have : (s.opnds c k m r.dot4).on = true := hon
  rw [this]
  simp

/-- A command that is one call of `aluIssue` does what its result function says. -/
theorem does_of_alu {op : Nat} {role : XtRole} {wide dot chain : Bool} {cmd : Nat → Nat → Micro → Instr} {f : Opnds → Micro → Alu}
    (r : OpRow) (g : Micro → Opnds → Alu) (he : ∀ c k m s, exec (cmd c k m) s = aluIssue r (g m) c k m s)
    (h0 : r.code = op) (h1 : r.role = role) (h2 : r.wide = wide) (h3 : r.chain = chain) (h4 : r.dot4 = dot)
    (hf : ∀ o m, (role = .lane → m.xt.toNat ≤ 2) → g m o = f o m) : CellDoes op role wide dot chain cmd f := by
  intro s c k m ht hl hon
  subst h0 h4
  rw [he, aluIssue_of_turn (w := ⟨r.code, role, wide, r.dot4, chain, cmd⟩) ht hl hon h1 h2 h3, hf]
  intro hr
  have := hl.1
  simp only [hr, Micro.ok, Bool.and_eq_true, decide_eq_true_eq] at this
  exact this.2

end Sys2Proof.Laws
end

