-- ==== Sys2Proof/Laws/Memory.lean ====
section
/-! SUPPORT. Every operation that writes bytes of a memory keeps the canonical form (Memory.wf). -/

namespace Sys2Proof.Machine

theorem Memory.wf_reset : Memory.wf State.reset = true := by rfl

/-- What the form says of each memory. -/
theorem Memory.wf_iff (s : State) : Memory.wf s = true ↔ smWf 0 s.cache.arr = true ∧ smWf 0 s.garnet.arr = true ∧ smWf 0 s.ddr.dram = true ∧
    smWf 0 s.ddr.chk = true ∧ (smSorted s.spad.arr = true ∧ ∀ e ∈ s.spad.arr, e.2 ≠ s.spad.dflt e.1) ∧ ∀ e ∈ s.clusters, smWf 0 e.2.mem = true := by
  simp [Memory.wf, and_assoc]

/-- A write of scratchpad bytes keeps the form of the scratchpad. -/
theorem Spad.putBytes_wf (x : Spad) (bs : List (Option Byte)) {m : SMap Byte} (hs : smSorted m = true) (hd : ∀ e ∈ m, e.2 ≠ x.dflt e.1) (k : Nat) :
    smSorted (x.putBytes m k bs) = true ∧ ∀ e ∈ x.putBytes m k bs, e.2 ≠ x.dflt e.1 := by
  induction bs generalizing m k with
  | nil => exact ⟨hs, hd⟩
  | cons b bs ih =>
    cases b with
    | none => exact ih hs hd (k + 1)
    | some b =>
      refine ih (m := smSet (x.dflt k) m k b) ?_ ?_ (k + 1)
      · unfold smSet
        split
        · exact smSorted_filter hs _
        · exact smSorted_smPut hs k b
      · intro e he
        unfold smSet at he
        split at he
        · exact hd e (List.mem_of_mem_filter he)
        · rcases mem_smPut he with rfl | he
          · assumption
          · exact hd e he

theorem State.wPut_wf {s : State} (h : Memory.wf s = true) (l : WLoc) (bs : List (Option Byte)) (m : Mark) : Memory.wf (s.wPut l bs m) = true := by
  rw [Memory.wf_iff] at h ⊢
  obtain ⟨h1, h2, h3, h7, ⟨h4, h5⟩, h6⟩ := h
  cases l with
  | cache k => exact ⟨smWf_smSetMasked bs h1 k, h2, h3, h7, ⟨h4, h5⟩, h6⟩
  | spad k => exact ⟨h1, h2, h3, h7, Spad.putBytes_wf s.spad bs h4 h5 k, h6⟩

theorem State.sectorFill_wf {s : State} (h : Memory.wf s = true) (a w : Nat) (bs : List Byte) (ms : List Mark) :
    Memory.wf (s.sectorFill a w bs ms) = true := by
  rw [Memory.wf_iff] at h ⊢
  exact ⟨smWf_smSetList bs h.1 _, h.2⟩

theorem State.lineStore_wf {s : State} (h : Memory.wf s = true) (pa : Nat) (bs : List Byte) (ms : List Mark) :
    Memory.wf (s.lineStore pa bs ms) = true := by
  rw [Memory.wf_iff] at h ⊢
  exact ⟨h.1, h.2.1, smWf_smSetList _ h.2.2.1 pa, smWf_smSetList _ h.2.2.2.1 _, h.2.2.2.2⟩

theorem State.wordStore_wf {s : State} (h : Memory.wf s = true) (w : Nat) (bs : List Byte) (m : Mark) : Memory.wf (s.wordStore w bs m) = true := by
  rw [Memory.wf_iff] at h ⊢
  exact ⟨h.1, h.2.1, smWf_smSetList _ h.2.2.1 _, smWf_smSet h.2.2.2.1 _ _, h.2.2.2.2⟩

theorem State.bytePut_wf {s : State} (h : Memory.wf s = true) (a : Nat) (b : Byte) : Memory.wf (s.bytePut a b) = true := by
  unfold State.bytePut
  split
  · exact h
  · rw [Memory.wf_iff] at h ⊢
    exact ⟨h.1, h.2.1, smWf_smSet h.2.2.1 a b, smWf_smSet h.2.2.2.1 _ _, h.2.2.2.2⟩

theorem Cluster.store_wf {x : Cluster} (h : smWf 0 x.mem = true) (a v : Word) : smWf 0 (x.store a v).mem = true := by
  simp only [Cluster.store]
  refine smWf_smSetList _ ?_ _
  split
  · exact h
  · exact smWf_smSetList _ h _

/-- A row written to the Garnet array. -/
theorem garnetRow_wf {m : SMap Byte} (h : smWf 0 m = true) (row : Nat) (bs : List Byte) : smWf 0 (smSetList 0 m (64 * row) bs) = true :=
  smWf_smSetList bs h _

/-- A cluster replaced by one whose memory has the form. -/
theorem State.setCluster_wf {s : State} (h : Memory.wf s = true) (c : Nat) {x : Cluster} (hx : smWf 0 x.mem = true) :
    Memory.wf (s.setCluster c x) = true := by
  rw [Memory.wf_iff] at h ⊢
  obtain ⟨h1, h2, h3, h7, h4, h6⟩ := h
  refine ⟨h1, h2, h3, h7, h4, fun e he => ?_⟩
  simp only [State.setCluster] at he
  unfold smSet at he
  split at he
  · exact h6 e (List.mem_of_mem_filter he)
  · rcases mem_smPut he with rfl | he
    · exact hx
    · exact h6 e he

end Sys2Proof.Machine
end

