-- ==== Sys2Proof/Laws/Ops.lean ====
section
/-! SUPPORT. What the shared operations on registers, counters, records and answers can change, said once each. -/

namespace Sys2Proof.Machine

/-- `t` is `s` but for registers and what an interrupt sends. -/
def RegsOnly (s t : State) : Prop := t = { s with regs := t.regs, pcie := t.pcie }

/-- `t` is `s` but for what a record touches: registers, interrupts, the recorder, a BOLT and its frame, the critical mark. -/
def RecordOnly (s t : State) : Prop :=
  t = { s with regs := t.regs, pcie := t.pcie, strata := t.strata, snap := t.snap, halo := t.halo, cfg := t.cfg }

theorem RegsOnly.refl (s : State) : RegsOnly s s := rfl
theorem RecordOnly.refl (s : State) : RecordOnly s s := rfl

theorem RegsOnly.trans {s t u : State} (h : RegsOnly s t) (g : RegsOnly t u) : RegsOnly s u := by
  unfold RegsOnly at *
  calc u = _ := g
    _ = _ := by rw [h]

theorem RecordOnly.trans {s t u : State} (h : RecordOnly s t) (g : RecordOnly t u) : RecordOnly s u := by
  unfold RecordOnly at *
  calc u = _ := g
    _ = _ := by rw [h]

theorem RegsOnly.record {s t : State} (h : RegsOnly s t) : RecordOnly s t := by
  unfold RegsOnly at h
  unfold RecordOnly
  rw [h]

theorem RegsOnly.ite {s a b : State} {p : Prop} [Decidable p] (h : RegsOnly s a) (g : RegsOnly s b) : RegsOnly s (if p then a else b) := by
  split <;> assumption

theorem RecordOnly.ite {s a b : State} {p : Prop} [Decidable p] (h : RecordOnly s a) (g : RecordOnly s b) : RecordOnly s (if p then a else b) := by
  split <;> assumption

theorem State.msixFire_only (s : State) (v : Nat) : RegsOnly s (s.msixFire v) := by
  unfold State.msixFire
  split <;> rfl

theorem State.wr_only (s : State) (a : Nat) (v : Word) : RegsOnly s (s.wr a v) := by
  have h0 : RegsOnly s { s with regs := smSet (regReset s.fuse.gradeA a) s.regs a v } := rfl
  unfold State.wr
  simp only
  split
  · exact h0
  · refine RegsOnly.ite (h0.trans ?_) h0
    unfold State.irqRise
    simp only
    exact RegsOnly.ite (State.msixFire_only _ _) (RegsOnly.refl _)

theorem State.setBits_only (s : State) (a : Nat) (m : Word) : RegsOnly s (s.setBits a m) := State.wr_only _ _ _
theorem State.clrBits_only (s : State) (a : Nat) (m : Word) : RegsOnly s (s.clrBits a m) := State.wr_only _ _ _
theorem State.wr64_only (s : State) (a n : Nat) : RegsOnly s (s.wr64 a n) := (State.wr_only _ _ _).trans (State.wr_only _ _ _)

/-- A counter writes itself and its overflow register (R190). -/
theorem State.bumpN_only (s : State) (a flag b n : Nat) : RegsOnly s (s.bumpN a flag b n) := by
  unfold State.bumpN
  exact RegsOnly.ite ((State.wr_only _ _ _).trans (State.setBits_only _ _ _)) (State.wr_only _ _ _)

theorem State.bump_only (s : State) (a flag b : Nat) : RegsOnly s (s.bump a flag b) := State.bumpN_only _ _ _ _ _

theorem State.bump64N_only (s : State) (lo flag b n : Nat) : RegsOnly s (s.bump64N lo flag b n) := by
  unfold State.bump64N
  exact RegsOnly.ite ((State.wr64_only _ _ _).trans (State.setBits_only _ _ _)) (State.wr64_only _ _ _)

theorem State.guard_only (s : State) (kind : Nat) : RegsOnly s (s.guard kind) := by
  unfold State.guard
  split
  · exact (State.setBits_only _ _ _).trans (State.setBits_only _ _ _)
  · exact RegsOnly.refl _

theorem State.boltAdd_only (s : State) (tick : BitVec 64) (src : BitVec 3) : RecordOnly s (s.boltAdd tick src) := by
  unfold State.boltAdd
  refine RecordOnly.ite (RecordOnly.refl _) (RecordOnly.ite ?_ rfl)
  exact ((State.bump_only _ _ _ _).trans (State.setBits_only _ _ _)).record

theorem State.haloSend_only (s : State) (f : HaloFrame) : RecordOnly s (s.haloSend f) := by
  unfold State.haloSend
  exact RecordOnly.ite rfl rfl

theorem State.originBolt_only (s : State) (src : BitVec 3) : RecordOnly s (s.originBolt src) := by
  unfold State.originBolt State.ringBolt
  exact RecordOnly.ite ((State.haloSend_only _ _).trans (State.boltAdd_only _ _ _)) (State.boltAdd_only _ _ _)

/-- A record changes nothing but the recorder, registers with their interrupts, a BOLT with its frame, and the critical mark (R505-R509). -/
theorem State.record_only (s : State) (kind : Nat) (sev : BitVec 2) (detail : List Byte) : RecordOnly s (s.record kind sev detail) := by
  have hA := (State.guard_only s kind).record
  unfold State.record
  generalize s.guard kind = A at hA ⊢
  refine RecordOnly.trans hA (RecordOnly.trans ?_ (RecordOnly.ite (State.originBolt_only _ _) (RecordOnly.refl _)))
  split
  · refine RecordOnly.ite (RecordOnly.trans ?_ (State.setBits_only _ _ _).record) ?_ <;> rfl
  · refine RecordOnly.trans (RecordOnly.ite (RecordOnly.trans ?_ (State.bump_only _ _ _ _).record) (RecordOnly.trans ?_ (State.bump_only _ _ _ _).record))
      (State.setBits_only _ _ _).record <;> rfl

/-- An answer changes what the interface received, nothing else. -/
theorem State.answer_only (s : State) (i : Iface) (k : AnsKind) (d : List Byte) : s.answer i k d = { s with ifc := (s.answer i k d).ifc } := rfl

theorem State.ansOf_answer (s : State) (i : Iface) (k : AnsKind) (d : List Byte) : Safety.ansOf (s.answer i k d) i = ⟨k, d⟩ := by
  simp [Safety.ansOf, State.answer]

end Sys2Proof.Machine
end

