-- ==== Sys2Proof/Tests/Slice0.lean ====
section
/-! SUPPORT. The package's own tests: ill-formed terms refused, values the spec prints, and for every statement of Certificates/Slice0 concrete states and operands that meet
its hypotheses. The hypotheses that rest on SHA-384, ECDSA or key wrapping, which the model leaves free, are met only as the docstrings say. -/

namespace Sys2Proof.Tests

open Sys2Proof.Machine Sys2Proof.Safety

-- One theorem at a time: many evaluations at once take more memory than a check has.
set_option Elab.async false

/-! Small states -/

/-- The device in RUN, nothing configured. -/
def up : State := { State.reset with pins := Pins.zero, cfg := { Cfg.zero with st := .run } }
/-- An instance of context 5 that runs on cluster 0. -/
def inst1 : Inst := ⟨1, 5, 0, 0, 0, [], 0, 0, 0, 0, [], .running, 0, [0], false, false, []⟩
/-- Cluster 0 runs `inst1`; its plane 0 gives cell 0 one microinstruction and activates it. -/
def cellSt (op : Nat) (m : Micro) : State :=
  { up with
    dsp := { Dsp.zero with insts := [inst1] }
    clusters := [(0, { Cluster.zero with run := some 1, slots := [(0, .full 0 .normal)] })]
    res := { Res.zero with planes := [(0, { Plane.zero with st := .valid, words := [(0, Micro.word op m), (11, 0x80#32)] })] } }
/-- A microinstruction that every row accepts. -/
def m0 : Micro := ⟨0, 0, 0, 0, 0, 0⟩
/-- The same with predicate P, which is clear. -/
def mOff : Micro := ⟨0, 0, 0, 0, 1, 0⟩
/-- A data token for port 0 of context 5. -/
def tok0 : Token := ⟨5, 0, 0, .data, 0, 0, false, 0⟩
def req0 : MemReq := ⟨.pcie, 0, 4, false, []⟩

/-! WellFormed refuses an ill-formed term of each check -/

theorem test_wf_refuses_cells :
    [Instr.nop 1024 0 m0, .add 0 32 m0, .mov 0 0 { m0 with sa := 31 }, .mov 0 0 { m0 with sb := 31 }, .mov 0 0 { m0 with dst := 31 },
     .mov 0 0 { m0 with seq := 7 }, .psw 0 1 m0, .rldResponse 1024 0, .rldResponse 0 16, .mstSizeWrite (some 8) 0].all (fun i => !i.wf) = true := by decide

theorem test_wf_refuses_fabric :
    [Instr.fillGrant 64, .fillComplete 64, .contextRestoreEnd 4096 ⟨false, [], [], []⟩, .pinEnable 1024 0 0, .pinEnable 0 2 0, .pinRelease 0 2 0, .planeSweep 64,
     .enqueue 262144 tok0, .dequeue 262144, .flowPop (.fabric 1024), .packetHop 4 0 ⟨0, .none⟩, .packetHop 0 128 ⟨0, .none⟩, .packetHop 3 80 ⟨0, .none⟩, .packetHop 0 0 ⟨16, .payload⟩, .portDrained 0 0 8,
     .regAccess .pcie (2 ^ 48) false 0].all (fun i => !i.wf) = true := by decide

theorem test_wf_refuses_memory :
    [Instr.cacheRequest { req0 with master := .cluster 1024 }, .cacheRequest { req0 with master := .dma 64 }, .cacheRequest { req0 with master := .lane 12 },
     .cacheRequest { req0 with addr := 2 ^ 48 }, .cacheRequest { req0 with len := 0 }, .cacheRequest { req0 with addr := 253 },
     .cacheRequest { req0 with write := true, bytes := [none] }, .sectorFetchResponse (2 ^ 48), .lockTransitionEnd 256, .spadBankWrite 128 0,
     .garnetRowWriteout 8 true true, .ddrPowerDown 16, .regionInitDone 32, .kidFree 64, .flintFix 2 0, .flintFix 0 131072,
     .spadRequest req0, .garnetWrite { req0 with addr := 0x1000000000 }].all (fun i => !i.wf) = true := by decide

theorem test_wf_refuses_services :
    [Instr.mzAdd 4 0 ⟨0, 0, false, false, 0, 0⟩, .mzAdd 0 640 ⟨0, 0, false, false, 0, 0⟩, .hostBusRead 6 0, .mailboxTake 2 0, .mailboxTake 0 16,
     .cfgLoad 2 ⟨false, [], [], []⟩, .cfgActivate 2, .clockNoEdge 76, .domainSwitchOff 1483, .pwrOppWrite 64 0, .brokenClear 52, .laneIdle 48, .laneGrateWrite 12 0,
     .haloFrame ⟨1, 0, 0, 0, List.replicate 65 0, 0, 0⟩, .pcieMemRead 6 0 4, .dmaStop 64, .gpioSet 20 0, .statisticSample 724 0, .grantedWrite .pcie DSP_CTRL 0, .bistTestStart 2 true,
     .bistTest 1024, .refreshInterval 16].all (fun i => !i.wf) = true := by decide

theorem test_wf_accepts :
    [Instr.nop 1023 31 m0, .pinEnable 1023 1 0, .packetHop 3 3 ⟨15, .header⟩, .cacheRequest { req0 with addr := 252 }, .flintFix 1 5999, .grantedWrite .pcie SEC_DBG 0, .statisticSample 723 0, .laneIdle 47, .gpioSet 19 0,
     .bistTest 1023, .dmaStop 63].all (fun i => i.wf) = true := by decide

/-- No row of the table has bits, so no word spells a command. -/
theorem test_no_word_spells_a_command : decodeTableWord 32 0 = none := rfl

/-! Values the spec prints -/

/-- R40: the word 0x0A11_8005 that chapter 2 assembles. -/
theorem test_micro_word_example : microOf 0x0A118005#32 = (2, ⟨16, 17, 16, 0, 0, 5⟩) ∧ Micro.word 3 ⟨16, 17, 16, 0, 0, 5⟩ = 0x0E118005#32 := by decide

/-! Cells: every row has a state in which its cell issues -/

/-- In `cellSt` no parity bit is wrong, no cell waits and none raises an abort, whatever the operation and its predicate. -/
theorem cellSt_calm : ∀ op, op < 64 → ∀ m, m ∈ [m0, mOff] →
    (cellSt op m).parityRaises 0 = [] ∧ (cellSt op m).waiting 0 = none ∧ (cellSt op m).opRaises 0 = [] := by decide +kernel

theorem cellSt_turn (op : Nat) (m : Micro) (ho : op < 64) (hm : m ∈ [m0, mOff]) : CellTurn (cellSt op m) 0 0 op m := by
  obtain ⟨h1, h2, h3⟩ := cellSt_calm op ho m hm
  refine ⟨⟨by decide, by decide, rfl, ?_, ⟨inst1, rfl, Or.inl rfl⟩, (by show cellActive 0x80#32 = true; decide), rfl, h1⟩, h2, h3⟩
  intro j h; cases h

def rowPsw : CellRow := ⟨0x38, .field 0x03#5, false, false, false, .psw⟩

/-- CellMovesLogicShifts, CellSumsAndSaturation, CellComparesAndPicks, CellProducts, CellBitsAndFlags, CellPortsReachMemoryAndTokens,
SeqStepsTheCounter and TasksStartSwitchAndEnd: a turn of a legal microinstruction whose predicate holds. -/
theorem witness_cells_issue : ∀ r, r ∈ cellRows ++ portRows ++ [rowPsw] →
    CellTurn (cellSt r.op m0) 0 0 r.op m0 ∧ CellLegal (cellSt r.op m0) r 0 0 m0 ∧ CellOn (cellSt r.op m0) 0 0 m0 := by
  intro r hr
  refine ⟨cellSt_turn _ _ (by revert r; decide) (by decide), ?_⟩
  revert r
  unfold CellLegal CellOn
  decide

/-- FalsePredicateOnlySequences. -/
theorem witness_cells_false_predicate : ∀ r, r ∈ cellRows ++ portRows ++ [rowPsw] →
    CellTurn (cellSt r.op mOff) 0 0 r.op mOff ∧ CellLegal (cellSt r.op mOff) r 0 0 mOff ∧ ¬ CellOn (cellSt r.op mOff) 0 0 mOff := by
  intro r hr
  refine ⟨cellSt_turn _ _ (by revert r; decide) (by decide), ?_⟩
  revert r
  unfold CellLegal CellOn
  decide

/-- A latency-2 pair on its way in cell 0. -/
def pendSt : State := { up with cells := [(0, { Cell.zero with pend := some ⟨0, 3, 1, some 2, none, none, false⟩ })] }

/-- CellIssueWritesItsCell. -/
theorem witness_issue : 0 < 32 ∧ (pendSt.cell 0 0).pend = some ⟨0, 3, 1, some 2, none, none, false⟩ ∧
    ∀ w, (pendSt.cell 0 0).pend = some w → w.hi ≠ none → w.dst.toNat < 15 ∨ w.dst = 16 := by
  refine ⟨by decide, rfl, ?_⟩
  intro w h _; cases h; decide

/-- A plane word, or L register 0 of cell 0, with a bad parity bit. -/
def parSt (op : Nat) : State := { cellSt op m0 with res := { (cellSt op m0).res with planes := [(0, { (cellSt op m0).plane 0 0 with par := [(0, true)] })] } }
def regParSt : State := { cellSt 1 m0 with cells := [(0, { Cell.zero with par := [(0, true)] })] }
/-- Slot 0 of cluster 0 holds what is given. -/
def slotSt (x : Slot) : State := { cellSt 0x34 m0 with clusters := [(0, { Cluster.zero with run := some 1, slots := [(0, x)] })] }
theorem cellHere_slotSt (x : Slot) (hx : x ∈ [Slot.pending, .full 0 .poisoned]) : CellHere (slotSt x) 0 0 0x34 m0 := by
  refine ⟨by decide, by decide, rfl, ?_, ⟨inst1, rfl, Or.inl rfl⟩, (by show cellActive 0x80#32 = true; decide), rfl, by revert x; decide⟩
  intro j h; cases h

/-- CellIssueIsHeldBack: each clause: a register outside the numbers; an illegal word, GSR, a bad plane and a bad register; a slot that is PENDING stalls its
own cell and holds back another; a poisoned response aborts. -/
theorem witness_held_back :
    (1024 ≤ 1024 ∨ 32 ≤ 0) ∧ (∀ j, ((cellSt 1 m0).cluster 0).last = some j → j < 0) ∧
    (¬ CellLegal up ⟨0x01, .imm, false, false, false, .mov⟩ 0 0 { m0 with dst := 31 } ∧ up.parityRaises 0 = []) ∧
    (CellLegal State.reset ⟨0x01, .imm, false, false, false, .mov⟩ 0 0 m0 ∧ State.reset.gsr = true) ∧
    ((parSt 1).gsr = false ∧ (parSt 1).issuing 0 = true ∧ (parSt 1).parityRaises 0 = [.plane 0]) ∧
    (regParSt.issuing 0 = true ∧ regParSt.parityRaises 0 = [.cell 0 0] ∧ regParSt.ir 0 0 = Micro.word 1 m0 ∧ 0 ∈ (opReads 1 m0).map (fun r => r.toNat) ∧
      smGet false (regParSt.cell 0 0).par (16 * (regParSt.cluster 0).plane + 0) = true) ∧
    (CellHere (slotSt .pending) 0 0 0x34 m0 ∧ CellLegal (slotSt .pending) ⟨0x34, .field 0x0F#5, false, false, false, .rsp⟩ 0 0 m0 ∧
      (slotSt .pending).waiting 0 = some (0, 0)) ∧
    (CellHere (slotSt (.full 0 .poisoned)) 0 0 0x34 m0 ∧ (slotSt (.full 0 .poisoned)).waiting 0 = none ∧
      (slotSt (.full 0 .poisoned)).opRaises 0 = [.rsp 0 0 .poisoned]) ∧
    firstRaise [.rsp 0 0 .poisoned, .plane 0] = some (.plane 0) := by
  unfold CellLegal
  refine ⟨by decide, ?_, by decide, by decide, by decide, by decide, ⟨cellHere_slotSt _ (by decide), by decide, by decide⟩, ⟨cellHere_slotSt _ (by decide), by decide, by decide⟩, by decide⟩
  intro j h; cases h

/-- A cell of cluster 0 whose turn it is, beside another active one that waits. -/
def twoSt : State :=
  { slotSt .pending with res := { Res.zero with planes := [(0, { Plane.zero with st := .valid, words := [(0, Micro.word 0x34 m0), (11, 0x80#32), (14, Micro.word 1 m0), (25, 0x80#32)] })] } }

/-- CellIssueIsHeldBack: a legal word of a cell beside one that waits. -/
theorem witness_held_back_beside : twoSt.ir 0 1 = Micro.word 1 m0 ∧ cellActive (twoSt.ctrlWord 0 0 1) = true ∧ twoSt.parityRaises 0 = [] ∧
    twoSt.waiting 0 = some (0, 0) ∧ ((0, 0) : Nat × Nat) ≠ (0, 1) := by decide

/-- Context 5: valid, one cluster, one plane, REPLAYABLE, port 0; its plane is VALID in cluster 0. -/
def ent5 : DirEnt := ⟨0x82000001#32, 0⟩
def ctxUp : State := { up with res := { Res.zero with dir := [(5, ent5)], planes := [(0, { Plane.zero with st := .valid, ctx := 5 })] } }
def withInst (s : State) (x : Inst) : State := { s with dsp := { Dsp.zero with insts := [x] }, clusters := [(0, { Cluster.zero with run := some 1 })] }
def startSt : State := { ctxUp with dsp := { Dsp.zero with insts := [{ inst1 with st := .placed }] } }
/-- A REPLAYABLE instance with room in the commit buffer, whose cell issues. -/
def emitSt (op : Nat) : State := { cellSt op m0 with res := { (cellSt op m0).res with dir := [(5, ent5)] } }
def heldTok0 : HeldTok := ⟨tok0, false, .clean⟩
def bundleSt : State := { cellSt 0x2E m0 with dsp := { Dsp.zero with insts := [{ inst1 with bundle := [(true, heldTok0)] }] } }
/-- A store to address 0 in the commit buffer of the task, with a code. -/
def cbE (i : Nat) (k : Mark) : CbEntry := ⟨i, .store 0 7, 0, false, k, none⟩
def cbSt (i : Nat) (k : Mark) : State := { emitSt 0x32 with clusters := [(0, { Cluster.zero with run := some 1, cb := [cbE i k] })] }
/-- Word 0 of the memory of cluster 0 written, with the code given. -/
def memSt (k : Mark) : State := { cellSt 0x30 m0 with clusters := [(0, { Cluster.zero with run := some 1, written := [(0, true)], memMark := [(0, k)] })] }

/-- CellPortsReachMemoryAndTokens: a sound, a correctable and a bad memory word; room for an emission; a load with and without a store of its own to meet, to an
address that exists and one that does not; each kind of slot; a bundle token. -/
theorem witness_cell_ports :
    ((memSt .clean).cluster 0).markAt 0 ≠ .ce ∧ ((memSt .ce).cluster 0).markAt 0 = .ce ∧ (((memSt .ue).cluster 0).markAt 0).bad = true ∧
    ((memSt .ce).waiting 0 = none ∧ (memSt .ce).opRaises 0 = [] ∧ (memSt .ue).parityRaises 0 = []) ∧
    ((emitSt 0x2F).runInst 0 = some inst1 ∧ ((emitSt 0x2F).dirEnt inst1.ctx.toNat).replayable = true ∧ ((emitSt 0x2F).cluster 0).cb.length < 256 ∧
      (emitSt 0x2F).waiting 0 = none ∧ (emitSt 0x2F).opRaises 0 = [] ∧ (emitSt 0x33).waiting 0 = none ∧ (emitSt 0x33).opRaises 0 = []) ∧
    (((cellSt 0x32 m0).dirEnt inst1.ctx.toNat).replayable = false ∧ cbMatch ((cellSt 0x32 m0).cluster 0).cb 0 = none ∧ addrKnown 0 = true ∧
      addrKnown 0x100000000000 = false) ∧
    (∀ k, k ∈ [Mark.clean, .ce] → (cbSt 1 k).runInst 0 = some inst1 ∧ ((cbSt 1 k).dirEnt inst1.ctx.toNat).replayable = true ∧
      cbMatch ((cbSt 1 k).cluster 0).cb 0 = some (cbE 1 k, 7) ∧ (cbSt 1 k).waiting 0 = none ∧ (cbSt 1 k).opRaises 0 = []) ∧
    ((cbE 2 .ue).code.bad = true ∧ (cbE 2 .ue).iid ≠ inst1.iid ∧ (cbSt 2 .ue).opRaises 0 = [] ∧ (cbSt 2 .ue).waiting 0 = none) ∧
    (((slotSt (.full 9 .normal)).cluster 0).slotAt 0 = .full 9 .normal ∧ ((slotSt .empty).cluster 0).slotAt 0 = .empty ∧
      (slotSt .empty).waiting 0 = none ∧ (slotSt .empty).opRaises 0 = [] ∧ ((slotSt .pending).cluster 0).slotAt 0 = .pending ∧
      ((slotSt (.full 0 .poisoned)).cluster 0).slotAt 0 = .full 0 .poisoned ∧ RspStatus.poisoned ≠ .normal ∧
      ((slotSt .empty).cluster 0).slotUpd = []) ∧
    (bundleSt.runInst 0 = some { inst1 with bundle := [(true, heldTok0)] } ∧
      [(true, heldTok0)].find? (fun b => decide (b.2.t.port.toNat = m0.xt.toNat % 16)) = some (true, heldTok0)) := by decide

/-- TasksStartSwitchAndEnd. -/
theorem witness_tasks :
    (cellSt 0x38 m0).validPlane 0 ((cellSt 0x38 m0).cluster 0).ctx (posOf ((cellSt 0x38 m0).dirEnt 0).shape 0) 0 = some 0 ∧
    ((cellSt 0x39 m0).runInst 0 = some inst1 ∧ inst1.st = .running ∧ 0 ∈ inst1.clusters ∧ inst1.clusters.Nodup) ∧
    (startSt.inst 1 = some { inst1 with st := .placed } ∧ startSt.canStart { inst1 with st := .placed } = true ∧ startSt.gsr = false ∧
      startSt.halted = false) ∧
    (fld (((cellSt 0 m0).wr MST_TASKLIM 1).rd MST_TASKLIM) 4 0 ≠ 0 ∧ ((cellSt 0 m0).wr MST_TASKLIM 1).inst 1 = some inst1 ∧ inst1.st.open = true) := by decide

/-- AbortReplaysOrResolves: a first abort and a fourth one that is counted. -/
theorem witness_abort : ∀ n, n ∈ [0, 3] → (withInst ctxUp { inst1 with counted := n }).inst 1 = some { inst1 with counted := n } ∧
    ((withInst ctxUp { inst1 with counted := n }).dirEnt inst1.ctx.toNat).replayable = true ∧ inst1.iid = 1 ∧ inst1.st.open = true := by decide

def drainInst : Inst := { inst1 with st := .draining }
def drainSt (e : CbEntry) (ps : List Pkt) : State :=
  { ctxUp with dsp := { Dsp.zero with insts := [drainInst] }, clusters := [(0, { Cluster.zero with cb := [e] })], noc := { Noc.zero with pkts := ps } }
def storeE : CbEntry := ⟨1, .store 0x1000000000 5, 0, true, .clean, some 7⟩
def tokenE : CbEntry := ⟨1, .token .mirror tok0, 0, true, .clean, some 7⟩
/-- A packet of cluster 0, number 7, at the input of its sink. -/
def sinkPkt (w : PktWhat) (d : PortId) : Pkt := ⟨7, mkHdr 5 1 0 (clusterPort 0) d, w, 0, 0, 16, false, .none⟩
def ackPkt : Pkt := ⟨8, mkHdr 3 1 0 (bankPort 0) (clusterPort 0), .ack 0 7 .normal, 0, 0, 4, false, .none⟩
def loadSt (ps : List Pkt) : State :=
  { up with clusters := [(0, { Cluster.zero with slots := [(0, .pending)], rlds := [⟨0, SYS_DEVID, 7⟩] })], noc := { Noc.zero with pkts := ps } }
def storePkt : Pkt := sinkPkt (.entry 0) (bankPort 0)
def tokenPkt : Pkt := sinkPkt (.entry 0) (sinkPort tokenE.what)
def loadPkt : Pkt := sinkPkt (.load 0 0) supvPort
def loadRspPkt : Pkt := ⟨8, Hdr.zero, .loadRsp 0 0 7 3 .normal, 0, 0, 0, false, .none⟩

/-- CommitDrainAndResponses: an instance that has ended, is ending or runs; an entry; a store with its acknowledgement on the way, and one at its target; a token at
the head of its input; a load answered by a packet and by its target, and one held back by a router that freezes. -/
theorem witness_drain :
    ((withInst ctxUp { inst1 with st := .ended }).inst 1 = some { inst1 with st := .ended } ∧ (withInst ctxUp inst1).gsr = false ∧
      (withInst ctxUp { inst1 with st := .ending }).cycleDone inst1.origin = true ∧ ((withInst ctxUp inst1).cluster inst1.origin).run = some 1 ∧
      inst1.st ≠ .ending ∧ inst1.st ≠ .ended) ∧
    ((drainSt storeE []).inst drainInst.iid = some drainInst ∧ drainInst.clusters.Nodup ∧ drainInst.storeErrs = [] ∧ (drainSt storeE []).entriesOf drainInst ≠ []) ∧
    (((drainSt storeE [ackPkt]).entriesOf drainInst).find? (fun p => p.2.isStore && p.2.pid.isSome) = some (0, storeE) ∧ storeE.pid = some 7 ∧
      (drainSt storeE [ackPkt]).ackOf 0 7 = some .normal) ∧
    (let s := drainSt storeE [storePkt]
     s.ackOf 0 7 = none ∧ s.pkt 7 = some storePkt ∧ s.wayOpen storePkt = true ∧ (s.storeServe 0 storeE).2 = some .error ∧ s.committed 1 = true ∧
       storeE ∈ (s.cluster 0).cb) ∧
    (let s := drainSt tokenE [tokenPkt]
     (s.tokensOf drainInst)[0]? = some (0, tokenE) ∧ tokenE.pid = some 7 ∧ s.pkt 7 = some tokenPkt ∧ s.atSink tokenPkt = true ∧
       (s.drainToken 0 drainInst .mirror tok0).2 = true) ∧
    (((loadSt [loadRspPkt]).cluster 0).rlds.find? (fun r => decide (r.slot = 0)) = some ⟨0, SYS_DEVID, 7⟩ ∧ ((loadSt []).cluster 0).slotOf 0 = .pending ∧
      (loadSt [loadRspPkt]).rspOf 0 0 7 = some (3, .normal)) ∧
    (let s := loadSt [loadPkt]
     s.rspOf 0 0 7 = none ∧ s.pkt 7 = some loadPkt ∧ s.wayOpen loadPkt = true ∧ (s.loadServe 0 SYS_DEVID).2 = some (0x40965C11#32, .normal)) ∧
    (let p : Pkt := { loadPkt with inp := 0, ue := .header }
     (loadSt [p]).pkt 7 = some p ∧ (loadSt [p]).wayOpen p = false ∧ (loadSt [p]).rspOf 0 0 7 = none) ∧
    ((loadSt []).cluster 0).slotOf 1 ≠ .pending := by decide +kernel

/-! Matching store, dispatcher, residency -/

/-- An account of one token at priority 0. -/
def resUp (n : Nat) : State := ctxUp.wr (MST_RES 0) (BitVec.ofNat 32 n)
def heldSt : State := { resUp 1 with mst := { Mst.zero with pend := [heldTok0], used := [(0, 1)] } }

/-- TokensAreHeldAndFire: a token that completes its instance, and one of a context with two ports that does not. -/
theorem witness_token_fires :
    (resUp 1).gsr = false ∧ InputsFree (resUp 1) 3 ∧ (resUp 1).ecc.heldPoison = [] ∧ ((resUp 1).dirEnt tok0.ctx.toNat).valid = true ∧ ((resUp 1).dirEnt tok0.ctx.toNat).declares tok0.port.toNat = true ∧
    (∀ h, h ∈ (resUp 1).mst.pend → sameInst h.t tok0 = true → h.t.port ≠ tok0.port) ∧ (resUp 1).usedP 0 < (resUp 1).resP 0 ∧
    ({ resUp 1 with mst := { (resUp 1).mst with pend := [heldTok0] } } : State).complete tok0 = true ∧
    ({ resUp 1 with res := { (resUp 1).res with dir := [(5, ⟨0x82000003#32, 0⟩)] }, mst := { (resUp 1).mst with pend := [heldTok0] } } : State).complete tok0 = false ∧
    (∀ k, k ∈ pendKeys [heldTok0] → sameInst k tok0 = true) ∧ heldTok0.code = .clean := by
  unfold InputsFree; decide

/-- TokensAreRefusedOrControl. -/
theorem witness_token_refused :
    State.reset.gsr = true ∧ (up.gsr = false ∧ (up.dirEnt 5).valid = false) ∧ (ctxUp.dirEnt 5).declares 1 = false ∧
    (heldTok0 ∈ heldSt.mst.pend ∧ sameInst heldTok0.t tok0 = true) ∧
    (∀ h, h ∈ heldSt.mst.pend → sameInst h.t { tok0 with inst := 1 } = true → h.t.port ≠ tok0.port) ∧ heldSt.resP 0 ≤ heldSt.usedP 0 ∧
    (heldSt.wr MST_CRES 0).cres ≤ heldSt.mst.crUsed ∧
    ({ ctxUp with mst := { Mst.zero with sticky := [heldTok0] } } : State).mst.sticky.find? (fun h => sameSticky h.t tok0) = some heldTok0 ∧
    heldSt.mst.pend.filter (fun h => sameInst h.t tok0) = [heldTok0] ∧ fld (5 : Word) 20 0 + up.sumRes ≤ mstSlots ∧
    mstSlots < fld (0x1FFFFF#32 : Word) 20 0 + up.sumRes ∧ 8 ≤ 8 := by decide

/-- A retained error token whose queue takes it. -/
def holdSt : State := { up with mst := { Mst.zero with hold := [⟨tok0, 3, false, false, false⟩] } }

def readySt : State := { ctxUp with dsp := { Dsp.zero with insts := [{ inst1 with st := .ready, clusters := [] }] } }

/-- DispatcherPlacesTheBestCandidate: one ready instance and a candidate; nothing ready. -/
theorem witness_dispatch :
    (ctxUp.gsr = false ∧ ctxUp.halted = false ∧ ctxUp.readyList = []) ∧
    readySt.readyList = [{ inst1 with st := .ready, clusters := [] }] ∧ readySt.ctxSt 5 ≠ .unavailable ∧
    readySt.orderCheck { inst1 with st := .ready, clusters := [] } = none ∧ readySt.dsp.claims.find? (fun k => decide (k.iid = 1)) = none ∧
    (legalOrigin 0 0 = true ∧ (∀ c, c ∈ placement 0 0 → readySt.idleFor 1 c = true) ∧ readySt.oppEqual 0 0 = true ∧
      readySt.budgetOk { inst1 with st := .ready, clusters := [] } 0 (placement 0 0) = true ∧ readySt.tier 5 (placement 0 0) ≤ 3) := by decide

/-- A request for context 5 in cluster 0, waiting, and one in flight. -/
def fill0 : FillReq := ⟨0, 0, 0, 0, 0, 5, 0, 0, some 1, false, [1], 1⟩
def fillSt : State := { up with res := { Res.zero with dir := [(5, ent5)], reqs := [fill0], planes := [(0, { Plane.zero with resv := some 1 })] } }
def flightSt (p : SMap Word) : State := { up with res := { Res.zero with dir := [(5, ent5)], flight := [fill0], store := [(storeKey 0 5 0, p)] } }

/-- FillsAreGrantedInOrder: a grantable request, a stored plane with a wrong CRC, one with a bad row. -/
theorem witness_fills :
    (((fillSt.pinScan 0).res.flight.filter (fun r => decide (busOf r.cluster = 0))).length < 2 ∧ (fillSt.pinScan 0).firstFill 0 = some fill0) ∧
    ((flightSt []).res.flight.find? (fun r => decide (busOf r.cluster = 0)) = some fill0 ∧ (flightSt []).badRow (flightSt []).slot 5 0 = none ∧ fill0.again = false ∧
      (flightSt []).canReceive 0 = true ∧ (flightSt []).ctxSt 5 = .available ∧ up.firstFill 0 = none) ∧
    (({ flightSt [] with res := { (flightSt []).res with rowMark := [(planeRow 5 0 + 3, .ue)] } } : State).badRow (flightSt []).slot 5 0 = some (planeRow 5 0 + 3)) := by decide

set_option maxRecDepth 100000 in
/-- A plane of zeros does not pass its CRC. -/
theorem witness_plane_crc_wrong : planeCrcOk [] = false := by decide +kernel

/-- AgesRestoresAndSweeps: a restore at the head of its queue that meets an unreadable flash; a cluster at rest. -/
theorem witness_restore :
    (({ fillSt with res := { fillSt.res with restoreQ := [5], ctxSt := [(5, .restoring)] } } : State).res.restoreQ.head? = some 5 ∧
      ({ fillSt with res := { fillSt.res with restoreQ := [5], ctxSt := [(5, .restoring)] } } : State).ctxSt 5 = .restoring ∧ up.flt.supvUp = true ∧
      up.pins.vppLost = false) ∧
    (up.cluster 0).run = none ∧ (ctxUp.plane 0 0).resv = none ∧ (ctxUp.plane 0 0).st = .valid := by decide

/-- PinsAreSetAndReleased: the conditions hold for context 5 at cluster 0, and fail for a context that is not valid. -/
theorem witness_pins :
    (let ctx : BitVec 12 := (5 : Word).extractLsb' 0 12
     (ctxUp.dirEnt ctx.toNat).valid = true ∧ ctxUp.ctxSt ctx.toNat ≠ .unavailable ∧ ((5 : Word).extractLsb' 16 4).toNat = posOf (ctxUp.dirEnt ctx.toNat).shape 0 ∧
       (ctxUp.dirEnt ctx.toNat).planes + (if (ctxUp.pin 0 1).en then (ctxUp.dirEnt (ctxUp.pin 0 1).ctx.toNat).planes else 0) ≤ 2 ∧
       ¬((ctxUp.pin 0 1).ctx = ctx ∧ (ctxUp.pin 0 1).pos = ((5 : Word).extractLsb' 16 4).toNat) ∧ ctxUp.fenced 0 = false) ∧
    (up.dirEnt 5).valid = false ∧ 1024 ≤ 1024 := by decide

/-! Queues -/

/-- Queue 3: enabled, a ring of one unit at the Garnet base, one entry. -/
def q3 : QRec := { QRec.zero with base := 0x1100000#36, en := true, limit := 255, depth := 1, cons := 3 }
def queueSt (r : QRec) : State := { up with flow := { Flow.zero with recs := [(3, r)] } }

/-- QueuesAcceptAndServe: a queue that is disabled, one that takes a token, one whose head is for the matching store. -/
theorem witness_queues :
    InputsFree up 4 ∧ InputsFree (queueSt q3) 4 ∧ tok0.kind ≠ .error ∧ q3.code = .clean ∧ (queueSt q3).servedBefore 3 < 16 ∧
    (queueSt q3).sinkBusy (mstPort 0) = false ∧ (up.qrec 3).en = false ∧ ((queueSt q3).qrec 3).en = true ∧ ((queueSt q3).qrec 3).atLimit = false ∧
    ((queueSt q3).memWrite .agent (q3.entry q3.depth) (natBytes 16 (tokenNat tok0))).2.1 = .ok ∧
    ((queueSt q3).qrec 3).cons = 3 ∧ 0 < ((queueSt q3).qrec 3).depth ∧ ((queueSt q3).memRead .agent (q3.entry 0) 16).2.1 = .ok ∧
    (tokenOf (bytesNat ((queueSt q3).memRead .agent (q3.entry 0) 16).2.2)).kind ≠ .error := by
  unfold InputsFree; decide +kernel

/-- FlowRegistersReachQueues: a write that moves the ring of an enabled queue and one that moves nothing; a host's queue with an entry, one that is not a host's; a jump
of NEXT that is too far; reports waiting and none. -/
theorem witness_flow_registers :
    ((queueSt { q3 with log2sz := 1 }).sel .pcie FLOW_QSEL = 0 ∧ (up.qrec 0).en = false) ∧
    (((queueSt q3).setSel .pcie FLOW_QSEL 3).sel .pcie FLOW_QSEL = 3 ∧ (1 : BitVec 36) ≠ (((queueSt q3).setSel .pcie FLOW_QSEL 3).qrec 3).base ∧
      (((queueSt q3).setSel .pcie FLOW_QSEL 3).qrec 3).en = true) ∧
    (((queueSt { q3 with cons := 0 }).qrec 3).cons = 0 ∧ ((queueSt { q3 with cons := 0 }).qPop 3 2).2.isSome = true) ∧ ((queueSt q3).qrec 3).cons ≠ 0 ∧
    (23 < ((0xF8#32 : Word).extractLsb' 3 5).toNat) ∧ (((0x100#32 : Word).extractLsb' 8 24 : BitVec 24) - (up.order 0).next).toNat ≤ 2 ^ (up.order 0).winlog.toNat ∧
    up.flow.wmq = [] ∧ ({ up with flow := { Flow.zero with wmq := [3] } } : State).flow.wmq = [3] := by decide +kernel

/-! Network -/

/-- A packet at node 0 of the Mica network for node 1. -/
def hdr0 : Hdr := { Hdr.zero with dnet := 2, dx := 1, snet := 2 }
def pkt0 : Pkt := ⟨1, hdr0, .load 0 0, 2, 0, 4, false, .none⟩
def netSt : State := { up with noc := { Noc.zero with pkts := [pkt0] } }
def keptSt : State := { up with noc := { Noc.zero with kept := [⟨pkt0, true, false⟩] } }

/-- PacketsTakeTheirRoute: a packet alone in the network, that requests an output and wins it; a bounced one. -/
theorem witness_packets :
    (nodeOk 2 0 = true ∧ winner (smGet 0 netSt.noc.lastWin (16 * routerKey 2 0 + 0)) ((netSt.requests 2 0 0).filter (fun x => netSt.hopOpen 2 0 0 x.2)) = some (14, pkt0)) ∧
    (netSt.noc.pkts = [pkt0] ∧ netSt.noc.kept = [] ∧ pkt0.inj = false ∧ pkt0.inp < 16 ∧ pkt0.h.flits ≤ 6 ∧ nodeOk pkt0.net pkt0.node = true ∧ netSt.pins.ioRst = false ∧
      nextOut pkt0.h pkt0.net pkt0.node < 16 ∧ nextHop pkt0.h pkt0.net pkt0.node (nextOut pkt0.h pkt0.net pkt0.node) = some (2, 1, 1) ∧ netSt.freezing 2 1 = false ∧
      netSt.portSt pkt0.h.dst = .ready) ∧
    (hdr0.dnet.toNat = 2 ∧ |(nodeX 2 0 : Int) - hdr0.dx.toNat| + |(nodeY 2 0 : Int) - hdr0.dy.toNat| ≠ 0 ∧
      |(nodeX 2 1 : Int) - hdr0.dx.toNat| + |(nodeY 2 1 : Int) - hdr0.dy.toNat| = 0) ∧
    (netSt.pkt 1 = some pkt0 ∧ (∃ x, x ∈ netSt.requests pkt0.net pkt0.node (nextOut pkt0.h pkt0.net pkt0.node) ∧ x.2.pid = 1) ∧ netSt.ageing 2 0 = true ∧
      (netSt.hop 2 0 0 pkt0).stays pkt0 = false ∧ ∀ x, x ∈ netSt.requests 2 0 1 → netSt.hopOpen 2 0 1 x.2 = false) ∧
    (keptSt.noc.kept.find? (fun k => decide (k.p.pid = 1)) = some ⟨pkt0, true, false⟩ ∧ keptSt.firstBack pkt0.h.src = some ⟨pkt0, true, false⟩) := by decide

/-- Port 0 of Mica router 0, in the state given, selected by PCIe. -/
def portIn (x : PortSt) : State := ({ up with noc := { Noc.zero with port := [(portKey ⟨2, 0, 0⟩, x)] } } : State).setSel .pcie NOC_RSEL 0x200#32

/-- PortsAndRoutersChangeState: each port state, a port of a cluster, of a scratchpad bank and of no domain; a router that runs, freezes, is frozen, or does not exist. -/
theorem witness_ports :
    (portOk (up.psel .pcie) = true ∧ up.portSt (up.psel .pcie) = .ready) ∧
    (portOk ((portIn .drained).psel .pcie) = true ∧ (portIn .drained).portSt ((portIn .drained).psel .pcie) = .drained ∧ portDom ((portIn .drained).psel .pcie) = none) ∧
    (portOk ⟨2, 0, 0⟩ = true ∧ (portIn .drain).portSt ⟨2, 0, 0⟩ = .drain ∧ (portIn .drain).portEmpty ⟨2, 0, 0⟩ = true) ∧
    ((portIn .off).portSt ⟨2, 0, 0⟩ = .off ∧ (portIn .waking).portSt ⟨2, 0, 0⟩ = .waking ∧ portDom ⟨2, 0, 0⟩ = none) ∧
    (portOk ⟨2, 0, 2⟩ = true ∧ portDom ⟨2, 0, 2⟩ = some 1280 ∧ portOk ⟨0, 0, 0⟩ = true ∧ portDom ⟨0, 0, 0⟩ = some 0 ∧ portOk ⟨2, 0, 7⟩ = false) ∧
    (up.rsel .pcie = (0, 0) ∧ nodeOk 0 0 = true ∧ nodeOk 3 127 = false) ∧
    (({ up with noc := { Noc.zero with freeze := [(routerKey 0 0, true)] } } : State).freezing 0 0 = true ∧ up.noc.pkts = [] ∧
      smGet false ({ up with noc := { Noc.zero with frozen := [(routerKey 0 0, true)] } } : State).noc.frozen (routerKey 0 0) = true ∧
      4 ≤ fld (4 : Word) 3 0 ∧ fld (12 : Word) 3 0 ≤ 12 ∧ 12 < fld (13 : Word) 3 0 ∧ fld (3 : Word) 3 0 < 4) := by decide +kernel

/-! Registers -/

/-- RegisterAccessesAreAnswered: a plain register, a device that gives no answer, the window of a sleeping cluster, an offset that no register
occupies, an address of nothing. -/
theorem witness_register_access :
    (Reaches up .pcie DSP_CTRL ∧ up.ioBlock DSP_CTRL = false ∧ inBlocks DSP_CTRL = true ∧ inWindows DSP_CTRL = false ∧ blockOf DSP_CTRL = 9 ∧ regPair DSP_CTRL = none ∧
      (regDesc DSP_CTRL).isSome = true) ∧
    State.reset.accessGate .pcie DSP_CTRL = some .none ∧ (up.accessGate .pcie (DSP_CTRL + 1) = none ∧ isMem (DSP_CTRL + 1) = false ∧ (DSP_CTRL + 1) % 4 ≠ 0) ∧
    (let s : State := { up with pwr := { Pwr.zero with dom := [(0, .stratus)] } }
     s.accessGate .pcie (CLW_CTRL 0) = none ∧ isMem (CLW_CTRL 0) = false ∧ CLW_CTRL 0 % 4 = 0 ∧ s.windowDark .pcie (CLW_CTRL 0) = true) ∧
    (Reaches up .pcie (DSP_CTRL + 0x80000) ∧ regDesc (DSP_CTRL + 0x80000) = none ∧ regPair (DSP_CTRL + 0x80000) = none ∧ blockOf (DSP_CTRL + 0x80000) ≠ 6) ∧
    (up.flt.supvUp = true ∧ inBlocks 0x3000000000 = false ∧ inWindows 0x3000000000 = false ∧ isMem 0x3000000000 = false) := by
  unfold Reaches; decide

/-- PairsAreReadAndWrittenWhole: the pair ECC_SBASE, its low half staged or not; the memory data of cluster 0. -/
theorem witness_pairs :
    (Reaches up .hp ECC_SBASE_LO ∧ inWindows ECC_SBASE_LO = false ∧ regPair ECC_SBASE_LO = some (ECC_SBASE_LO, false) ∧ blockOf ECC_SBASE_LO ≠ 6 ∧
      up.ioBlock ECC_SBASE_LO = false) ∧
    (Reaches up .hp (ECC_SBASE_LO + 4) ∧ regPair (ECC_SBASE_LO + 4) = some (ECC_SBASE_LO, true) ∧ up.ioBlock (ECC_SBASE_LO + 4) = false ∧
      blockOf (ECC_SBASE_LO + 4) ≠ 6 ∧ blockOf ECC_SBASE_LO ≠ 22) ∧
    (smGet (0, 0) ({ up with ifc := { Ifc.zero with stage := [(ifCode .hp, (ECC_SBASE_LO + 1, 7))] } } : State).ifc.stage (ifCode .hp)).1 = ECC_SBASE_LO + 1 ∧
    (smGet (0, 0) up.ifc.stage (ifCode .hp)).1 ≠ ECC_SBASE_LO + 1 ∧
    (Reaches up .smb (CLW_MDATA_LO 0) ∧ (up.cluster 0).memLost = false ∧
      ((up.cluster 0).markAt 0).bad = false ∧
      (((memSt .ue).cluster 0).markAt 0).bad = true) := by
  unfold Reaches; decide +kernel

/-! Memories -/

/-- External memory: one region of 1 MiB at address 0; the line at address 0 is cached, or is not. -/
def reg0 : Region := { Region.zero with valid := true, dsize := 1, psize := 1, st := .active }
def dramUp : State := { up with ddr := { Ddr.zero with ready := true, regions := [(0, reg0)], scr := [] } }
def lineSt (d : BitVec 4) : State := { dramUp with cache := { Cache.zero with lines := [(0, ⟨0, 0, 15, d⟩)] } }
def waitSt : State := { dramUp with cache := { Cache.zero with waiting := [req0] } }
def wr0 : MemReq := ⟨.pcie, 0, 4, true, [some 1, some 2, some 3, some 4]⟩

/-- CacheServesRequests: a hit for a read and a write, a miss, an address of no memory, the scratch-lock window of a way that is not locked, a fetch that serves. -/
theorem witness_cache :
    (MemReq.wf req0 = true ∧ isExternal req0.addr = true ∧ (lineSt 0).extAbsent 0 = false ∧ (lineSt 0).extWaits 0 = false ∧ (lineSt 0).lineWaits req0 = false ∧
      (lineSt 0).sliceBypass (cSlice 0) = false ∧ req0.write = false ∧ (lineSt 0).cFind 0 = some 0 ∧ (∀ sec, sec ∈ reqSectors req0 → (lineSt 0).sectorValid sec = true) ∧
      (lineSt 0).ecc.merge = [] ∧ (lineSt 0).cache.marks = []) ∧
    (MemReq.wf wr0 = true ∧ wr0.write = true ∧ (lineSt 0).lineWaits wr0 = false ∧ ∀ sec, sec ∈ reqSectors wr0 → (lineSt 0).sectorValid sec = true) ∧
    (dramUp.extAbsent 0 = false ∧ dramUp.sliceBypass (cSlice 0) = false ∧ ∃ sec, sec ∈ reqSectors req0 ∧ dramUp.mustFetch req0 sec = true) ∧
    (isLockWin 0 = false ∧ up.extAbsent 0 = true ∧ MemReq.wf { req0 with len := 0 } = false) ∧
    (isLockWin 0x1200000000 = true ∧ up.cache.trans = [] ∧ up.ecc.march = none ∧ (up.lockMask 0).getLsbD 0 = false) ∧
    ((lineSt 0).lockedNow 0).getLsbD 0 = false ∧
    (waitSt.cache.waiting = [req0] ∧ req0.len ≤ 64 - 0 % 64 ∧ waitSt.mustFetch req0 (0 / 64 * 64) = true ∧ waitSt.extWaits 0 = false ∧
      waitSt.sliceBypass (cSlice 0) = false ∧ waitSt.pins.ioRst = false ∧ waitSt.ddrReach 0 = true ∧ waitSt.cFind 0 = none ∧ (waitSt.cAlloc 0).2 = some 0 ∧
      waitSt.needsSector 0 req0 = true ∧
      (let v := (waitSt.cAlloc 0).1.sectorFetch 0 0
       v.extWaits 0 = false ∧ v.sectorValid 0 = true ∧ v.cache.waiting = [req0] ∧ (v.serveLine req0).2.1 ≠ .waits)) ∧
    ({ waitSt with pins := { Pins.zero with ioRst := true } } : State).needsSector 0 req0 = true ∧
    ({ waitSt with pwr := { Pwr.zero with dclkBad := true } } : State).ddrReach 0 = false := by
  decide +kernel

/-- CacheMaintenance: no transition and one that runs over clean lines; no operation and one that runs with nothing dirty. -/
theorem witness_cache_maintenance :
    (smFind up.cache.trans (up.ssel .pcie) = none ∧
      smFind ({ up with cache := { Cache.zero with trans := [(0, 1)] } } : State).cache.trans 0 = some 1) ∧
    (∀ w set, w < 15 → set < 256 → (up.cline (lineKey 0 w set)).d = 0) ∧
    (up.cache.mop = none ∧ fld (0x10#32 : Word) 5 4 ≠ 3) ∧
    (let m : Mop := ⟨1, 0, 0, 0, 0⟩
     let s : State := { lineSt 0 with cache := { (lineSt 0).cache with mop := some m } }
     s.cache.mop = some m ∧ m.op ≠ 2 ∧ smSorted s.cache.lines = true ∧ ∀ e, e ∈ s.cache.lines → e.2.d = 0) := by
  refine ⟨by decide, fun w set _ _ => rfl, by decide, by decide⟩

/-- Scratchpad bank 0 owned by PCIe. -/
def spadUp : State := up.wr (SPAD_BANK 0) 0x80#32
def spadReq (w : Bool) : MemReq := ⟨.pcie, 0x1000000000, 8, w, (List.replicate 8 (some 1))⟩
def aliasReq : MemReq := ⟨.pcie, 0x1004000000, 8, true, (List.replicate 8 (some 1))⟩
def mergeSt : State := { up with ecc := { Ecc.zero with merge := [⟨unitSpad 0, 0x1000000000, [some 1, none, none, none, none, none, none, none]⟩] } }

/-- ScratchpadAndMergedWords: the owner, another master, a bank that sleeps; an alias; a good and a bad owner code; a merged word; a correction. -/
theorem witness_scratchpad :
    (MemReq.wf (spadReq true) = true ∧ MemReq.wf (spadReq false) = true ∧ isSpadPlain 0x1000000000 = true ∧ spadUp.retiredPage 1 0 = false ∧
      spadUp.retiredUnit (unitSpad 0) = false ∧ spadUp.dom (domBank 0) = .on ∧ spadUp.marching (unitSpad 0) = false ∧
      spadAllowed (spadUp.rd (SPAD_BANK 0)) .pcie true = true ∧ spadAllowed (spadUp.rd (SPAD_BANK 0)) .pcie false = true ∧
      spadAllowed (up.rd (SPAD_BANK 0)) .pcie true = false ∧ spadUp.ecc.merge = [] ∧ spadUp.spad.marks = [] ∧ spadUp.ecc.heldPoison = []) ∧
    ({ up with pwr := { Pwr.zero with dom := [(domBank 0, .off)] } } : State).dom (domBank 0) ≠ .on ∧
    (tb (spadUp.rd SPAD_STATUS) 0 = false ∧ tb ((spadUp.setBits SPAD_STATUS 1).rd SPAD_STATUS) 0 = true) ∧
    (masterCode .pcie = some 0x80 ∧ fld (0x80#32 : Word) 7 0 = 0x80 ∧ fld (0x140#32 : Word) 7 0 ≠ 0x80) ∧
    (MemReq.wf aliasReq = true ∧ aliasReq.bytes = (List.replicate 8 (1 : Byte)).map some ∧ aliasReq.len = 8 ∧ aliasReq.addr = 0x1000000000 + 1 * 0x4000000 + 0) ∧
    (ownerOk (fld (0x80#32 : Word) 7 0) = true ∧ ownerOk (fld (0xA0#32 : Word) 7 0) = false) ∧
    (up.wLoc 0x1000000000 = mergeSt.wLoc (0x1000000000 / 8 * 8) ∧ (up.wLoc 0x1000000000).isSome = true) ∧
    (mergeSt.ecc.merge = [⟨unitSpad 0, 0x1000000000 / 8 * 8, [some 1, none, none, none, none, none, none, none]⟩]) ∧
    (let e : CeBack := ⟨unitSpad 0, 0x1000000000⟩
     e.unit / 0x1000 < 7 ∧ ({ up with ecc := { Ecc.zero with ceBack := [e] } } : State).ecc.ceBack = [e] ∧ (up.wLoc e.addr).isSome = true ∧ up.ecc.ceBack = []) := by decide

/-- A row of sector 0 in the write buffer. -/
def garnetSt : State := { up with garnet := { Garnet.zero with wbuf := [⟨0, List.replicate 64 1, false⟩] } }
def garnetReq : MemReq := ⟨.pcie, 0x1100000000, 8, true, (List.replicate 8 (some 1))⟩

/-- GarnetKeepsItsRows: a write and a read of a row, a row to write out with a spare and without one, a fence that waits and one that is done. -/
theorem witness_garnet :
    (MemReq.wf garnetReq = true ∧ isGarnet garnetReq.addr = true ∧ garnetOff garnetReq.addr % 64 + garnetReq.len ≤ 64 ∧ up.retiredPage 2 0 = false ∧
      inStrataRegion 0 = false ∧ up.dom (domSector (garnetSector 0)) = .on ∧ up.garnetShut = false ∧ smGet false up.garnet.dead 0 = false ∧
      (up.sectorRows (garnetSector 0)).length < 64 ∧ up.garnetQueued garnetReq = false ∧ up.garnet.waiting = []) ∧
    (let w : State := { up with garnet := { Garnet.zero with waiting := [garnetReq] } }
     w.garnetQueued garnetReq = true) ∧
    ({ up with garnet := { Garnet.zero with pf := true } } : State).garnetShut = true ∧
    (garnetSt.sectorRows 0 = [⟨0, List.replicate 64 1, false⟩] ∧ garnetSt.res.spare = 0 ∧ up.sectorRows 0 = []) ∧
    (Reaches up .pcie GARNET_FENCE) ∧
    (({ garnetSt with garnet := { garnetSt.garnet with fences := [⟨.pcie, []⟩] } } : State).garnet.fences = [⟨.pcie, []⟩] ∧ ∀ c, Iface.pcie ≠ .fabric c) ∧
    (let s := drainSt { storeE with what := .store GARNET_FENCE 1 } []
     s.fenceEntry 0 = some { storeE with what := .store GARNET_FENCE 1 }) ∧
    (∀ f, f ∈ up.garnet.fences → f.rows ≠ []) ∧ up.pins.vppLost = false ∧ up.pins.pwrFail = false ∧
    ((∀ x, x ∈ garnetSt.garnet.wbuf → x.bytes.length = 64) ∧ (garnetSt.garnet.wbuf.map (fun x => x.row)).Nodup) := by
  unfold Reaches
  refine ⟨by decide, by decide, by decide, by decide, by decide, ⟨rfl, by intro c h; cases h⟩, by decide, by decide, by decide, by decide, by decide⟩

/-! Integrity, external memory, keys, faults -/

def scrubSt : State := { up with ecc := { Ecc.zero with scrub := some ⟨0x1000000000, 0x1000000080, false, []⟩ } }
def retireAuto : State := { up with ecc := { Ecc.zero with retire := [(0, ⟨true, true, 1, 0⟩)] } }
def marchSt (u n : Nat) : State := { up with ecc := { Ecc.zero with march := some (1, u), spares := [(u, List.range n)] } }

/-- ScrubMarchAndRetirement: a legal and an illegal range; a pass over the scratchpad; an automatic retirement entry and a page that can be retired; a march that is
accepted, one of kind 2, one that finds a failing word with a spare left and with none. -/
theorem witness_scrub :
    ((((up.wr64 ECC_SBASE_LO 0x1000000000).wr64 ECC_SLEN_LO 64).ecc.scrub = none) ∧
      (let s := (up.wr64 ECC_SBASE_LO 0x1000000000).wr64 ECC_SLEN_LO 64
       s.scrubRange (s.rd64 ECC_SBASE_LO) (s.rd64 ECC_SBASE_LO + s.rd64 ECC_SLEN_LO) = true)) ∧
    (up.scrubRange (up.rd64 ECC_SBASE_LO) (up.rd64 ECC_SBASE_LO + up.rd64 ECC_SLEN_LO) = false) ∧
    (scrubSt.ecc.scrub = some ⟨0x1000000000, 0x1000000080, false, []⟩ ∧ isSpadPlain 0x1000000000 = true ∧ scrubSt.ecc.merge = [] ∧ scrubSt.retiredPage 1 0 = false ∧
      scrubSt.retiredUnit (unitSpad 0) = false ∧ scrubSt.dom (domBank 0) = .on) ∧
    (up.flt.supvUp = true ∧ up.retiredPage 1 ((127 * 2 ^ 16 + 65535) / 512) = false ∧ up.retiredUnit (unitSpad 127) = false ∧ up.dom (domBank 127) = .on) ∧
    ({ up with flt := { Flt.zero with supvUp := false } } : State).flt.supvUp = false ∧
    ((smGet Retire.zero retireAuto.ecc.retire (retireAuto.rtsel .pcie)).auto = true) ∧
    ((smGet Retire.zero up.ecc.retire (up.rtsel .pcie)).auto = false ∧ up.retireOk (fld (0x90000001#32 : Word) 29 28) (fld (0x90000001#32 : Word) 23 0) = true ∧ up.cache.lines = []) ∧
    (up.marchOk (0x41000#32 ||| 0x80000000#32) = true ∧ fld (0x41000#32 : Word) 15 12 ≠ 0 ∧ up.marchOk (0x42000#32 ||| 0x80000000#32) = false) ∧
    ((marchSt 0x1000 0).ecc.march = some (1, 0x1000) ∧ (marchSt 0x1000 0).marchReady 0x1000 = true ∧ 0x1000 ∈ marchUnits 0x1000 ∧
      (smGet [] (marchSt 0x1000 0).ecc.spares 0x1000).length < 16) ∧
    (0 ∈ marchUnits 0 ∧ (0 : Nat) < 256 ∧ (marchSt 0 16).marchReady 0 = true ∧ 16 ≤ (smGet [] (marchSt 0 16).ecc.spares 0).length) ∧
    (unitSlate 0 0 / 0x1000 = 8 ∧ up.marching (unitSlate 0 0) = false ∧ (1 : Nat) / 0x1000 ≠ 8 ∧ scrubSt.ecc.march = none ∧ scrubSt.ecc.heldPoison = [] ∧
      ∀ e, e ∈ up.ecc.merge → e.unit ∉ marchUnits 0x1000) := by decide +kernel

def codes0 : List (BitVec 3 × BitVec 3) := List.replicate 16 (7, 1)
def ddrSt (s : RegSt) (p : BitVec 2) (k : BitVec 6) (kids : SMap KidSt) : State :=
  { up with ddr := { Ddr.zero with ready := true, kids := kids, regions := [(0, { reg0 with st := s, prot := p, kid := k })] } }
def rentSt : State := (up.setSel .pcie (DDR_RENT 1) 0x10000#32)

/-- ExternalMemoryAndRegions. -/
theorem witness_ddr :
    (up.ddr.training = false ∧ ({ up with ddr := { Ddr.zero with training := true } } : State).ddr.training = true ∧ up.ddr.ready = false) ∧
    (dramUp.ddr.ready = true ∧ codes0.length = 16 ∧ ∃ e, e ∈ codes0 ∧ e.1 = 7) ∧
    ((dramUp.wr DDR_LPCFG 0x10001#32).ddr.ready = true ∧ fld ((dramUp.wr DDR_LPCFG 0x10001#32).rd DDR_LPCFG) 15 0 ≠ 0 ∧
      fld ((dramUp.wr DDR_LPCFG 0x10001#32).rd DDR_LPCFG) 31 16 ≠ 0 ∧ smGet 0 (dramUp.wr DDR_LPCFG 0x10001#32).ddr.pdown 15 ≠ 2) ∧
    (fld ((dramUp.wr DDR_LPCFG 0).rd DDR_LPCFG) 15 0 = 0 ∧ fld ((dramUp.wr DDR_LPCFG 0).rd DDR_LPCFG) 31 16 = 0) ∧
    (let x := regionOfWords 0x80000000#32 (rentSt.sel .pcie (DDR_RENT 1)) (rentSt.sel .pcie (DDR_RENT 2)) .off
     rentSt.regionOk 0 x = true ∧ x.valid = true ∧ (rentSt.rpol 0).getLsbD x.prot.toNat = true ∧ (rentSt.region 0).valid = false) ∧
    (up.regionOk 0 (regionOfWords 0xB0000000#32 0 0 .off) = false) ∧
    (let x := regionOfWords 0 (((ddrSt .active 0 0 []).setSel .pcie (DDR_RENT 1) 0x10000#32).sel .pcie (DDR_RENT 1)) 0 .off
     (ddrSt .active 0 0 []).regionOk 0 x = true ∧ x.valid = false ∧ ((ddrSt .active 0 0 []).region 0).valid = true ∧ (ddrSt .active 0 0 []).cache.lines = []) ∧
    (let s : State := { rentSt with sec := { Sec.zero with rpol := [(0, 2)] } }
     let x := regionOfWords 0x80000000#32 (s.sel .pcie (DDR_RENT 1)) 0 .off
     s.regionOk 0 x = true ∧ (s.rpol 0).getLsbD x.prot.toNat = false ∧ s.sec.sess.st ≠ .granted) ∧
    ((ddrSt .initializing 0 0 []).region 0).st = .initializing ∧ ((ddrSt .active 0 0 []).region 0).st ≠ .initializing := by decide +kernel

def kids1 (x : KidSt) : SMap KidSt := [(1, x)]
def kidsFull : SMap KidSt := (List.range 64).map (fun j => (j, .active 0))
def rekeySt : State := { ddrSt .rekeying 1 1 (kids1 (.active 0)) with ddr := { (ddrSt .rekeying 1 1 (kids1 (.active 0))).ddr with rekey := some ⟨0, 2, 0⟩ } }

theorem kidsFull_none_free : ∀ j, j < 64 → smGet KidSt.free kidsFull j ≠ .free := by decide

/-- KeysAreDrawnAndRetired. -/
theorem witness_keys :
    (smGet KidSt.free up.ddr.kids 1 = .free ∧ ∀ j, 1 ≤ j → j < 1 → smGet KidSt.free up.ddr.kids j ≠ .free) ∧
    (∀ j, 1 ≤ j → j ≤ 63 → smGet KidSt.free kidsFull j ≠ .free) ∧
    (fld (1 : Word) 5 0 ≠ 0 ∧ smGet KidSt.free (kids1 (.active 0)) (fld (1 : Word) 5 0) = .active 0 ∧
      ({ up with ddr := { Ddr.zero with kids := kids1 (.active 0) } } : State).kidUsed 1 = false ∧ up.kidActive 1 = false ∧ fld (0 : Word) 5 0 = 0) ∧
    (smGet KidSt.free (kids1 (.draining 0)) 1 = .draining 0 ∧ ∀ e, e ∈ up.cache.lines → e.2.v = 0 ∨ e.2.kid.toNat ≠ 1) ∧ (∀ d, smGet KidSt.free up.ddr.kids 1 ≠ .draining d) ∧
    (let s := ddrSt .active 1 1 (kids1 (.active 0))
     s.ddr.rekey = none ∧ (s.region 0).valid = true ∧ (s.region 0).prot ≠ 0 ∧ (s.region 0).st = .active ∧ smGet KidSt.free s.ddr.kids 2 = .free ∧
       (∀ j, 1 ≤ j → j < 2 → smGet KidSt.free s.ddr.kids j ≠ .free) ∧ (up.region 0).valid = false) ∧
    (rekeySt.ddr.rekey = some ⟨0, 2, 0⟩ ∧ rekeySt.pins.ioRst = false ∧ (0 : Nat) < (rekeySt.region 0).pages ∧ smSorted rekeySt.ddr.regions = true ∧ (2 : BitVec 6) ≠ (rekeySt.region 0).kid ∧
      smGet KidSt.free rekeySt.ddr.kids (rekeySt.region 0).kid.toNat = .active 0 ∧ ∀ e, e ∈ rekeySt.ddr.regions → e.2.kid = (rekeySt.region 0).kid → e.1 = 0) ∧
    (let s := ddrSt .active 1 1 (kids1 (.active 0))
     0 ∈ ({ s with ddr := { s.ddr with retry := [0] } } : State).ddr.retry ∧ 0 ∉ up.ddr.retry ∧
       (up.region 0).valid = false ∧ ({ up with ddr := { Ddr.zero with retry := [0] } } : State).ddr.rekey = none) := by
  refine ⟨⟨rfl, fun j h1 h2 => by omega⟩, fun j h1 h2 => kidsFull_none_free j (by omega), by decide, by decide, ?_, ?_, by decide, by decide⟩
  · intro d h; cases h
  · refine ⟨rfl, by decide, by decide, by decide, by decide, ?_, by decide⟩
    intro j h1 h2
    have : j = 1 := by omega
    subst this; decide

/-- FaultsAreInjectedAndCorrected: an injection that is refused, armed only, into a plane and into a cell; a cluster at rest; a reset that runs. -/
theorem witness_faults :
    (tb (0x80000000#32 : Word) 31 = true ∧ up.injOk 0x80000000#32 = false ∧ tb (0 : Word) 31 = false) ∧
    (ctxUp.injOk 0x80000000#32 = true ∧ tb (0x80000000#32 : Word) 30 = false ∧ up.injOk 0xC0000000#32 = true ∧ tb (0xC0000000#32 : Word) 30 = true) ∧
    (up.flt.supvUp = true ∧ up.partOn (2 * 0 + 0 / 65536 % 2) = false) ∧
    (let s : State := { up with flint := { Flint.zero with t0 := { Tile.zero with mode := 2 } } }
     s.partOn (2 * 0 + 0 / 65536 % 2) = true ∧ 0 % 65536 / 256 < s.mzCols (2 * 0)) ∧
    (({ up with flt := { Flt.zero with crst := some 1 } } : State).flt.crst ≠ none ∧ up.flt.crst = none ∧ (up.cluster 0).run = none ∧ (up.cluster 0).cb = [] ∧
      up.bistRun (0 / 512) = none ∧ ∀ x, x ∈ up.dsp.insts → x.st = .placed ∨ x.st.open = true → 0 ∉ x.clusters) := by decide

/-! Flint tiles -/

/-- Tile 0 holds two MZ620 parts with the host bus on; part 0 is as given. -/
def mzUp (x : MzPart) : State := { up with flint := { Flint.zero with t0 := { Tile.zero with mode := 2, hostbus := true, part0 := x } } }
def e0 : MzEntry := ⟨7, 7, false, true, 0, 0⟩
def mzSt (op : Nat) : State := mzUp { MzPart.zero with run := true, frames := [(0, mzEntryWord op e0), (60, 0x85000000#32)] }

theorem mzSt_issues : ∀ op, op < 32 → (mzSt op).partOn 0 = true ∧ ((mzSt op).part 0).run = true ∧ (mzSt op).mzStopped = false ∧ 0 < 10 * (mzSt op).mzCols 0 ∧
    ((mzSt op).part 0).last = none ∧ mzAgrees e0 op (((mzSt op).part 0).entry 0) = true := by decide +kernel

/-- MzCellsCompute: every code; a cell whose result goes to a line; a part that stands. -/
theorem witness_mz_cells : (∀ op, op < 32 → MzTurn (mzSt op) 0 0 op e0) ∧
    (tb (((mzSt 1).part 0).layer (0 / 10) 6 (0 % 10)) 31 = true ∧ e0.lde = true) ∧ up.partOn 0 = false := by
  refine ⟨fun op h => ?_, by decide, rfl⟩
  obtain ⟨h1, h2, h3, h4, h5, h6⟩ := mzSt_issues op h
  exact ⟨by decide, h1, h2, h3, h4, (by rw [h5]; intro j hj; cases hj), h6⟩

def streamSt (t : MzStream) : State := mzUp { MzPart.zero with stream := t, go := true }

/-- MzStreamsConfigure: a stream at a header, an address to fill, a check that passed, a start mark, a part to release. -/
theorem witness_mz_streams :
    (let s := streamSt { MzStream.zero with phase := .header, addr := some 0, checked := true, host := true }
     s.partOn 0 = true ∧ (s.part 0).stream.phase = .header ∧ (s.part 0).stream.addr = some 0 ∧ (0 : Half).getLsbD 15 = false ∧ (0 : Half).toNat / 256 < s.mzCols 0 ∧
       (s.part 0).stream.sealed = false ∧ (s.part 0).stream.pos < 19 ∧ (s.part 0).stream.checked = true ∧ (s.part 0).go = true ∧ (s.part 0).stream.host = true ∧
       s.mzStopped = false) ∧
    (seekOk 0x2B02#16 = true ∧ seekOk 0x4000#16 = false ∧ (streamSt { MzStream.zero with phase := .header }).partOn 0 = true ∧
      ((streamSt { MzStream.zero with phase := .header }).part 0).stream.addr = none ∧ (0 : Half) ≠ 0xB7D2#16) ∧
    ((streamSt MzStream.zero).hostOn 0 = true ∧ ((streamSt MzStream.zero).part 0).host = none ∧ ((streamSt MzStream.zero).part 0).stream.phase = .idle ∧
      ((streamSt { MzStream.zero with phase := .mark }).part 0).stream.phase = .mark ∧ up.hostOn 0 = false) ∧
    ((0xFFFF#16 ++ 0xFFFF#16 : BitVec 32) = ~~~(0 : Word) ∧ (0x0000#16 ++ 0xFFFF#16 : BitVec 32) ≠ ~~~(0 : Word)) := by decide

/-- Mailbox 0 of tile 0 is enabled, inbound or outbound, for queue 3. -/
def mboxSt (a : Word) (buf : List Token) : State :=
  (({ mzUp MzPart.zero with
      flint := { Flint.zero with t0 := { Tile.zero with mode := 2, hostbus := true, mbox := [(0, ⟨[], buf⟩)] } },
      flow := { Flow.zero with recs := [(3, { q3 with cons := 0 })] } } : State)).wr (flMba 0 0) a

/-- HostBusAndMailboxes. -/
theorem witness_mailboxes :
    (let s := mzUp { MzPart.zero with frames := [(71, 0x80#32)] }
     s.hostOn 0 = true ∧ (s.part 0).host = none ∧ s.hostRam 0 0 = some 0 ∧ smGet false (s.part 0).ramDead 0 = false ∧ 0x800 ≤ (0xFF0#12 : BitVec 12).toNat) ∧
    ((mboxSt 0x80000003#32 []).mbEn 0 0 = true ∧ (mboxSt 0x80000003#32 []).mbIn 0 0 = false ∧ ((mboxSt 0x80000003#32 []).mbox 0 0).buf = []) ∧
    (((mboxSt 0x80000003#32 [tok0]).mbox 0 0).buf = [tok0] ∧ (mboxSt 0x80000003#32 [tok0]).pins.ioRst = false) ∧
    (let s := mboxSt 0xC0000003#32 []
     s.mbIn 0 0 = true ∧ s.mbEn 0 0 = true ∧ (s.mbox 0 0).buf.length < 4 ∧ (s.qrec (fld (s.rd (flMba 0 0)) 17 0)).cons = 0 ∧
       (s.qPop (fld (s.rd (flMba 0 0)) 17 0) ((s.qrec (fld (s.rd (flMba 0 0)) 17 0)).depth + 1)).2.isSome = true) ∧
    ((up.tile 0).mode = 0 ∧ ((mboxSt 0x3#32 []).tile 0).mode ≠ 0 ∧ (mboxSt 0x3#32 []).mbEn 0 0 = false ∧ ((mboxSt 0x80000003#32 []).tile 0).mode ≠ 0) ∧
    (up.partDone 0 = false ∧ up.partDone 1 = false ∧ (mzSt 0).partDone 0 = true ∧ fld ((mzSt 0).rd (flClk 0)) 9 0 ≠ fld (5 : Word) 9 0) ∧
    (let s : State := { mboxSt 0x80000003#32 [] with flint := { Flint.zero with t0 := { Tile.zero with mode := 2, part0 := { MzPart.zero with run := true } } } }
     s.mbRun 0 0 = true ∧ (mboxSt 0xC0000003#32 []).oneWay (queuePort 3) (tilePort 0) = true ∧ ((mboxSt 0xC0000003#32 []).qrec 3).en = true ∧
       up.mbRun 0 0 = false ∧ ((mzUp MzPart.zero).part 0).busy = false ∧ (mboxSt 0x80000003#32 [tok0]).gsr = false) ∧
    ¬(tb (0 : Word) 31 = true ∧ fld (0 : Word) 27 26 = 2) := by decide +kernel

/-! Starts, loads and resets -/

def noFlash : Flash := ⟨false, [], [], []⟩
/-- A good boot directory in copy 0: area 0 at 0x10000, 64 KiB. -/
def dirFlash : Flash := ⟨true, [0xA5, 0xD1, 0x3C, 0x5A, 1, 0, 0, 0, 0, 0, 1, 0, 0, 0, 1, 0] ++ List.replicate 9 0 ++ [8, 0, 0, 100, 0, 0, 0] ++ List.replicate 28 0 ++
  [0x87, 0xAE, 0xC0, 0x3F], [], []⟩
def h0 : ImgHdr := ⟨0, 0, 0, 0, 0, 0, 0, 0, 0, []⟩
def pins1 : Pins := { Pins.zero with por := true, sysRst := true }
/-- Step `n` of a cold start with image `h0`. -/
def stepSt (n : Nat) (ps : List Preset) : State := { up with cfg := { Cfg.zero with st := .starting, kind := .cold, step := n, img := some h0, presets := ps } }
def confSt (h : ImgHdr) (crit : Bool) : State := { up with cfg := { Cfg.zero with st := .run, img := some h, crit := crit } }

/-- StartsReachRun: POR_N rising alone and with SYS_RESET_N low; SYS_RESET_N rising; each step; a halt; a preset that is met, one that is not, one that errs. -/
theorem witness_starts :
    (up.pins.por = false ∧ up.pins.sysRst = false ∧ up.cfg.st ≠ .starting) ∧
    (let s : State := { up with pins := { Pins.zero with por := true } }
     s.pins.por = true ∧ s.pins.sysRst = false ∧ s.pins.thermtrip = false ∧ tb (s.rd SEC_DBG) 0 = false) ∧
    (let s : State := { up with pins := pins1 }
     s.pins.por = true ∧ s.pins.sysRst = true) ∧
    (let s : State := { up with pins := { Pins.zero with sysRst := true } }
     s.pins.sysRst = true ∧ s.pins.por = false ∧ s.pins.thermtrip = false ∧ tb (s.rd SEC_DBG) 0 = false) ∧
    (∀ n, n < 13 → (stepSt n []).cfg.st = .starting ∧ (stepSt n []).cfg.step = n ∧ (stepSt n []).cfg.kind ≠ .warm ∧ (stepSt n []).authList noFlash = [] ∧
      (stepSt n []).cfg.img = some h0 ∧ (stepSt n []).cfg.presets = [] ∧ (stepSt n []).ginit = false ∧ (stepSt n []).halted = false ∧
      ∀ p, p < 4 → ((stepSt n []).part p).go = false) ∧
    (((stepSt 12 []).wr TH_STATUS 0x40).halted = true ∧ ((stepSt 12 []).wr TH_STATUS 0x40).cfg.step = 12) ∧
    (let p : Preset := ⟨SYS_DEVID, 0xFFFFFFFF#32, 1⟩
     let s := stepSt 8 [p]
     s.cfg.step = 8 ∧ s.cfg.presets = p :: [] ∧ fld p.ctl 1 0 ≠ 0 ∧ (s.presetDo p).2 = some false ∧ (s.presetDo p).1.cfg = s.cfg) ∧
    (let p : Preset := ⟨SYS_DEVID, 0, 1⟩
     fld p.ctl 1 0 ≠ 0 ∧ ((stepSt 8 [p]).presetDo p).2 = some true) ∧
    (let p : Preset := ⟨0, 0, 1⟩
     fld p.ctl 1 0 ≠ 0 ∧ ((stepSt 8 [p]).presetDo p).2 = none) := by decide +kernel

def cfgSt (c : Cfg) : State := { up with cfg := c }

/-- The directory of `dirFlash` is good, so its area 0 is present. -/
theorem test_boot_directory : ((bootDir 0 dirFlash).map BootDir.present).getD 0 = 1 := by decide +kernel

/-- VersionSlotsAreManaged. The clause of a load that succeeds has a witness only where SHA-384 and ECDSA, which the model leaves free, accept an image. -/
theorem witness_version_slots :
    (up.cfg.st = .run ∧ (((bootDir up.cfg.bfcfg dirFlash).map BootDir.present).getD 0).getLsbD 0 = true) ∧
    ((cfgSt { Cfg.zero with st := .loading }).cfg.st = .loading ∧ up.cfg.load = none) ∧
    (let s := cfgSt { Cfg.zero with st := .loading, load := some 0 }
     s.cfg.load = some 0 ∧ s.authArea noFlash 0 = .inl (imgErr 1 0) ∧ s.cfg.st ≠ .held ∧ s.cfg.load ≠ none) ∧
    (let s := cfgSt { Cfg.zero with st := .run, slotA := { SlotMeta.zero with st := .valid, active := true }, slotB := { SlotMeta.zero with st := .valid } }
     s.cfg.st ≠ .held ∧ (s.slotMeta false).active = true ∧ s.cfg.load = none ∧ (s.slotMeta true).active = false ∧ (s.slotMeta true).st = .valid ∧
       s.mayStart = true ∧ (s.slotMeta s.otherSlot).st = .valid ∧ (up.slotMeta true).active = false ∧ (up.slotMeta true).st ≠ .valid ∧
       (up.slotMeta up.otherSlot).st ≠ .valid) ∧
    (cfgSt { Cfg.zero with st := .held }).cfg.st = .held ∧
    (let s : State := { confSt { h0 with arb := 3 } false with sec := { Sec.zero with fpol := 2 } }
     s.cfg.st ≠ .held ∧ s.cfg.st ≠ .failed ∧ s.cfg.img = some { h0 with arb := 3 } ∧ s.sec.fpol.getLsbD 1 = true) ∧
    (let s : State := confSt { h0 with confirmMs := 5 } false
     s.cfg.img = some { h0 with confirmMs := 5 } ∧ s.gsr = false ∧ s.cfg.crit = false ∧ s.cfg.confirmed = false ∧ h0.confirmMs = 0 ∧ (confSt h0 true).cfg.crit = true) := by
  decide +kernel

/-- ResetsClearAndKeep. -/
theorem witness_resets :
    (up.pins.por = false ∧ inBlocks CFG_LDPROG = true ∧ blockOf CFG_LDPROG < 29 ∧ keptBits true CFG_LDPROG = 0 ∧ ∀ b, b < 20 → CFG_LDPROG ≠ GPIO_PULL b) ∧
    ({ up with pins := { Pins.zero with por := true } } : State).pins.por = true ∧
    (up.pins.sysRst = false ∧ up.pins.thermtrip = false ∧ up.ecc.merge = []) ∧ ({ up with pins := pins1 } : State).pins.sysRst = true ∧
    ({ up with pins := { Pins.zero with ioRst := true } } : State).pins.ioRst = true ∧
    (up.pins.ioRst = false ∧ (∀ f, f < 48 → up.linkEn f = false) ∧ (∀ p, p ∈ up.noc.pkts → p.net ≠ 3) ∧ up.dsp.insts = []) ∧
    ({ up with pins := { Pins.zero with thermtrip := true } } : State).pins.thermtrip = true ∧ Supply.vinCore ≠ .vppSlate := by
  decide +kernel

/-! Sessions and authorized changes -/

def sessSt (x : Sess) : State := { up with sec := { Sec.zero with sess := x } }
/-- PCIe holds a grant for register `a` and value `v`, with no data; the device has authorities 0, 1 and 2 and what `x` adds. -/
def grantSt (x : Sec) (a : Nat) (v : Word) : State :=
  { up with sec := { x with sess := { Sess.zero with st := .granted, target := a, argdig := Config.sha384 (wordBytes v) } } }

/-- A grant that matches is one that the opaque hash accepts. -/
theorem grantSt_fits (x : Sec) (a : Nat) (v : Word) : (grantSt x a v).grantFits .pcie a (wordBytes v ++ (grantSt x a v).secData .pcie) = true := by
  have h : (grantSt x a v).secData .pcie = [] := (show up.secData .pcie = [] by decide)
  rw [h, List.append_nil]
  simp [State.grantFits, State.owns, grantSt, ifCode, secWriter, Sess.zero]

def auth3 : SMap (BitVec 384) := [(0, 0), (1, 0), (2, 0)]

/-- SessionsGiveOneGrant. Which signatures `judgeSig` accepts rests on the free ECDSA; one of its two clauses always applies to the owner of a session. -/
theorem witness_sessions :
    (secWriter .pcie = true ∧ up.sec.sess.st = .idle ∧ up.owns .pcie = false ∧ secWriter .supv = false) ∧
    (let s := sessSt { Sess.zero with st := .open_ }
     s.sec.sess.st ≠ .idle ∧ s.owns .pcie = true ∧ s.sec.sess.st = .open_ ∧ s.judgeSig .pcie = some 3 ∧ s.sec.sess.refused < 2) ∧
    ((sessSt { Sess.zero with st := .one, refused := 2 }).owns .pcie = true ∧ (sessSt { Sess.zero with st := .one, refused := 2 }).sec.sess.st = .one ∧
      2 ≤ (sessSt { Sess.zero with st := .one, refused := 2 }).sec.sess.refused) ∧
    (isRwa SEC_FPOL = true ∧ ({ up with sec := { Sec.zero with auth := auth3 } } : State).provisioned = true ∧
      ({ up with sec := { Sec.zero with auth := auth3 } } : State).sec.sess.st ≠ .granted) ∧
    (isRwa 0 = false ∧ 0 ≠ DDR_RENT 0) := by decide +kernel

/-- A grant that fits and a provisioned device, for the clauses of both statements that need them. -/
theorem witness_grants (a : Nat) (v : Word) (x : Sec) (h : x.auth = auth3) :
    (grantSt x a v).provisioned = true ∧ (grantSt x a v).grantFits .pcie a (wordBytes v ++ (grantSt x a v).secData .pcie) = true := by
  refine ⟨?_, grantSt_fits x a v⟩
  simp [State.provisioned, grantSt, h, auth3]

/-- AuthorizedChangesTakeEffect, what its clauses ask beside the grant of `witness_grants`. Whether a wrapped key is accepted rests on the free unwrapping: of the
clauses for `none` and for `some k` one applies. -/
theorem witness_authorized :
    (let s := grantSt { Sec.zero with auth := auth3, hash := [(0, 0)], imgE := [(0, 0)], mzKey := [(2, 0)] } SEC_AUTH 0
     fld (0 : Word) 3 0 ≤ 3 ∧ (smFind s.sec.imgE 0).isSome = true ∧ (smFind s.sec.imgE 1).isSome = false ∧ (smFind s.sec.mzKey 2).isSome = true ∧
       (smFind s.sec.hash 0).isSome = true ∧ (smFind s.sec.hash 1).isSome = false ∧ s.sec.hash ≠ [] ∧ s.otherHash 0 = false ∧ s.otherHash 1 = true ∧
       (smFind s.sec.auth 0).isSome = true ∧ (smFind s.sec.auth 5).isSome = false ∧ 2 ≤ s.liveAuths 0 ∧ fld (256#32 : Word) 8 0 ≤ 256 ∧
       s.sec.fpol.getLsbD 3 = false ∧ s.dsp.insts = [] ∧ s.ddr.regions = [] ∧ s.garnet.wbuf = [] ∧ (∀ n, n < 4 → s.rd (SEC_SECSP n) = 0) ∧
       (∀ n, n < 2 → s.rd (SEC_SECG n) = 0)) ∧
    (let s := grantSt { Sec.zero with auth := [(0, 0), (1, 0)] } SEC_AUTH 0
     s.liveAuths 0 < 2 ∧ ({ s with sec := { s.sec with fpol := 8 } } : State).sec.fpol.getLsbD 3 = true) ∧
    (up.provisioned = false ∧ secWriter .pcie = true ∧ secWriter .supv = false ∧ (grantSt Sec.zero SEC_AUTH (0x40000000#32)).provisioned = false) ∧
    (up.scanAllowed = true ∧ (grantSt { Sec.zero with auth := auth3 } 0 0).scanAllowed = false) := by
  refine ⟨⟨?_, ?_, ?_, ?_, ?_, ?_, ?_, ?_, ?_, ?_, ?_, ?_, ?_, ?_, ?_, ?_, ?_, ?_, ?_⟩, ⟨?_, ?_⟩, ⟨?_, ?_, ?_, ?_⟩, ?_, ?_⟩ <;>
    first | (show _ ≠ _; intro h; cases h) | exact fun _ _ => rfl | decide

/-- AuthorizedChangesTakeEffect: a genesis whose session no one else signed, and one that a key outside its data signed. -/
theorem witness_genesis :
    (∀ keys : List (BitVec 384), ∀ e, e ∈ (grantSt Sec.zero SEC_AUTH 0).sec.sess.signed.zip (grantSt Sec.zero SEC_AUTH 0).sec.sess.keys → keys[e.1]? = some e.2) ∧
    (∀ a b : BitVec 384, ¬ ∀ e, e ∈ ([7] : List Nat).zip [(0 : BitVec 384)] → [a, b][e.1]? = some e.2) := by
  refine ⟨fun _ e h => (by cases h), fun a b h => ?_⟩
  cases h (7, 0) (by decide)

/-! Clocks, power, heat and age -/

/-- ClocksFailAndReturn. -/
theorem witness_clocks :
    (up.clkPass 0 (409600000 / 1000) = true ∧ up.clkPass 5 0 = false) ∧
    (up.clkMonitored 5 = true ∧ up.clkFailed 5 = false ∧ up.dsp.insts = [] ∧ clkConsumer 5 = none ∧ up.clkMonitored 12 = true ∧ clkConsumer 12 = some 6 ∧
      up.clkMonitored 4 = false) ∧
    (tb ((up.wr CLK_STATUS 0x40).rd CLK_STATUS) 6 = true ∧ tb ((up.wr CLK_STATUS 0).rd CLK_STATUS) 6 = false) ∧
    (tb (((up.wr CLK_STATUS 8).wr CLK_SRC 1).rd CLK_STATUS) 3 = true ∧ ((up.wr CLK_STATUS 8).wr CLK_SRC 1).rd CLK_SRC ≠ 0 ∧ (up.wr CLK_SRC 0).rd CLK_SRC = 0) ∧
    (5 ∉ up.pwr.gating ∧ (let s : State := { up with pwr := { Pwr.zero with gating := [1280, 5] } }
      1280 ∈ s.pwr.gating ∧ 5 ∈ s.pwr.gating)) ∧
    (let v : Word := 0x85000000#32
     tb v 31 = true ∧ fld v 29 24 < 48 ∧ 200000 * (fld v 15 0 + 1) < up.clkKHz (fld v 29 24) ∧ tb (0 : Word) 31 = false) := by decide +kernel

def selD (s : State) (d : Nat) : State := s.setSel .pcie PWR_DSEL (BitVec.ofNat 32 d)
def domSt (d : Nat) (x : DomSt) (wake : List Nat) : State := selD { up with pwr := { Pwr.zero with dom := [(d, x)], waking := wake } } d
def busySt : State := { up with dsp := { Dsp.zero with insts := [{ inst1 with st := .running }] }, clusters := [(0, { Cluster.zero with run := some 1 })] }

/-- DomainsSleepAndWake. -/
theorem witness_domains :
    (1482 < fld (1483#32 : Word) 10 0 ∧ fld (1482#32 : Word) 10 0 ≤ 1482 ∧ 1480 ≤ (selD up 1480).dsel .pcie) ∧
    ((domSt 7 .on []).dsel .pcie = 7 ∧ (selD up 7).dom 7 = .on ∧ (domSt 7 .cirrus []).dom 7 = .cirrus ∧ (domSt 7 .stratus []).dom 7 = .stratus ∧
      (domSt 7 .nimbus []).dom 7 = .nimbus) ∧
    ((domSt 7 .cirrus []).sleepIdle 7 = true ∧ (domSt 7 .cirrus []).planesQuiet 7 = true ∧ (domSt 7 .cirrus []).portIdle 7 = true ∧ (domSt 7 .cirrus []).res.pins = []) ∧
    (busySt.sleepIdle 0 = false ∧ busySt.dom 0 ≠ .nimbus ∧ busySt.dsel .pcie = 0) ∧
    (let s := selD { up with ddr := { Ddr.zero with regions := [(0, { reg0 with st := .active })] } } 1456
     s.dsel .pcie = 1456 ∧ s.dom 1456 = .on ∧ 1456 ∉ s.pwr.leaving ∧ 1456 ∉ s.pwr.gating ∧ ∃ e, e ∈ s.ddr.regions ∧ e.2.valid = true) ∧
    ((selD up 1024).dsel .pcie = 1024 ∧ (selD up 1024).dom 1024 = .on ∧ 1024 ∉ up.pwr.leaving ∧ 1024 ∉ up.pwr.gating) ∧
    ((domSt 1280 .switching []).dom 1280 = .switching ∧ 1280 ∉ (domSt 1280 .switching []).pwr.waking ∧ up.dom 3 ≠ .switching) ∧
    (let s (x : DomSt) : State := (domSt 7 x []).wr (PWR_RDEEP 0) 0xFFFFFFFF#32
     (s .cirrus).pwrReq 7 = 0 ∧ 3 ≤ (s .cirrus).deepest 7 ∧ (s .stratus).sleepIdle 7 = true ∧ (s .stratus).planesQuiet 7 = true ∧
       ((s .stratus).pin 7 0).en = false ∧ ((s .stratus).pin 7 1).en = false) ∧
    (7 ∈ (domSt 7 .stratus [7]).pwr.waking ∧ (domSt 7 .stratus [7]).dom 7 = .stratus ∧ (domSt 7 .stratus [7]).age.due = [] ∧ 7 ∉ up.pwr.waking) ∧
    (fld (0 : Word) 1 0 ≤ up.topOpp ∧ up.coupled 0 = false ∧ (up.wr CLK_SRC 0).coupled 0 = false) ∧
    (let s : State := { up with fuse := { up.fuse with gradeA := true } }
     s.topOpp < fld (3#32 : Word) 1 0) ∧
    (8 ≤ fld (0x080800FF#32 : Word) 28 24 ∧ fld (0x080800FF#32 : Word) 28 24 ≤ 30 ∧ 8 ≤ fld (0x080800FF#32 : Word) 20 16 ∧ fld (0x080800FF#32 : Word) 20 16 ≤ 30 ∧
      fld (0 : Word) 28 24 < 8) := by decide +kernel

/-- DomainsSleepAndWake: a cluster whose port is not idle; ClocksFailAndReturn: a channel that a region keeps on, a bank that wakes again. -/
theorem witness_domains_held :
    (let s : State := { domSt 7 .cirrus [] with noc := { Noc.zero with pkts := [⟨1, mkHdr 1 1 0 supvPort (clusterPort 7), .load 7 0, (clusterPort 7).net, (clusterPort 7).node, 4, false, .none⟩] } }
     s.portIdle 7 = false ∧ s.sleepIdle 7 = true ∧ s.planesQuiet 7 = true ∧ 7 ∉ s.pwr.leaving ∧ 7 ∉ s.pwr.gating) ∧
    (let s : State := { up with pwr := { Pwr.zero with gating := [1456, 1280], waking := [1280] }, ddr := { Ddr.zero with regions := [(0, reg0)] } }
     s.regionsHold 1456 = true ∧ s.regionsHold 1280 = false ∧ 1280 ∈ s.pwr.waking ∧ 1280 ∈ s.pwr.gating) := by decide +kernel

def haltedSt (t : Option Nat) (now : Nat) : State := ({ up with therm := { Therm.zero with haltCool := t, now := now } } : State).wr TH_STATUS 0x40

/-- HeatThrottlesAndAgeIsPlanned: readings that reach THROTTLE, stay below it, reach CRIT; broken sensors; a halt that has cooled. -/
theorem witness_heat :
    ((∃ i, i ∈ covering 0 ∧ up.broken i = false ∧ up.throtT ≤ (fun _ => (1600 : Int)) i) ∧ smGet 0 up.therm.riseT 0 = 0) ∧
    ((∀ i, i ∈ covering 0 → up.broken i = false ∧ (fun _ => (0 : Int)) i < up.throtT ∧ up.rateHolds i = false) ∧ smGet 0 up.therm.coolT 0 = 0) ∧
    (∃ i, i ∈ covering 0 ∧ (up.wr TH_BROKEN_LO 1).broken i = true) ∧
    ((∃ i, i < 52 ∧ up.broken i = false ∧ up.critT ≤ (fun _ => (1760 : Int)) i) ∧ tb (up.rd TH_STATUS) 6 = false ∧ up.dsp.insts = []) ∧
    (∀ i, i < 52 → up.broken i = true ∨ (fun _ => (0 : Int)) i < up.critT) ∧
    (tb ((haltedSt (some 0) 10000).rd TH_STATUS) 6 = true ∧ (haltedSt (some 0) 10000).haltOver = true ∧ (haltedSt none 0).haltOver = false) ∧
    (up.broken 51 = false ∧ (up.wr TH_BROKEN_LO 1).broken 0 = true) ∧
    (let s : State := { up with pwr := { Pwr.zero with dom := [(0, .nimbus)] } }
     (qmRegions 0).all (fun r => s.qmReady r) = false) := by decide +kernel

/-! Lanes and links -/

/-- Lane 0 is link 0, UP, with LANE_LCFG `v`; its queue is the ring of `q3` sent to a link. -/
def laneSt (v : Word) (x : Lane) (y : Link) (c : CfgSt) (q : QRec) : State :=
  (({ up with
      cfg := { Cfg.zero with st := c }
      lanes := { Lanes.zero with lanes := [(0, x)], links := [(0, y)] }
      flow := { Flow.zero with recs := [(0, q)] } } : State)).lwr 0 LANE_LCFG v
def laneX : Lane := { Lane.zero with lock := true, laneid := some 0 }
def linkY : Link := { Link.zero with st := 3 }
def q1 : QRec := { q3 with cons := 1 }
def rawSt (x : Lane) (y : Link) : State := laneSt 0x80000000#32 x y .run q1
def dalSt (y : Link) (q : QRec) : State := laneSt 0xC0000000#32 laneX y .starting q
def frame0 : RawFrame := ⟨0, 0, [], false, false⟩

set_option synthInstance.maxSize 100000 in
/-- RawLinksReceiveFrames: a lane with no frame, with one, at 1,535 blocks, under GSR; markers due, missed once and missed four times; a lane without lock or deaf. -/
theorem witness_raw_links :
    (LaneAlone (rawSt laneX linkY) 0 false ∧ NotMarker (rawSt laneX linkY) 0 1 0x1E#64 ∧ NotMarker (rawSt laneX linkY) 0 1 0x33#64 ∧
      NotMarker (rawSt laneX linkY) 0 1 0x2D#64 ∧ NotMarker (rawSt laneX linkY) 0 1 0x2E#64 ∧ NotMarker (rawSt laneX linkY) 0 1 (typed 0 0x78) ∧
      NotMarker (rawSt laneX linkY) 0 1 (typed 0 0x87) ∧ NotMarker (rawSt laneX linkY) 0 2 0 ∧ NotMarker (rawSt laneX linkY) 0 3 0 ∧
      ((rawSt laneX linkY).link 0).frame = none ∧ ((rawSt laneX linkY).link 0).rbuf.length < 2048 ∧ tb ((rawSt laneX linkY).lrd 0 (LANE_IDESC_A 0)) 31 = false ∧
      tb (((rawSt laneX linkY).lwr 0 (LANE_IDESC_A 0) 0x80000000#32).lrd 0 (LANE_IDESC_A 0)) 31 = true ∧
      LaneAlone ((rawSt laneX linkY).lwr 0 (LANE_IDESC_A 0) 0x80000000#32) 0 false) ∧
    (let s := rawSt laneX { linkY with frame := some frame0 }
     LaneAlone s 0 false ∧ NotMarker s 0 2 0 ∧ NotMarker s 0 0 0 ∧ (s.link 0).frame = some frame0 ∧ (s.link 0).occupancy + 1 < 1536 ∧ (s.link 0).xoffTx = false ∧ frame0.blocks.length < 256) ∧
    (let s := laneSt 0x80000000#32 laneX { linkY with frame := some frame0 } .starting q1
     LaneAlone s 0 false ∧ NotMarker s 0 1 (typed 0 0x87) ∧ s.gsr = true ∧ (s.link 0).occupancy < 1536 ∧ (s.link 0).xoffTx = false) ∧
    (let s := rawSt { laneX with mseq := some 0, since := 16383 } linkY
     LaneAlone s 0 false ∧ (s.lane 0).since + 1 = s.amPeriod 0 ∧ BitVec.ofNat 8 (dfld (typed 0x1000000#64 0xB4) 31 24) = (0 : Byte) + 1 ∧
       (s.lane 0).bip = BitVec.ofNat 8 (dfld (typed 0x1000000#64 0xB4) 39 32) ∧ (s.lane 0).bover < 3 ∧
       BitVec.ofNat 8 (dfld (typed 0 0xB4) 31 24) ≠ (0 : Byte) + 1 ∧ (s.lane 0).miss < 3 ∧ dfld (typed 0 0xB4) 15 12 ≠ 15) ∧
    (let s := rawSt { laneX with mseq := some 0, miss := 3 } linkY
     LaneAlone s 0 false ∧ (s.lane 0).miss = 3 ∧ (s.lane 0).failed = false ∧ (s.link 0).frame = none) ∧
    (up.laneDeaf 0 = false ∧ up.linkOf 0 = none ∧ (up.lane 0).lock = false) ∧ ({ up with pins := { Pins.zero with ioRst := true } } : State).laneDeaf 0 = true := by
  unfold LaneAlone NotMarker
  decide +kernel

theorem witness_raw_xoff :
    (let s := rawSt laneX { linkY with frame := some frame0, rbuf := List.replicate 1535 (false, tok0) }
     (s.link 0).occupancy + 1 = 1536 ∧ (s.link 0).xoffTx = false) ∧
    (let s := laneSt 0x80000000#32 laneX { linkY with frame := some frame0, xoffTx := true, rbuf := List.replicate 513 (false, tok0) } .starting q1
     512 < (s.link 0).occupancy) := by decide +kernel

/-- A Dalyel frame of one token, SEQ 0, and the payload of its DEND. -/
def dal0 : DalFrame := ⟨BitVec.ofNat 64 (2 ^ 56), [0, 0], false⟩
def dend0 : DWord := BitVec.ofNat 64 ((crc32c ((dwBytes dal0.hdr).drop 1 ++ (dal0.blocks.reverse).flatMap dwBytes)).toNat * 256)

set_option synthInstance.maxSize 100000 in
/-- DalyelLinksReceiveFrames. -/
theorem witness_dalyel_links :
    (LaneAlone (dalSt linkY q1) 0 true ∧ NotMarker (dalSt linkY q1) 0 1 (typed 0 0x55) ∧ NotMarker (dalSt linkY q1) 0 1 (typed 0 0x66) ∧
      ((dalSt linkY q1).link 0).dal = none) ∧
    (let s := dalSt { linkY with dal := some dal0 } q1
     LaneAlone s 0 true ∧ NotMarker s 0 2 0 ∧ NotMarker s 0 1 (typed dend0 0x66) ∧ (s.link 0).dal = some dal0 ∧ dal0.bad = false ∧
       dal0.blocks.reverse.length = 2 * dfld dal0.hdr 59 56 ∧ dfld dal0.hdr 59 56 ≠ 0 ∧ dfld dal0.hdr 23 8 = (s.link 0).expSeq.toNat ∧ (s.link 0).rx = [] ∧
       (s.link 0).cnts = [] ∧ s.gsr = true ∧
       (crc32c ((dwBytes dal0.hdr).drop 1 ++ (dal0.blocks.reverse).flatMap dwBytes)).toNat = dfld (typed dend0 0x66) 39 8 ∧
       (crc32c ((dwBytes dal0.hdr).drop 1 ++ (dal0.blocks.reverse).flatMap dwBytes)).toNat ≠ dfld (typed 0 0x66) 39 8 ∧
       dfld dal0.hdr 23 8 ≠ ((dalSt { linkY with dal := some dal0, expSeq := 1 } q1).link 0).expSeq.toNat) ∧
    tb (up.lrd 0 LANE_PRBS) 30 = false ∧
    (let s (x : Lane) : State := ({ up with lanes := { Lanes.zero with lanes := [(0, x)] } } : State).lwr 0 LANE_PRBS 0x40000000#32
     tb ((s Lane.zero).lrd 0 LANE_PRBS) 30 = true ∧ (s Lane.zero).dom (domLane 0) = .on ∧ ((s Lane.zero).lane 0).seen < (prbsTaps (fld ((s Lane.zero).lrd 0 LANE_PRBS) 29 28)).1 ∧
       (prbsTaps (fld ((s Lane.zero).lrd 0 LANE_PRBS) 29 28)).1 ≤ ((s { Lane.zero with seen := 7 }).lane 0).seen ∧ ((s { Lane.zero with seen := 7 }).lane 0).rxlock = false ∧
       ((s { Lane.zero with seen := 7, rxlock := true }).lane 0).rxlock = true) := by
  unfold LaneAlone NotMarker
  decide +kernel

def q1at (t : Token) : State := ((rawSt laneX linkY).memWrite .agent (q1.entry 0) (natBytes 16 (tokenNat t))).1
def qHead (s : State) : State × Option Token := s.qPeek (linkQueue s 0) ((s.qrec (linkQueue s 0)).depth + 1)
def q0 : QRec := { q1 with depth := 0 }

/-- LinksSendAndAreConfigured. -/
theorem witness_links :
    (up.egressOk 0 = false ∧ (rawSt laneX linkY).egressOk 0 = true ∧ (rawSt laneX linkY).dalyel 0 = false ∧ ((rawSt laneX linkY).link 0).hazeTx = false ∧
      ((rawSt laneX linkY).link 0).eg = none ∧ ((rawSt laneX linkY).link 0).xoffRx = false ∧ (qHead (rawSt laneX linkY)).2.map (fun t => t.port) = some 0 ∧
      (qHead (q1at { tok0 with port := 1 })).2.map (fun t => t.port) = some 1 ∧ (q1at { tok0 with port := 1 }).egressOk 0 = true) ∧
    (let s := rawSt laneX { linkY with eg := some ⟨0, [], false⟩ }
     (s.link 0).eg = some ⟨0, [], false⟩ ∧ (qHead s).2.map (fun t => (t.inst, t.port)) = some (0, 0) ∧ (qHead s).1.lanes = s.lanes ∧
       ((qHead s).1.qDrop (linkQueue s 0)).lanes = s.lanes) ∧
    (let s := rawSt laneX { linkY with eg := some ⟨1, [], false⟩ }
     (s.link 0).eg = some ⟨1, [], false⟩ ∧ (qHead s).2.map (fun t => decide (t.inst ≠ (1 : BitVec 24) + BitVec.ofNat 24 (0 / 16))) = some true ∧ (qHead s).1.lanes = s.lanes) ∧
    (let s := laneSt 0x80000000#32 laneX { linkY with eg := some ⟨0, [], false⟩ } .run q0
     (s.qrec (linkQueue s 0)).depth = 0 ∧ (s.link 0).eg = some ⟨0, [], false⟩ ∧ ((laneSt 0x80000000#32 laneX linkY .run q0).link 0).eg = none ∧
       ((rawSt laneX linkY).qrec (linkQueue (rawSt laneX linkY) 0)).depth ≠ 0) ∧
    (let s := dalSt { linkY with credit := 1 } q1
     s.egressOk 0 = true ∧ s.dalyel 0 = true ∧ (qHead s).2.isSome = true ∧ ((qHead s).1.link 0).hazeTx = false ∧ ((qHead s).1.link 0).cnts.length ≤ ((qHead s).1.link 0).tpos ∧
       ((qHead s).1.qRead (linkQueue s 0) 0 (Nat.min 8 (((qHead s).1.link 0).credit - 0))).2 ≠ [] ∧
       ((qHead (dalSt linkY q1)).1.qRead (linkQueue s 0) 0 (Nat.min 8 (((qHead (dalSt linkY q1)).1.link 0).credit - 0))).2 = []) ∧
    (let s := dalSt { linkY with cnts := [1] } q1
     (qHead s).2.isSome = true ∧ ((qHead s).1.link 0).tpos < ((qHead s).1.link 0).cnts.length ∧ s.linkEn 0 = true ∧ (s.link 0).st = 3 ∧ s.pins.ioRst = false ∧
       (s.link 0).rx = []) ∧
    up.linkEn 0 = false ∧
    (let s := (laneSt 0x81000000#32 laneX linkY .run q0).lwr 0 LANE_LPCFG 0x01000001#32
     s.linkEn 0 = true ∧ (s.link 0).st = 3 ∧ fld (s.lrd 0 LANE_LPCFG) 19 0 ≠ 0 ∧ tb (s.lrd 0 LANE_LCFG) 24 = true ∧ (s.link 0).hazeTx = false ∧ (s.link 0).eg = none ∧
       (s.qrec (linkQueue s 0)).depth = 0 ∧ fld (s.lrd ((s.linkOf 0).getD 0) LANE_LPCFG) 31 24 ≠ 0) ∧
    ((rawSt { laneX with pwr := 1 } linkY).lane 0).pwr = 1 ∧ (up.lane 0).pwr ≠ 1 ∧
    (48 ≤ (up.setSel .pcie LANE_SEL 48).lsel .pcie ∧ up.lsel .pcie < 48 ∧ ((rawSt laneX linkY).link 0).frame = none ∧ up.lcfgOk 0 0x80000000#32 = true ∧
      up.lcfgOk 0 0x82000000#32 = false) ∧
    ((∀ j, j < 4 → up.linkOf (4 * 0 + j) = none) ∧ ¬(∀ j, j < 4 → (rawSt laneX linkY).linkOf (4 * 0 + j) = none) ∧ fld (1250#32 : Word) 14 0 = 1250 ∧
      fld (32001#32 : Word) 14 0 = 32001) := by decide +kernel

/-! Halo ring, host interfaces and pins -/

/-- The ring works: HALO_CTRL, HALO_POS and the device's UID as given. -/
def ringSt (ctl pos : Word) : State := ({ up with fuse := { up.fuse with uid := 5 } }.wr HALO_CTRL ctl).wr HALO_POS pos
def okFrame (typ src : Byte) (p : List Byte) : HaloFrame := haloFrameOf typ 0 src 0 p
def enum (uid : Nat) : HaloFrame := okFrame 1 0 (enumPayload uid 1 0)

/-- TheRingCarriesFrames. -/
theorem witness_ring :
    (up.haloOn = false ∧ (ringSt 0x80000000#32 0).haloOn = true ∧ haloGood { enum 5 with crc := 0 } = false ∧ haloGood (enum 5) = true ∧ haloGood (enum 6) = true ∧
      haloGood (enum 4) = true) ∧
    ((enum 5).typ = 1 ∧ (ringSt 0x80000000#32 0).haloMaster = false ∧ (ringSt 0xC0000000#32 0).haloMaster = true ∧ (ringSt 0xC0000000#32 0).haloOn = true ∧
      enumUid (enum 5) = (ringSt 0xC0000000#32 0).fuse.uid.toNat ∧ (ringSt 0xC0000000#32 0).fuse.uid.toNat < enumUid (enum 6) ∧
      enumUid (enum 4) < (ringSt 0xC0000000#32 0).fuse.uid.toNat) ∧
    (let s := (ringSt 0x80000000#32 0x80000003#32).wr HALO_TXST 0x80000000#32
     s.haloOn = true ∧ s.haloValid = true ∧ (okFrame 4 3 []).src = s.haloPos ∧ (okFrame 4 3 []).typ = 4 ∧ haloGood (okFrame 4 3 []) = true ∧ tb (s.rd HALO_TXST) 31 = true ∧
       (okFrame 3 3 []).typ ≠ 1 ∧ (okFrame 3 3 []).typ ≠ 4 ∧ haloGood (okFrame 3 3 []) = true) ∧
    (let s := ringSt 0xA0000000#32 0x80000003#32
     let f := okFrame 3 1 (natBytes 8 100)
     haloGood f = true ∧ f.typ = 3 ∧ f.src ≠ s.haloPos ∧ s.tickPast (BitVec.ofNat 64 (bytesNat (f.payload.take 8))) = false ∧ s.snap.pend = [] ∧
       (okFrame 4 1 []).src ≠ s.haloPos ∧ (okFrame 4 1 []).dst ≠ s.haloPos ∧ (okFrame 4 1 []).dst ≠ 0xFF#8 ∧ haloGood (okFrame 4 1 []) = true ∧
       haloGood (haloFrameOf 4 3 1 0 []) = true ∧ (haloFrameOf 4 3 1 0 []).dst = s.haloPos ∧ s.halo.rx.length < 8 ∧
       8 ≤ ({ s with halo := { Halo.zero with rx := List.replicate 8 ⟨0, []⟩ } } : State).halo.rx.length ∧
       (okFrame 2 1 (natBytes 8 7)).typ = 2 ∧ haloGood (okFrame 2 1 (natBytes 8 7)) = true ∧ s.haloMaster = false ∧ tb (s.rd HALO_CTRL) 29 = true ∧ s.haloValid = true ∧
       tb (s.rd STRATA_CTRL) 8 = false ∧ s.haloOn = true) ∧
    (tb ((ringSt 0x80000000#32 0).rd HALO_CTRL) 29 = false ∧ 2 ≤ ({ up with halo := { Halo.zero with out1 := 2 } } : State).halo.out1 ∧ up.halo.out1 < 2) ∧
    (fld (0x4000#32 : Word) 14 8 ≤ 64 ∧ tb ((up.wr HALO_TXST 0x80000000#32).rd HALO_TXST) 31 = true ∧ tb (up.rd HALO_TXST) 31 = false ∧ up.pins.ioRst = false ∧
      tb ((ringSt 0x80000000#32 0).rd HALO_TXST) 31 = false ∧ up.snap.pend = []) := by decide +kernel

def hpSt (x : Option HpAcc) : State :=
  { up with hp := { Hp.zero with wait := x }, ddr := { Ddr.zero with ready := true, regions := [(0, { reg0 with st := .initializing })] } }
def mirrorSt (t : Token) : State := { up with hp := { Hp.zero with buf := [t] } }

/-- HpAndSmbusReachTheDevice. -/
theorem witness_hp :
    (({ up with cfg := { Cfg.zero with st := .held } } : State).hpUp = false ∧ up.hpUp = true ∧ up.hp.wait = none) ∧
    ((0 : BitVec 14).toNat < 0x1000 ∧ 0x1000 ≤ (0x1000 : BitVec 14).toNat ∧ (0x13FF : BitVec 14).toNat < 0x1400 ∧ 0x1400 ≤ (0x1400 : BitVec 14).toNat ∧
      0x2040 ≤ (0x2040 : BitVec 14).toNat ∧ 0x2000 ≤ (0x2000 : BitVec 14).toNat ∧ Reaches up .hp HP_STATUS ∧ regPair HP_STATUS = none ∧
      (up.busWrite .hp HP_STATUS 0).2 = .ok) ∧
    ((hpSt (some ⟨false, SYS_DEVID, 0⟩)).hp.wait = some ⟨false, SYS_DEVID, 0⟩ ∧ (hpSt (some ⟨false, SYS_DEVID, 0⟩)).hpUp = true ∧
      ((hpSt (some ⟨false, SYS_DEVID, 0⟩)).busRead .hp SYS_DEVID).2.1 = .ok ∧ ((hpSt (some ⟨true, GPIO_DATA 0, 0⟩)).busWrite .hp (GPIO_DATA 0) 0).2 = .ok ∧
      ((hpSt (some ⟨false, 0, 0⟩)).busRead .hp 0).2.1 = .waits) ∧
    ((mirrorSt { tok0 with poison := true }).hp.buf = { tok0 with poison := true } :: [] ∧ tok0.kind = .data ∧ tok0.poison = false ∧ (mirrorSt tok0).hp.buf = tok0 :: [] ∧
      up.hp.buf = []) ∧
    (Reaches up .hp (HP_PUSH 3) ∧ Reaches up .pcie (HP_PUSH 3) ∧ up.ioBlock (HP_PUSH 3) = false) ∧
    (up.smbUp = true ∧ ({ up with pins := { Pins.zero with ioRst := true } } : State).smbUp = false ∧ isMem up.smb.addr.toNat = true) ∧
    (let s : State := { up with smb := { Smb.zero with addr := BitVec.ofNat 48 SYS_DEVID } }
     (s.busRead .smb s.smb.addr.toNat).2.1 = .ok) ∧
    (let s : State := { up with smb := { Smb.zero with addr := BitVec.ofNat 48 (GPIO_DATA 0) } }
     (s.busWrite .smb s.smb.addr.toNat 0).2 = .ok) ∧
    ((ansOf (up.answer .smb .waits []) .smb).kind = .waits ∧ (ansOf up .smb).kind ≠ .waits) := by
  unfold Reaches
  decide +kernel

/-- PinsAreDrivenAndSampled. -/
theorem witness_gpio :
    (up.pins.ioRst = false ∧ ({ up with pins := { Pins.zero with ioRst := true } } : State).pins.ioRst = true) ∧
    (tb (1 : Word) 0 = true ∧ tb (0 : Word) 0 = false ∧ smFind ({ up with gpio := { Gpio.zero with latch := [(0, (0, 0))] } } : State).gpio.latch 0 = some (0, 0) ∧
      smFind up.gpio.latch 0 = none) ∧
    (smGet [] up.gpio.ev 0 = [] ∧ ∀ i, i < 16 → tb (up.rd (GPIO_EVTA 0)) 31 = false) ∧
    (let s : State := { up with gpio := { Gpio.zero with ev := [(0, List.replicate 16 (false, tok0))] } }
     16 ≤ (smGet [] s.gpio.ev 0).length ∧ (smGet [] up.gpio.ev 0).length < 16) := by decide +kernel

/-! PCIe and DMA -/

def linkUpSt : State := up.wr PCIE_LINK 0x114
def spadLink : State := linkUpSt.wr (SPAD_BANK 0) 0x80#32
def linkPend (masked : Bool) : State :=
  { linkUpSt with pcie := { Pcie.zero with pba := [(0, true)], msix := [(3, if masked then 1 else 0)] } }

/-- PcieRequestsAreServed. -/
theorem witness_pcie :
    (up.linkUp = false ∧ linkUpSt.linkUp = true ∧ smGet false linkUpSt.pcie.pba 0 = false ∧ smGet false (linkPend false).pcie.pba 0 = true ∧
      tb ((linkPend false).msixWord 0 3) 0 = false ∧ (linkPend false).linkUp = true) ∧
    (let a := 0x2000000000 + 0
     Reaches linkUpSt .pcie a ∧ regPair a = none ∧ a ≠ FLOW_POP 0 ∧ a ≠ FLOW_WMQ ∧ a ≠ MCE_KIDALLOC ∧ a ≠ SEC_SESS ∧ a % 4 = 0 ∧
       tb (linkUpSt.rd PCIE_STATUS) 0 = false) ∧
    (∃ off, off < 0x1D00000 ∧ 0x2000000000 + off = GPIO_DATA 0 ∧ (linkUpSt.busWrite .pcie (GPIO_DATA 0) 0).2 = .ok) ∧
    (barAddr 2 0 = some 0x1000000000 ∧ barAddr 4 0 = some 0 ∧ (spadLink.pcieXfer 0x1000000000 false 4 []).2.1 = .ok ∧
      (spadLink.pcieXfer 0x1000000000 true 4 (List.replicate 4 (some 0))).2.1 = .ok ∧ spadLink.accessGate .pcie 0x1000000000 = none ∧
      (spadLink.poisonXfer ⟨.pcie, 0x1000000000, 4, true, List.replicate 4 (some 0)⟩).2.1 = .ok) ∧
    (let s := (spadLink.poisonXfer ⟨.pcie, 0x1000000000, 8, true, List.replicate 8 (some 0)⟩).1
     (s.pcieXfer 0x1000000000 false 4 []).2.1 = .poisoned ∧ tb ((s.pcieXfer 0x1000000000 false 4 []).1.rd PCIE_STATUS) 0 = false) ∧
    (inMsix 0 0x2400000 = false ∧ barAddr 0 0x2400000 = none) ∧
    ((ansOf (up.answer .pcie .waits []) .pcie).kind = .waits ∧ tb ((up.answer .pcie .waits []).rd PCIE_STATUS) 0 = false ∧ (ansOf up .pcie).kind ≠ .waits) ∧
    (up.pcieOn = true ∧ ({ up with pins := { Pins.zero with ioRst := true } } : State).pcieOn = false ∧ tb (linkUpSt.rd PCIE_LINK) 8 = true ∧
      tb (up.rd PCIE_LINK) 8 = false ∧ up.pastStep1 = true ∧ up.clkFailed 14 = false ∧ up.pcie.pba = []) ∧
    (up.dmaSt 0 = 0 ∧ (up.wr (PCIE_DMA_STAT 0) 0x40000000#32).dmaSt 0 = 1) := by
  unfold Reaches
  refine ⟨?_, ?_, ⟨GPIO_DATA 0 - 0x2000000000, ?_⟩, ?_, ?_, ?_, ?_, ?_, ?_⟩ <;> decide +kernel

/-- A descriptor: operation and flags, length, source, destination. -/
def desc (op shost dhost len src dst : Nat) : Nat := op * 2 ^ 28 + shost * 2 ^ 26 + dhost * 2 ^ 25 + len * 2 ^ 32 + src * 2 ^ 64 + dst * 2 ^ 128
/-- Channel 0 in a state, enabled or not, its ring in host memory, the link up. -/
def dmaUp (en : Nat) (st : Nat) (x : Dma) : State :=
  (({ linkUpSt with pcie := { Pcie.zero with dma := [(0, x)] } } : State).wr (PCIE_DMA_CTRL 0) (BitVec.ofNat 32 (en * 2 ^ 31 + 0x101))).wr (PCIE_DMA_STAT 0)
    (BitVec.ofNat 32 (st * 2 ^ 30))
def dmaSt1 (d : Nat) (cnt : Nat) : State := dmaUp 1 1 { Dma.zero with desc := some d, cnt := cnt }
def toQueue (d : Nat) (cnt depth : Nat) : State := { dmaSt1 d cnt with flow := { Flow.zero with recs := [(0, { q3 with cons := 2, depth := depth })] } }

/-- ChannelsRunDescriptors: a channel that starts; copies inside the device, from the host and complete; tokens in and out. -/
theorem witness_dma_runs :
    (tb ((dmaUp 0 0 Dma.zero).rd (PCIE_DMA_CTRL 0)) 31 = false ∧ (dmaUp 1 0 Dma.zero).pcieOn = true ∧ tb ((dmaUp 1 0 Dma.zero).rd (PCIE_DMA_CTRL 0)) 31 = true ∧
      (dmaUp 1 0 Dma.zero).dmaSt 0 = 0 ∧ (dmaUp 1 0 Dma.zero).dmaHead 0 ≠ fld (1 : Word) 15 0 % (dmaUp 1 0 Dma.zero).dmaSize 0 ∧ (dmaUp 1 0 Dma.zero).ringHost 0 = true ∧
      tb ((dmaUp 1 0 Dma.zero).rd PCIE_LINK) 8 = true) ∧
    (let d := desc 1 0 0 16 0x1100000000 0x1100000040
     let s := dmaSt1 d 0
     s.pcieOn = true ∧ s.dmaSt 0 = 1 ∧ (s.dma 0).desc = some d ∧ (s.dma 0).done = false ∧ dOp d = 1 ∧ dShost d = false ∧ dDhost d = false ∧ dLen d = 16 ∧
       (s.dma 0).cnt = 0 ∧ (s.dmaRead 0 (dSrc d) 16).2.1 = .ok ∧ (s.dmaRead 0 (dSrc d) 16).2.2.length = 16 ∧ (s.dmaRead 0 (dSrc d) 16).1.dma 0 = s.dma 0 ∧
       ((s.dmaRead 0 (dSrc d) 16).1.dmaWrite 0 (dDst d) (s.dmaRead 0 (dSrc d) 16).2.2).2.1 = .ok ∧
       ((s.dmaRead 0 (dSrc d) 16).1.dmaWrite 0 (dDst d) (s.dmaRead 0 (dSrc d) 16).2.2).1.dma 0 = s.dma 0 ∧
       dLen d ≤ ((dmaSt1 d 16).dma 0).cnt) ∧
    (let d := desc 1 1 0 16 0 0x1100000040
     dOp d = 1 ∧ dShost d = true ∧ ((dmaSt1 d 0).dma 0).cnt < dLen d ∧ ((dmaSt1 d 0).dma 0).want = .none) ∧
    (let d := desc 2 0 0 16 0x1100000000 0
     let s := dmaSt1 d 0
     let u := (s.dmaRead 0 (dSrc d) 16).1
     dOp d = 2 ∧ dShost d = false ∧ (s.dma 0).left = [] ∧ (s.dmaRead 0 (dSrc d) 16).2.1 = .ok ∧ u.dma 0 = s.dma 0 ∧ u.dmaSt 0 = 1 ∧
       (u.sinkG pciePort (dQueue d) (tokenOf (bytesNat (s.dmaRead 0 (dSrc d) 16).2.2))).2 = true ∧
       (u.sinkG pciePort (dQueue d) (tokenOf (bytesNat (s.dmaRead 0 (dSrc d) 16).2.2))).1.dma 0 = s.dma 0 ∧
       (u.sinkG pciePort (dQueue d) (tokenOf (bytesNat (s.dmaRead 0 (dSrc d) 16).2.2))).1.dmaSt 0 = 1 ∧
       ({ s with cfg := { Cfg.zero with st := .starting } } : State).gsr = true ∧
       (({ s with cfg := { Cfg.zero with st := .starting } } : State).dmaRead 0 (dSrc d) 16).2.1 = .ok) ∧
    (let d := desc 3 0 1 16 0 0
     let s := toQueue d 0 1
     let p := s.qPeek 0 2
     let t := ((p.1.hostWr (dDst d) (natBytes 16 (tokenNat ((p.2).getD tok0)))).dmaCount 0 16).qDrop 0
     dOp d = 3 ∧ s.gsr = false ∧ dDhost d = true ∧ (s.qrec (fld (s.rd (PCIE_DMA_QUEUE 0)) 17 0)).cons = 2 ∧ fld (s.rd (PCIE_DMA_QUEUE 0)) 17 0 = 0 ∧ s.oneWay (queuePort 0) pciePort = true ∧ p.2.isSome = true ∧
       p.1.dma 0 = s.dma 0 ∧ t.dma 0 = { s.dma 0 with cnt := 16, want := .none }) ∧
    (let d := desc 3 0 1 32 0 0
     ((toQueue d 0 0).dma 0).cnt = 0 ∧ ((toQueue d 16 0).dma 0).cnt < dLen d ∧ 0 < ((toQueue d 16 0).dma 0).cnt ∧ ((toQueue d 16 0).qrec 0).depth = 0 ∧
       ((toQueue d 16 0).qrec 0).cons = 2) := by decide +kernel

/-- ChannelsRunDescriptors: descriptors done, answers of the host, halts. -/
theorem witness_dma_ends :
    (let s := dmaUp 0 1 { Dma.zero with desc := some (desc 1 0 0 16 0 0), done := true }
     (s.dma 0).desc = some (desc 1 0 0 16 0 0) ∧ (s.dma 0).done = true ∧ s.pcieOn = true ∧ s.dmaSt 0 = 1 ∧ s.ringHost 0 = true ∧ tb (s.rd PCIE_LINK) 8 = true ∧
       tb (s.rd (PCIE_DMA_CTRL 0)) 31 = false ∧ dIrq (desc 1 0 0 16 0 0) = false ∧ dIrq (2 ^ 27) = true) ∧
    ((dmaUp 0 1 Dma.zero).dma 0).desc = none ∧
    (let s := dmaUp 1 1 { Dma.zero with want := .desc }
     (s.dma 0).want = .desc ∧ s.ringAddr 0 < 2 ^ 64 ∧ descOk (bytesNat ((natBytes 32 (desc 1 0 0 16 0 0)).take 32)) = true ∧ HostStatus.ur ≠ .ok) ∧
    (let d := desc 1 1 0 16 0 0x1100000040
     let s := dmaUp 1 1 { Dma.zero with desc := some d, want := .data 16 }
     (s.dma 0).want = .data 16 ∧ (s.dma 0).desc = some d ∧ dSrc d + (s.dma 0).cnt < 2 ^ 64 ∧ dOp d = 1 ∧ dDhost d = false ∧
       dLen d = (s.dma 0).cnt + ((List.replicate 16 (0 : Byte)).take 16).length ∧
       ((s.setDma 0 { s.dma 0 with want := .none }).dmaWrite 0 (dDst d + (s.dma 0).cnt) ((List.replicate 16 (0 : Byte)).take 16)).2.1 = .ok ∧
       ((s.setDma 0 { s.dma 0 with want := .none }).dmaWrite 0 (dDst d + (s.dma 0).cnt) ((List.replicate 16 (0 : Byte)).take 16)).1.dma 0 =
         { s.dma 0 with want := .none }) ∧
    ((dmaUp 1 1 Dma.zero).dma 0).want = .none ∧
    ((dmaUp 1 3 Dma.zero).dmaSt 0 = 3 ∧ (dmaUp 1 3 Dma.zero).pcieOn = true ∧ fld ((dmaUp 1 3 Dma.zero).rd (PCIE_DMA_STAT 0)) 18 16 ≠ 1 ∧
      tb ((dmaUp 0 3 Dma.zero).rd (PCIE_DMA_CTRL 0)) 31 = false ∧ (dmaUp 1 0 Dma.zero).dmaSt 0 ≠ 3 ∧ (dmaUp 1 0 Dma.zero).dmaSt 0 = 0) := by decide +kernel

/-! Recorder, snapshots and in-service tests -/

def recSt (c : BitVec 2) : State := { up with strata := { Strata.zero with recs := [(0, ⟨0, 1, c, 1, []⟩)], newest := some 0, seq := 1 } }
def fullFrom (i : Nat) : Nat → SMap Rec
  | 0 => []
  | n + 1 => (i, ⟨0, 1, 3, 1, []⟩) :: fullFrom (i + 1) n

theorem fullFrom_find : ∀ n i j, smFind (fullFrom i n) j = if i ≤ j ∧ j < i + n then some ⟨0, 1, 3, 1, []⟩ else none
  | 0, i, j => by
    have h : ¬(i ≤ j ∧ j < i + 0) := by omega
    rw [if_neg h]; rfl
  | n + 1, i, j => by
    have h := fullFrom_find n (i + 1) j
    simp only [fullFrom, smFind, h]
    split <;> split <;> first | rfl | (split <;> first | rfl | omega) | omega

theorem fullFrom_sorted : ∀ n i, smSorted (fullFrom i n) = true
  | 0, _ => rfl
  | 1, _ => rfl
  | n + 2, i => by
    have h := fullFrom_sorted (n + 1) (i + 1)
    simp only [fullFrom, smSorted, Bool.and_eq_true, decide_eq_true_eq] at h ⊢
    exact ⟨Nat.lt_succ_self i, h⟩

/-- TheRecorderKeepsItsLog: the recorder empty and full of CRIT records; a queue monitored and not; a link that stands and one that does not; the RTC pair. -/
theorem witness_recorder :
    (guarBit 1 = none ∧ tb (up.rd STRATA_CTRL) 8 = false ∧ recSlot up.strata.recs (up.strata.seq - 1) 0 = some 0) ∧
    (smSorted up.strata.recs = true ∧ smFind up.strata.recs 0 = none ∧ (recSt 0).strata.newest = some 0 ∧ (recSt 2).garnetShut = false ∧
      ({ up with pins := { Pins.zero with vppLost := true } } : State).garnetShut = true) ∧
    (tb (up.rd (STRATA_QMON 0)) 31 = false ∧ tb ((up.wr (STRATA_QMON 0) 0x80000003#32).rd (STRATA_QMON 0)) 31 = true) ∧
    (up.linkOf (676 - 676) = none ∧ (rawSt laneX linkY).linkOf (676 - 676) = some 0 ∧ ((rawSt laneX linkY).link 0).st = 3 ∧
      ((rawSt laneX { linkY with st := 0 }).link 0).st ≠ 3) ∧
    (Reaches up .pcie STRATA_RTC_HI ∧ (smGet (0, 0) up.ifc.stage (ifCode .pcie)).1 ≠ STRATA_RTC_LO + 1 ∧
      (smGet (0, 0) (up.setStage .pcie (STRATA_RTC_LO + 1, 0)).ifc.stage (ifCode .pcie)).1 = STRATA_RTC_LO + 1 ∧
      Reaches (up.setStage .pcie (STRATA_RTC_LO + 1, 0)) .pcie STRATA_RTC_HI) := by
  unfold Reaches
  decide +kernel

theorem witness_recorder_full : smSorted (fullFrom 0 28672) = true ∧ (∀ i, i < 28672 → ∃ r, smFind (fullFrom 0 28672) i = some r ∧ r.sev = 3) ∧
    ∀ i, 28672 ≤ i → smFind (fullFrom 0 28672) i = none := by
  refine ⟨fullFrom_sorted _ _, fun i h => ⟨⟨0, 1, 3, 1, []⟩, ?_, rfl⟩, fun i h => ?_⟩
  · rw [fullFrom_find, if_pos (by omega)]
  · rw [fullFrom_find, if_neg (by omega)]

def boltSt (b : BoltWait) (rtc : BitVec 64) (h : Option BoltWait) : State :=
  { up with snap := { Snap.zero with pend := [b], held := h }, strata := { Strata.zero with rtc := rtc } }

/-- BoltsLatchSnapshots. -/
theorem witness_bolts :
    (tb (up.rd SNAP_CTRL) 16 = false ∧ tb (up.rd HALO_CTRL) 28 = false ∧ tb ((up.wr SNAP_CTRL 0x10000).rd SNAP_CTRL) 16 = true ∧ up.snap.pend = []) ∧
    (let s := boltSt ⟨8, 0⟩ 0 none
     ∃ b, b ∈ s.snap.pend ∧ b.tick = s.strata.rtc + BitVec.ofNat 64 (fld (s.rd SNAP_CTRL) 15 0)) ∧
    (let s : State := { up with snap := { Snap.zero with pend := [⟨100, 0⟩, ⟨101, 0⟩, ⟨102, 0⟩, ⟨103, 0⟩] } }
     4 ≤ s.snap.pend.length ∧ ∀ b, b ∈ s.snap.pend → b.tick ≠ s.strata.rtc + BitVec.ofNat 64 (fld (s.rd SNAP_CTRL) 15 0)) ∧
    (let s := up.wr HALO_CTRL 0x90000000#32
     tb (s.rd HALO_CTRL) 28 = true ∧ s.haloOn = true) ∧
    ((boltSt ⟨5, 0⟩ 5 none).tickPast 5 = true ∧ (boltSt ⟨5, 0⟩ 5 none).snap.held = none ∧ (boltSt ⟨5, 0⟩ 5 (some ⟨4, 0⟩)).snap.held = some ⟨4, 0⟩ ∧
      (4 : BitVec 64) ≠ 5 ∧ (boltSt ⟨5, 0⟩ 5 (some ⟨5, 1⟩)).snap.held = some ⟨5, 1⟩ ∧ (boltSt ⟨5, 0⟩ 4 none).tickPast 5 = false) ∧
    (let s : State := { boltSt ⟨5, 0⟩ 4 none with pins := { Pins.zero with por := true } }
     s.snap.pend = [⟨5, 0⟩] ∧ s.tickPast 5 = false ∧ s.strata.rtc + 1 = 5 ∧ s.snap.held = none ∧ s.pins.por = true) := by decide +kernel

def bistUp : State := up.wr (PWR_OPP 0) 0x3333#32
def bistSt (c : Nat) : State := { up with bist := { Bist.zero with runL := some ⟨c, true⟩ } }
def fencedSt : State := { up with flt := { Flt.zero with fence := [(0, true)] } }

/-- ClustersAreTestedInTurn. -/
theorem witness_bist :
    (tb (up.rd BIST_CTRL) 31 = true ∧ up.gsr = false ∧ up.bistRun 0 = none ∧ up.bistPick 0 = some 0 ∧ (up.setNext 0 (bistAfter 0 0)).bistFits 0 = false ∧
      (bistUp.setNext 0 (bistAfter 0 0)).bistFits 0 = true ∧ bistUp.bistPick 0 = some 0 ∧ bistUp.bistRun 0 = none ∧ bistUp.bistRun 1 = none ∧ bistUp.gsr = false ∧
      tb (bistUp.rd BIST_CTRL) 31 = true ∧ bistUp.dom 0 = .on ∧ up.fenced 0 = false) ∧
    ((bistSt 0).bistRun 0 = some ⟨0, true⟩ ∧ (bistSt 0).bistReady 0 = true ∧ ({ bistUp with bist := { Bist.zero with runL := some ⟨0, true⟩ } } : State).bistUpset 0 = false ∧
      (bistSt 0).bistUpset 0 = true ∧ (∀ i, i < 4 → ((bistSt 0).plane 0 i).st ≠ .valid) ∧
      ({ bistSt 0 with clusters := [(0, { Cluster.zero with run := some 1 })] } : State).bistReady 0 = false ∧ ((bistSt 0).bistRun (0 / 512)).isSome = true) ∧
    (fencedSt.bistRun (0 / 512) = none ∧ fencedSt.fenced 0 = true ∧ tb (fencedSt.rd STRATA_CTRL) 8 = false ∧ [true, true, true].take 3 = [true, true, true]) := by
  decide +kernel

/-! The machine as a whole -/

/-- StepRunsTheFrontCommand, EveryStepKeepsFusesAndTheQueue: a queue with a command in front, and an empty one. -/
theorem witness_step :
    ({ up with pending := [Instr.porAssert, .haloEnum] } : State).pending = .porAssert :: [.haloEnum] ∧ up.pending = [] ∧
    (∃ t, step { up with pending := [Instr.haloEnum] } = .next t) ∧ Instr.haloEnum.wf = true ∧ Micro.ok m0 (.field 0x03#5) false = true ∧
    (∀ r, r ∈ cellRows ++ portRows → ∀ c k m, Instr.haloEnum ≠ r.cmd c k m) ∧ (∀ c k m, Instr.haloEnum ≠ .psw c k m) := by
  refine ⟨rfl, rfl, ⟨_, rfl⟩, by decide, by decide, ?_, fun c k m h => by cases h⟩
  simp only [cellRows, portRows, List.cons_append, List.nil_append, List.forall_mem_cons]
  simp

/-- EveryStepKeepsFusesAndTheQueue: every row of the cell table has a legal microinstruction on a cycle just opened. -/
theorem witness_step_cells : ∀ r, r ∈ cellRows ++ portRows → CellLegal (up.openCycle 0 0) r 0 0 m0 := by
  unfold CellLegal
  decide

/-- RegistersReadBackAndCount, WordsAndFieldsAgree: a counter and a 64-bit counter with their overflow registers; a code at each end. -/
theorem witness_counters_words : CLK_CGTO ≠ CLK_CNTOVF ∧ GARNET_CNTOVF ≠ GARNET_WRITES_LO ∧ GARNET_CNTOVF ≠ GARNET_WRITES_LO + 4 ∧ (63 : Nat) < 64 ∧ (31 : Nat) < 32 ∧
    tokenNat tok0 < 2 ^ 128 := by decide

/-- ResetLeavesTheTablesValues: reset is the state the statement speaks of; its own registers are at their tables' values. -/
theorem test_reset_registers : State.reset.rd SYS_DEVID = 0x40965C11#32 ∧ State.reset.rd DSP_CTRL = 0x10#32 := by decide

set_option maxRecDepth 100000 in
/-- FillsAreGrantedInOrder: a stored plane whose PLANE_CRC agrees. -/
theorem witness_plane_crc_right : planeCrcOk [(511, 0x954F7B20#32)] = true := by decide +kernel

/-! Values the spec prints -/

/-- R52, chapter 2, DOT4 accumulation, the four results of L4. -/
theorem test_dot4_example :
    dot4 true true 0xFC03FE01#32 0x08F90605#32 0 = 0xFFFFFFC4#32 ∧ dot4 true true 0x281E140A#32 0x01010101#32 0xFFFFFFC4#32 = 0x28#32 ∧
    dot4 true true 0x00008080#32 0x00007F80#32 0x28#32 = 0xA8#32 ∧ dot4 true true 0x7F7F7F7F#32 0x7F7F7F7F#32 0xA8#32 = 0xFCAC#32 := by decide

/-- R123, chapter 5, "one token". -/
theorem test_token_example : tokenNat ⟨0x2C5, 0x1000, 2, .data, 4, 0x12345, false, 0x3E8A1#64⟩ = 0x2C5001000222468A000000000003E8A1 := by decide

/-- R217, chapter 8, "one load". -/
theorem test_load_example : cSlice 0x3456789AB = 168 ∧ cSet 0x3456789AB = 103 ∧ cTag 0x3456789AB = 0x345#12 ∧ cSector 0x3456789AB = 2 := by decide

/-- R324, chapter 12, "addressing one cell". -/
theorem test_mz_entry_example : mzEntryOf 0x10D20010#32 = (2, ⟨0, 6, true, false, 1, 0x10⟩) := by decide

/-- R469, chapter 17: 686 ns round to one tick. -/
theorem test_halo_ticks : nsTicks 686 = 1 := by decide

/-- R206, chapter 7, "one token across the spine": the header. -/
theorem test_header_example : Hdr.word ⟨0, 8, 0, false, 2, 14, 2, 3, 0, 2, 0, 1, 0, 0, 4⟩ = 0x080B930810000004#64 := by decide

/-- R217: a line's slice, set and tag give back its address. -/
theorem test_line_address : lineAddr 168 103 0x345#12 = 0x345678900 := by decide

end Sys2Proof.Tests
end

section
/-! PROOFS. What an issue of a cell writes to its sequence and loop counters, and what the end of the last issue cycle keeps of them (R45, R54, R55,
R70). -/

namespace Sys2Proof.Proofs

open Sys2Proof.Machine Sys2Proof.Safety Sys2Proof.Laws

/-! The counters of a cell -/

@[simp] theorem pl_setPl (x : Cell) (p q : Nat) (r : PlaneRegs) : (x.setPl p r).pl q = if q = p then r else x.pl q := smGet_smSet _ _ _ _ _

/-- In every plane `y` has the sequence counter and the loop counter of `x`. -/
def SameCounters (x y : Cell) : Prop := ∀ p, (y.pl p).sq = (x.pl p).sq ∧ (y.pl p).lc = (x.pl p).lc

theorem SameCounters.refl (x : Cell) : SameCounters x x := fun _ => ⟨rfl, rfl⟩

theorem SameCounters.trans {x y z : Cell} (h : SameCounters x y) (g : SameCounters y z) : SameCounters x z :=
  fun p => ⟨(g p).1.trans (h p).1, (g p).2.trans (h p).2⟩

/-- New registers of a plane with its old counters. -/
theorem SameCounters.of_setPl {x : Cell} {p : Nat} {r : PlaneRegs} (hs : r.sq = (x.pl p).sq) (hl : r.lc = (x.pl p).lc) :
    SameCounters x (x.setPl p r) := by
  intro q
  rw [pl_setPl]
  split
  · next h => exact h ▸ ⟨hs, hl⟩
  · exact ⟨rfl, rfl⟩

/-- A result written to its destination leaves the counters (R42). -/
theorem write_sameCounters (x : Cell) (p : Nat) (dst : BitVec 5) (v : Word) : SameCounters x (x.write p dst v) := by
  have hl : SameCounters x (x.setPl p { x.pl p with l := smSet 0 (x.pl p).l dst.toNat v }) := .of_setPl rfl rfl
  unfold Cell.write
  dsimp only
  split
  · exact hl
  · split_ifs <;> exact .refl x

theorem writeWide_sameCounters (x : Cell) (p : Nat) (dst : BitVec 5) (lo hi : Word) : SameCounters x (x.writeWide p dst lo hi) := by
  unfold Cell.writeWide
  split_ifs <;> exact (write_sameCounters _ _ _ _).trans (write_sameCounters _ _ _ _)

/-- A latency-2 result that lands leaves the counters (R46). -/
theorem land_sameCounters (x : Cell) : SameCounters x x.land := by
  unfold Cell.land
  split
  · exact .refl x
  · refine SameCounters.trans ?_ (.of_setPl rfl rfl)
    split
    · exact writeWide_sameCounters { x with pend := none } _ _ _ _
    · exact write_sameCounters { x with pend := none } _ _ _

/-! The counters over the end of a cycle -/

/-- Every cell of `t` has the counters it has in `s`. -/
def KeepsCounters (s t : State) : Prop := ∀ c k, SameCounters (s.cell c k) (t.cell c k)

theorem KeepsCounters.refl (s : State) : KeepsCounters s s := fun _ _ => .refl _

theorem KeepsCounters.of_cells {s t u : State} (h : KeepsCounters s t) (e : u.cells = t.cells) : KeepsCounters s u := by
  intro c k
  have hu : u.cell c k = t.cell c k := by unfold State.cell; rw [e]
  exact hu ▸ h c k

theorem KeepsCounters.setCell {s t : State} (h : KeepsCounters s t) {c k : Nat} {x : Cell} (hx : SameCounters (s.cell c k) x) :
    KeepsCounters s (t.setCell c k x) := by
  intro c' k'
  rw [State.cell_setCell]
  split
  · next e =>
    have hs : s.cell c' k' = s.cell c k := by unfold State.cell; rw [e]
    exact hs ▸ hx
  · exact h c' k'

theorem KeepsCounters.bump64N {s t : State} (h : KeepsCounters s t) (lo flag b n : Nat) : KeepsCounters s (t.bump64N lo flag b n) := by
  refine h.of_cells ?_
  rw [State.bump64N_only t lo flag b n]

theorem KeepsCounters.ite {s a b : State} {p : Prop} [Decidable p] (h : KeepsCounters s a) (g : KeepsCounters s b) :
    KeepsCounters s (if p then a else b) := by
  split <;> assumption

/-- The end of a cycle of one cluster that does not switch its plane (R70). -/
theorem endCluster_keepsCounters {s t : State} (h : KeepsCounters s t) (stall c : Nat) :
    KeepsCounters s (s.endCluster stall true t c) := by
  have hcell (k : Nat) : SameCounters (s.cell c k) (if (s.captured c k).issued then s.captured c k else (s.captured c k).land) := by
    split_ifs
    · exact .refl _
    · exact land_sameCounters _
  unfold State.endCluster
  dsimp only
  generalize hf : List.foldl _ t (List.range 32) = u
  have hu : KeepsCounters s u := by
    subst hf
    exact List.foldlRecOn _ _ h fun v hv k _ => hv.setCell (hcell k)
  have hc (y : Cluster) : KeepsCounters s (u.setCluster c y) := hu.of_cells rfl
  have hb (y : Cluster) (p : Prop) [Decidable p] (n : Nat) :
      KeepsCounters s (if p then (u.setCluster c y).bump64N (CLW_BUSY_LO c) (CLW_CTRL c) 0 n else u.setCluster c y) :=
    .ite ((hc y).bump64N _ _ _ _) (hc y)
  exact .ite ((hb _ _ _).bump64N _ _ _ _) (hb _ _ _)

/-- The end of the last issue cycle of a task (R70, R71). -/
theorem endCycle_keepsCounters {s : State} {c iid : Nat} {x : Inst} (hr : (s.cluster c).run = some iid) (hx : s.inst iid = some x)
    (he : x.st = .ending) : KeepsCounters s (s.endCycle c) := by
  unfold State.endCycle
  simp only [hr, hx, he, decide_true, Bool.or_true, if_true]
  refine KeepsCounters.of_cells (t := List.foldl _ _ _) ?_ rfl
  refine List.foldlRecOn _ _ ?_ fun v hv d _ => hv.of_cells rfl
  exact List.foldlRecOn _ _ (KeepsCounters.refl s) fun v hv d _ => endCluster_keepsCounters hv _ d

theorem closeOn_keepsCounters (s : State) (c : Nat) : KeepsCounters s (s.closeOn c) := by
  unfold State.closeOn
  split
  · next iid hr =>
    split
    · next x hx =>
      split
      · next h => exact endCycle_keepsCounters hr hx h.1
      · exact .refl s
    · exact .refl s
  · exact .refl s

/-! The SEQ action (R54, R55) -/

/-- The table of R54. -/
theorem seqNext_sq (seq sq : BitVec 3) (lc : BitVec 8) (f : Flags) (w : Word) :
    let n := (seqNext seq sq lc f w).1
    (seq = 0 → n = sq + 1) ∧ (seq = 1 → n = if lc ≠ 0 then loopStart w else sq + 1) ∧ (seq = 2 → n = if f.p then sq else sq + 1) ∧
    (seq = 3 → n = if f.p = false then sq else sq + 1) ∧ (seq = 4 → n = 0) ∧ (seq = 5 → n = sq) := by
  refine ⟨?_, ?_, ?_, ?_, ?_, ?_⟩ <;> rintro rfl
  · rfl
  · show (if lc ≠ 0 then (loopStart w, lc - 1) else (sq + 1, loopInit w)).1 = _
    split_ifs <;> rfl
  · rfl
  · unfold seqNext
    cases f.p <;> rfl
  · rfl
  · rfl

/-- LC changes in a LOOP only. -/
theorem seqNext_lc (seq sq : BitVec 3) (lc : BitVec 8) (f : Flags) (w : Word) :
    (seqNext seq sq lc f w).2 = if seq = 1 then (if lc ≠ 0 then lc - 1 else loopInit w) else lc := by
  by_cases h : seq = 1
  · subst h
    show (if lc ≠ 0 then (loopStart w, lc - 1) else (sq + 1, loopInit w)).2 = if lc ≠ 0 then lc - 1 else loopInit w
    split_ifs <;> rfl
  · have hn : seq.toNat ≠ 1 := fun e => h (BitVec.eq_of_toNat_eq e)
    unfold seqNext
    rw [if_neg h]
    split
    · exact absurd ‹_› hn
    all_goals rfl

theorem seq_le_of_ok {m : Micro} {role : XtRole} {wide : Bool} (h : Micro.ok m role wide = true) : m.seq.toNat ≤ 5 := by
  simp only [Micro.ok, Bool.and_eq_true, seqOk, decide_eq_true_eq] at h
  omega

/-! An issue of a cell -/

theorem doIssue_cell (s : State) (c k : Nat) (m : Micro) (o : Opnds) (r : Alu) :
    (s.doIssue c k m o r).cell c k = (s.cell c k).issue m o r (s.ctrlWord c o.p k) := by
  simp [State.doIssue]

theorem doIssue_cell_of_ne (s : State) {c k c' k' : Nat} (m : Micro) (o : Opnds) (r : Alu) (h : 32 * c' + k' ≠ 32 * c + k) :
    (s.doIssue c k m o r).cell c' k' = s.cell c' k' := by
  simp [State.doIssue, h]

theorem doIssue_cluster (s : State) (c k c' : Nat) (m : Micro) (o : Opnds) (r : Alu) :
    (s.doIssue c k m o r).cluster c' = if c' = c then { s.cluster c with last := some k } else s.cluster c' := by
  simp [State.doIssue]

/-- The counters of the executing plane after an issue: those of the SEQ action, but for the value of an LDLC (R54, R55). -/
theorem issue_counters (x : Cell) (m : Micro) (o : Opnds) (r : Alu) (w : Word) :
    let n := seqNext m.seq (x.pl o.p).sq (x.pl o.p).lc o.f w
    (((x.issue m o r w).pl o.p).sq = n.1) ∧ ((x.issue m o r w).pl o.p).lc = r.lc.getD n.2 := by
  have h (y : Cell) (q : PlaneRegs) : ({ y.setPl o.p q with carry := r.carry, issued := true } : Cell).pl o.p = q :=
    (pl_setPl y o.p o.p q).trans (if_pos rfl)
  exact ⟨congrArg PlaneRegs.sq (h _ _), congrArg PlaneRegs.lc (h _ _)⟩

/-- An issue with nothing to write: what was on its way lands, and the SEQ action follows (R45, R46). -/
theorem issue_nothing (x : Cell) (m : Micro) (o : Opnds) (w : Word) :
    let n := seqNext m.seq (x.pl o.p).sq (x.pl o.p).lc o.f w
    x.issue m o {} w = { x.land.setPl o.p { x.land.pl o.p with sq := n.1, lc := n.2 } with carry := false, issued := true } := rfl

/-! The rows of R52 as issues -/

/-- The command of row `r`, for cell `k` of cluster `c`, is the issue of the model's row `w` with result `alu` and effect `eff`. -/
def IssuesBy (r : CellRow) (c k : Nat) (m : Micro) (w : OpRow) (alu : State → Opnds → Alu) (eff : State → Opnds → State) : Prop :=
  (∀ s, exec (r.cmd c k m) s = cellIssue w alu eff c k m s) ∧ w.code = r.op ∧ w.role = r.role ∧ w.wide = r.wide ∧ w.chain = r.chain

/-- The operations that write their cell only: of them LDLC alone gives LC a value. -/
theorem cellRows_issue {r : CellRow} (hr : r ∈ cellRows) (c k : Nat) (m : Micro) :
    ∃ w g, IssuesBy r c k m w (fun _ => g) (fun s _ => s) ∧
      ∀ o, (g o).lc = if r.op = 0x35 then some (BitVec.ofNat 8 o.a.toNat) else none := by
  fin_cases hr
  all_goals
    dsimp only [IssuesBy, exec, execNop, execMov, execAdd, execAdc, execSub, execSbc, execSadd, execSsub, execUadd, execUsub, execAnd, execOr, execXor,
      execAndn, execShl, execShr, execSar, execRor, execFshl, execFshr, execCmpeq, execCmplt, execCmpltu, execMin, execMax, execMinu, execMaxu, execSel,
      execBsel, execTst, execMul, execMulw, execMulwu, execDot4ss, execDot4uu, execDot4su, execClmull, execClmulh, execCrcr8, execCrcn8, execClz,
      execPopc, execBfx, execBfxs, execBfi, execPerm, execLdlc, execGetf, execSetf, aluIssue]
    exact ⟨_, _, ⟨fun _ => rfl, rfl, rfl, rfl, rfl⟩, fun _ => rfl⟩

/-- The operations that reach beyond their cell. -/
theorem portRows_issue {r : CellRow} (hr : r ∈ portRows) (c k : Nat) (m : Micro) : ∃ w alu eff, IssuesBy r c k m w alu eff := by
  fin_cases hr
  all_goals
    dsimp only [IssuesBy, exec, execTcon, execTemit, execLdc, execStc, execRld, execRst, execRsp, execTend]
    exact ⟨_, _, _, fun _ => rfl, rfl, rfl, rfl, rfl⟩

/-- PSW in cell 0, the only one that may issue it (R66, R68). -/
theorem psw_issue (c : Nat) (m : Micro) :
    ∃ w alu eff, IssuesBy ⟨0x38, .field 0x03#5, false, false, false, .psw⟩ c 0 m w alu eff := by
  simp only [IssuesBy, exec, execPsw, ne_eq, not_true_eq_false, if_false]
  exact ⟨_, _, _, fun _ => rfl, rfl, rfl, rfl, rfl⟩

section
variable {r : CellRow} {c k : Nat} {m : Micro} {w : OpRow} {alu : State → Opnds → Alu} {eff : State → Opnds → State} {s : State}

/-- In its turn a cell with a false predicate issues nothing but its SEQ action (R45). -/
theorem IssuesBy.exec_off (h : IssuesBy r c k m w alu eff) (ht : CellTurn s c k r.op m) (hl : CellLegal s r c k m)
    (hoff : ¬CellOn s c k m) : exec (r.cmd c k m) s = .next ((s.doIssue c k m (s.opnds c k m w.dot4) {}).closeOn c) := by
  obtain ⟨hexec, hcode, hrole, hwide, hchain⟩ := h
  have hno : (s.opnds c k m w.dot4).on = false := Bool.eq_false_iff.mpr hoff
  rw [hexec, cellIssue_of_turn (hcode ▸ ht) (legal_of_row hl hrole hwide hchain), if_pos hno]

/-- In its turn a cell with a true predicate issues its result and effect. -/
theorem IssuesBy.exec_on (h : IssuesBy r c k m w alu eff) (ht : CellTurn s c k r.op m) (hl : CellLegal s r c k m)
    (hon : CellOn s c k m) :
    let o := s.opnds c k m w.dot4
    exec (r.cmd c k m) s = .next ((eff (s.doIssue c k m o (alu s o)) o).closeOn c) := by
  obtain ⟨hexec, hcode, hrole, hwide, hchain⟩ := h
  have hyes : (s.opnds c k m w.dot4).on ≠ false := by simpa [CellOn, State.opnds] using hon
  dsimp only
  rw [hexec, cellIssue_of_turn (hcode ▸ ht) (legal_of_row hl hrole hwide hchain), if_neg hyes]

end

/-- In its turn an operation that writes its cell only makes one issue there; the issue gives LC a value just when it is an LDLC that takes
effect (R55). -/
theorem cellRows_exec {r : CellRow} (hr : r ∈ cellRows) {s : State} {c k : Nat} {m : Micro} (ht : CellTurn s c k r.op m)
    (hl : CellLegal s r c k m) :
    ∃ dot a, exec (r.cmd c k m) s = .next ((s.doIssue c k m (s.opnds c k m dot) a).closeOn c) ∧
      (r.op = 0x35 → CellOn s c k m → a.lc = some (BitVec.ofNat 8 (s.opnds c k m false).a.toNat)) ∧
      (r.op ≠ 0x35 ∨ ¬CellOn s c k m → a.lc = none) := by
  obtain ⟨w, g, hi, hg⟩ := cellRows_issue hr c k m
  by_cases hon : CellOn s c k m
  · refine ⟨w.dot4, g (s.opnds c k m w.dot4), hi.exec_on ht hl hon, fun h _ => ?_, fun h => ?_⟩
    · rw [hg, if_pos h]; rfl
    · rw [hg, if_neg (h.resolve_right (not_not_intro hon))]
  · exact ⟨w.dot4, {}, hi.exec_off ht hl hon, fun _ h => absurd h hon, fun _ => rfl⟩

/-- Settles O7: the issue sets the counters by the SEQ action (`issue_counters`), and the end of a last issue cycle keeps them
(`closeOn_keepsCounters`). -/
theorem seqStepsTheCounter : Obligations.SeqStepsTheCounter := by
  intro r hr s c k m ht hl
  obtain ⟨dot, a, he, hset, hkeep⟩ := cellRows_exec hr ht hl
  refine ⟨seq_le_of_ok hl.1, _, he, ?_⟩
  have hend := closeOn_keepsCounters (s.doIssue c k m (s.opnds c k m dot) a) c c k (s.cluster c).plane
  rw [doIssue_cell] at hend
  obtain ⟨hsq, hlc⟩ := issue_counters (s.cell c k) m (s.opnds c k m dot) a (s.ctrlWord c (s.cluster c).plane k)
  have hy := hend.1.trans hsq
  have hz := hend.2.trans hlc
  obtain ⟨h0, h1, h2, h3, h4, h5⟩ := seqNext_sq m.seq ((s.cell c k).pl (s.cluster c).plane).sq ((s.cell c k).pl (s.cluster c).plane).lc
    ((s.cell c k).pl (s.cluster c).plane).fl (s.ctrlWord c (s.cluster c).plane k)
  refine ⟨fun h => hy.trans (h0 h), fun h => hy.trans (h1 h), fun h => hy.trans (h2 h), fun h => hy.trans (h3 h),
    fun h => hy.trans (h4 h), fun h => hy.trans (h5 h), fun hop hon => hz.trans ?_, fun h => hz.trans ?_⟩
  · rw [hset hop hon]; rfl
  · rw [hkeep h]; exact seqNext_lc _ _ _ _ _

/-- Settles O8: with a false predicate the issue has nothing to write (`issue_nothing`). -/
theorem falsePredicateOnlySequences : Obligations.FalsePredicateOnlySequences := by
  intro r hr s c k m hk ht hl hoff
  obtain ⟨w, alu, eff, hi⟩ : ∃ w alu eff, IssuesBy r c k m w alu eff := by
    rcases List.mem_append.mp hr with hr | hr
    · rcases List.mem_append.mp hr with hr | hr
      · obtain ⟨w, g, hi, _⟩ := cellRows_issue hr c k m
        exact ⟨w, _, _, hi⟩
      · exact portRows_issue hr c k m
    · obtain rfl := List.mem_singleton.mp hr
      obtain rfl := hk rfl
      exact psw_issue c m
  have hk32 : k < 32 := ht.1.2.1
  refine ⟨_, hi.exec_off ht hl hoff, rfl, ?_, fun c' hc => ?_, fun c' k' hk' hne => doIssue_cell_of_ne s m _ _ (by omega), ?_⟩
  · rw [doIssue_cluster, if_pos rfl]
  · rw [doIssue_cluster, if_neg hc]
  · rw [doIssue_cell, issue_nothing]; rfl

end Sys2Proof.Proofs
end
